-- ==== Sys2Proof/Word.lean ====
section
/-! DEFINITION. The words that travel on the controller's links. -/
namespace Sys2Proof

/-- One byte of a link frame or of a plan record (R179, R188). -/
abbrev Byte := BitVec 8

/-- A two-byte field, sent most significant byte first (Units and conventions). -/
abbrev Word16 := BitVec 16

/-- A four-byte field, sent most significant byte first (Units and conventions). -/
abbrev Word32 := BitVec 32

end Sys2Proof
end

