-- ==== Sys2Proof/Syntax.lean ====
section
/-! DEFINITION. The commands of the controller: one constructor per row of spec/opcode_table.json, with what the
outside hands over in that event. The table gives its rows no operands of their own; each operand here is a datum the
row's rule says the event carries. -/
namespace Sys2Proof

/-- A lane, numbered 0 to 3 from the web reference edge (Units and conventions). -/
inductive Lane where
  | lane0 | lane1 | lane2 | lane3
deriving DecidableEq, Repr

/-- The two encoders of J3 (R1). -/
inductive Encoder where
  | infeed | outfeed
deriving DecidableEq, Repr

/-- The four roles of the station link, in their stagger slots 0 to 3 (R154). -/
inductive Role where
  | laminator | beam | unwind | trim
deriving DecidableEq, Repr

/-- The inputs that raise trip causes (R143). -/
inductive TripInput where
  | estop | dancerTop | dancerBottom | driveFault
deriving DecidableEq, Repr

/-- The three transaction kinds of the station link (R156). -/
inductive TxnKind where
  | poll | write | read
deriving DecidableEq, Repr

/-- An answer frame on the station link as it arrives: the station's address, the kind, the payload and the check (R156). The spec
gives the address and the kind no size; each is one byte (DESIGN CHOICE, log entry 51). -/
structure Answer where
  addr : Byte
  kind : Byte
  payload : List Byte
  check : Word16
deriving DecidableEq, Repr

/-- A plan record as PAGE_LOAD carries it (R188). -/
abbrev RawRecord := Vector Byte 16

/-- The commands, one per row of the opcode table. A request constructor is a request frame of that kind with the
given tag and payload fields (section 11.2). -/
inductive Instr where
  | powerOn (s1Fitted : Bool)
  | forwardCount (e : Encoder)
  | reverseCount (e : Encoder)
  | quadratureDoubleChange (e : Encoder)
  | leadingEdge (n : Lane)
  | trailingEdge (n : Lane)
  | inspectAssert (n : Lane) (asserted : Bool)
  | inPosition
  | traverseEnd
  | indexTimeout
  | cutTimeout
  | tripInputAsserted (i : TripInput) (asserted : Bool)
  | dwellExpiry
  | beamTimeout
  | pollDue (r : Role)
  | stationAnswer (a : Answer)
  | replyTimeout
  | delayTimerExpiry (ch : Lane)
  | acceptChange (n : Lane) (high : Bool)
  | handoffTimeout (ch : Lane)
  | busyChange (n : Lane) (high : Bool)
  | lineFrameReceived (bytes : List Byte)
  | frameGapTimeout (next : Byte)
  | frameSent
  | badKind (kind tag : Byte) (payload : List Byte)
  | status (tag : Byte)
  | setup (tag : Byte) (pairs : List (Byte × Word32))
  | thread (tag : Byte) (p : Word32)
  | run (tag : Byte)
  | hold (tag : Byte)
  | resume (tag : Byte)
  | recover (tag : Byte)
  | lineReset (tag : Byte)
  | pageLoad (tag : Byte) (page first : Byte) (records : List RawRecord)
  | pageArm (tag : Byte) (page : Byte)
  | pageClear (tag : Byte) (page : Byte)
  | pageQuery (tag : Byte) (page : Byte)
  | panelQuery (tag : Byte) (lane : Byte)
  | flagPanel (tag : Byte) (lane : Byte) (panelId : Word16)
  | zoneAdd (tag : Byte) (offset length : Word32)
  | stationRelay (tag : Byte) (targetType target direction width : Byte) (index : Word16) (data : List Byte)
  | frameLengthDiscard (length : Byte)
deriving DecidableEq, Repr

end Sys2Proof
end

