-- ==== Sys2Proof/Decode.lean ====
section
/-! DEFINITION. The host's word decoder. No row of spec/opcode_table.json gives bits (its rows have no "fixed" and no
"fields"), so no word spells a command. The byte layouts of the line link are in Machine/Operands.lean. -/
namespace Sys2Proof

/-- The command a table word spells: none, since no row of the table gives bits. -/
def decodeTableWord (_nbits _w : Nat) : Option Instr := none

end Sys2Proof
end

