-- ==== Sys2Proof/Machine/Bytes.lean ====
section
/-! DEFINITION. Arithmetic of "Rounding words" (Units and conventions), byte order, and the CRC of R179. -/
namespace Sys2Proof.Machine

/-- The quotient rounded to nearest, a half rounded away from zero, for a positive divisor (Units and conventions). -/
def roundDiv (a b : Int) : Int :=
  if 0 ≤ a then (2 * a + b) / (2 * b) else -((2 * (-a) + b) / (2 * b))

/-- The quotient truncated toward zero (Units and conventions). -/
def truncDiv (a b : Int) : Int := a.tdiv b

/-- The smaller of two coordinates. -/
def lower (a b : Int) : Int := if a ≤ b then a else b

/-- The larger of two coordinates. -/
def higher (a b : Int) : Int := if a ≤ b then b else a

/-- A value limited to `lo` .. `hi`. -/
def limitTo (lo hi v : Int) : Int := if v < lo then lo else if hi < v then hi else v

/-- The distance of two coordinates. -/
def distance (a b : Int) : Int := if a ≤ b then b - a else a - b

/-- One byte of a number, two's complement (Units and conventions). -/
def byteOf (v : Int) : Byte := BitVec.ofInt 8 v

/-- A number in two bytes, most significant first. -/
def be16 (v : Int) : List Byte := [byteOf (v / 256), byteOf v]

/-- A number in four bytes, most significant first: its low 32 bits. For a signed field whose number lies beyond 32 signed bits,
as a zone's start or end can (R99, R182, R184), the spec gives no bytes, and these are the model's (DESIGN CHOICE, log entry 45). -/
def be32 (v : Int) : List Byte := [byteOf (v / 16777216), byteOf (v / 65536), byteOf (v / 256), byteOf v]

/-- The number in a run of bytes, most significant first. -/
def beNat (bs : List Byte) : Nat := bs.foldl (fun (acc : Nat) (b : Byte) => acc * 256 + b.toNat) 0

/-- Two bytes as a two-byte field. -/
def word16Of (a b : Byte) : Word16 := a ++ b

/-- Four bytes as a four-byte field. -/
def word32Of (a b c d : Byte) : Word32 := a ++ b ++ c ++ d

/-- The two bytes of a two-byte field. -/
def word16Bytes (w : Word16) : List Byte := [w.extractLsb' 8 8, w.extractLsb' 0 8]

/-- The four bytes of a four-byte field. -/
def word32Bytes (w : Word32) : List Byte :=
  [w.extractLsb' 24 8, w.extractLsb' 16 8, w.extractLsb' 8 8, w.extractLsb' 0 8]

/-- One shift of the CRC register, generator x^16 + x^12 + x^5 + 1 (R179). -/
def crcShift (c : BitVec 16) : BitVec 16 := if c.getLsbD 15 then (c <<< 1) ^^^ 0x1021#16 else c <<< 1

/-- One byte taken into the CRC register, most significant bit first (R179). -/
def crcByte (c : BitVec 16) (b : Byte) : BitVec 16 :=
  crcShift (crcShift (crcShift (crcShift (crcShift (crcShift (crcShift (crcShift (c ^^^ (b.setWidth 16 <<< 8)))))))))

/-- The CRC-16 of a run of bytes; the register starts at 0xFFFF (R179). -/
def crc16 (bs : List Byte) : BitVec 16 := bs.foldl (fun (c : BitVec 16) (b : Byte) => crcByte c b) 0xFFFF#16

/-- A set of marks as a byte, the first mark in bit 0 (R187, R189). -/
def bitsByte (bs : List Bool) : Byte := BitVec.ofNat 8 (bs.foldr (fun (b : Bool) (n : Nat) => 2 * n + b.toNat) 0)

/-- The same for up to sixteen marks (R170, R187). -/
def bitsWord (bs : List Bool) : Nat := bs.foldr (fun (b : Bool) (n : Nat) => 2 * n + b.toNat) 0

end Sys2Proof.Machine
end

