-- ==== Sys2Proof/Config.lean ====
section
/-! DEFINITION. What an implementation or a setup fixes: the names of the 55 setup parameters, in the order of
their numbers (section 11.4), and the codes of the station link's transaction kinds. The parameters' ranges and defaults stand
in Machine/Params.lean, the values in force in State. -/
namespace Sys2Proof

/-- The code of a POLL on the station link; the spec gives the kinds no codes, so each is a value nothing constrains
(R156, log entry 9). -/
opaque pollCode : Byte
/-- The code of a WRITE (R156, log entry 9). -/
opaque writeCode : Byte
/-- The code of a READ (R156, log entry 9). -/
opaque readCode : Byte

/-- The setup parameters; the first is number 1, the last number 55 (section 11.4). -/
inductive Param where
  | inScaleN | inScaleD | outScaleN | outScaleD | beamDist | lockDist
  | startOffset | mergeWin | cutTol | indexTimeout | cutTimeout | creepMax
  | markWin | searchWin | missLimit | cellPitch | barShortMax | barLongMin
  | parityMode | tagPolicy | stretchLimit | stretchWeight | cMin | cLow
  | cHigh | cMax | runSpeed | slowSpeed | outSpeed | dwellLimit
  | dwellZoneLen | filmPath | spliceLeadback | spliceZoneLen | pollInterval | pollStagger
  | stationWatchdog | replyTimeout | roleAddrLaminator | roleAddrBeam | roleAddrUnwind | roleAddrTrim
  | beamTimeout | handoffMode0 | handoffMode1 | handoffMode2 | handoffMode3 | handoffTd0
  | handoffTd1 | handoffTd2 | handoffTd3 | handoffGanged | handoffInhibit | lineInvert
  | handoffTimeout
deriving DecidableEq, Repr

/-- All parameters in the order of their numbers. -/
def Param.all : List Param :=
  [.inScaleN, .inScaleD, .outScaleN, .outScaleD, .beamDist, .lockDist,
   .startOffset, .mergeWin, .cutTol, .indexTimeout, .cutTimeout, .creepMax,
   .markWin, .searchWin, .missLimit, .cellPitch, .barShortMax, .barLongMin,
   .parityMode, .tagPolicy, .stretchLimit, .stretchWeight, .cMin, .cLow,
   .cHigh, .cMax, .runSpeed, .slowSpeed, .outSpeed, .dwellLimit,
   .dwellZoneLen, .filmPath, .spliceLeadback, .spliceZoneLen, .pollInterval, .pollStagger,
   .stationWatchdog, .replyTimeout, .roleAddrLaminator, .roleAddrBeam, .roleAddrUnwind, .roleAddrTrim,
   .beamTimeout, .handoffMode0, .handoffMode1, .handoffMode2, .handoffMode3, .handoffTd0,
   .handoffTd1, .handoffTd2, .handoffTd3, .handoffGanged, .handoffInhibit, .lineInvert,
   .handoffTimeout]

end Sys2Proof
end

