-- ==== Sys2Proof/Machine/Params.lean ====
section
/-! DEFINITION. The setup parameters: numbers, ranges, defaults (the tables of chapters 1, 3 to 10), and the set in force. -/
namespace Sys2Proof.Machine

/-- Lowest value, highest value and default of each parameter, as its owner's table gives them. -/
def paramTable : Param → Int × Int × Int
  | .inScaleN           => (1, 65535, 1)
  | .inScaleD           => (1, 65535, 1)
  | .outScaleN          => (1, 65535, 1)
  | .outScaleD          => (1, 65535, 1)
  | .beamDist           => (40000, 120000, 80000)
  | .lockDist           => (5000, 30000, 15000)
  | .startOffset        => (-500, 500, 0)
  | .mergeWin           => (0, 200, 50)
  | .cutTol             => (10, 500, 50)
  | .indexTimeout       => (500, 10000, 4000)
  | .cutTimeout         => (500, 10000, 3000)
  | .creepMax           => (0, 3, 2)
  | .markWin            => (100, 2000, 500)
  | .searchWin          => (1000, 10000, 5000)
  | .missLimit          => (1, 7, 3)
  | .cellPitch          => (100, 400, 200)
  | .barShortMax        => (100, 1000, 300)
  | .barLongMin         => (200, 2000, 600)
  | .parityMode         => (0, 3, 1)
  | .tagPolicy          => (0, 1, 0)
  | .stretchLimit       => (1000, 30000, 20000)
  | .stretchWeight      => (0, 4, 2)
  | .cMin               => (10000, 4000000, 150000)
  | .cLow               => (10000, 4000000, 250000)
  | .cHigh              => (10000, 4000000, 450000)
  | .cMax               => (10000, 4000000, 550000)
  | .runSpeed           => (10, 400, 100)
  | .slowSpeed          => (5, 399, 40)
  | .outSpeed           => (10, 600, 200)
  | .dwellLimit         => (0, 30000, 2000)
  | .dwellZoneLen       => (0, 200000, 30000)
  | .filmPath           => (0, 1000000, 120000)
  | .spliceLeadback     => (0, 100000, 20000)
  | .spliceZoneLen      => (0, 200000, 40000)
  | .pollInterval       => (2, 50, 10)
  | .pollStagger        => (0, 1, 1)
  | .stationWatchdog    => (2, 15, 4)
  | .replyTimeout       => (1, 20, 5)
  | .roleAddrLaminator  => (0, 15, 1)
  | .roleAddrBeam       => (0, 15, 2)
  | .roleAddrUnwind     => (0, 15, 3)
  | .roleAddrTrim       => (0, 15, 4)
  | .beamTimeout        => (1000, 60000, 20000)
  | .handoffMode0       => (0, 3, 2)
  | .handoffMode1       => (0, 3, 2)
  | .handoffMode2       => (0, 3, 2)
  | .handoffMode3       => (0, 3, 2)
  | .handoffTd0         => (0, 47, 18)
  | .handoffTd1         => (0, 47, 18)
  | .handoffTd2         => (0, 47, 18)
  | .handoffTd3         => (0, 47, 18)
  | .handoffGanged      => (0, 1, 0)
  | .handoffInhibit     => (0, 15, 15)
  | .lineInvert         => (0, 65535, 0)
  | .handoffTimeout     => (1, 120, 30)

/-- The lowest value of a parameter's range. -/
def paramLow (p : Param) : Int := (paramTable p).1

/-- The highest value of a parameter's range. -/
def paramHigh (p : Param) : Int := (paramTable p).2.1

/-- The default of a parameter. -/
def paramDefault (p : Param) : Int := (paramTable p).2.2

/-- The place of a parameter in the parameter set: its number less one. -/
def paramIndex (p : Param) : Fin 55 := Fin.ofNat 55 p.ctorIdx

/-- The number of a parameter, 1 to 55 (section 11.4). -/
def paramNumber (p : Param) : Nat := (paramIndex p).val + 1

/-- The parameter with a number, none for 0 and for numbers above 55 (R185 step 1). -/
def paramOfNumber (n : Nat) : Option Param := if n = 0 then none else Param.all[n - 1]?

/-- A value brought into its parameter's range (R185 step 3). -/
def clampParam (p : Param) (v : Int) : Int :=
  if v < paramLow p then paramLow p else if paramHigh p < v then paramHigh p else v

/-- The lengths and limits the spec fixes. -/
def coordCeiling : Nat := 4000000000
/-- The largest hold-back, in counts (R1). -/
def holdBackMax : Nat := 65535
/-- The overlong limit of a PLAIN bar, in wu (R46). -/
def overlongLimit : Int := 10000
/-- Contexts a lane's list can hold (R32, R80). -/
def listMax : Nat := 12
/-- Zones the Zone List can hold (R93). -/
def zoneMax : Nat := 8
/-- Line actions that can wait (R157). -/
def actionMax : Nat := 16
/-- Frames the request queue can hold (R180). -/
def requestMax : Nat := 4
/-- Events the event queue can hold (R183). -/
def eventMax : Nat := 32
/-- The longest payload of a line-link frame (R179). -/
def payloadMax : Nat := 240

end Sys2Proof.Machine
end

