-- ==== Sys2Proof/Machine/State.lean ====
section
/-! DEFINITION. The state of the controller, block by block as the guide's "Block organisation" names them, and State.reset, the
state after power-on. Coordinates a block holds are whole numbers of wu (`Int`); the counters of the two channels are naturals. -/
namespace Sys2Proof.Machine

/-! ## Tables with one place per lane and per role -/

/-- One value for each lane. -/
structure Lanes (α : Type) where
  l0 : α
  l1 : α
  l2 : α
  l3 : α
deriving DecidableEq, Repr

/-- One value for each role. -/
structure Roles (α : Type) where
  laminator : α
  beam : α
  unwind : α
  trim : α
deriving DecidableEq, Repr

/-! ## Web Counter (R1) -/

/-- One counting channel: coordinate, remainder r, hold-back H (R1). -/
structure Counter where
  coord : Nat
  rem : Nat
  hold : Nat
deriving DecidableEq, Repr

/-- The two channels of the Web Counter (R1). -/
structure Web where
  infeed : Counter
  outfeed : Counter
deriving DecidableEq, Repr

/-! ## Pins -/

/-- The levels the outside puts on the controller's pins. `accept` and `busy` are electrical levels (true is high), the
others are asserted meanings; `eyeDark` is true while a mark lies under the eye (R39). The forced fields are levels a
short or a load puts on an output (R170). -/
structure Pins where
  eyeDark : Lanes Bool
  inspect : Lanes Bool
  estopOpen : Bool
  dancerTop : Bool
  dancerBottom : Bool
  driveFault : Bool
  accept : Lanes Bool
  busy : Lanes Bool
  s1Fitted : Bool
  deliverForced : Lanes (Option Bool)
  rejectForced : Lanes (Option Bool)
  laneSel0Forced : Option Bool
  laneSel1Forced : Option Bool
deriving DecidableEq, Repr

/-! ## Plan Store and Plan Reader (R16, R17, R26) -/

/-- The five page states (R17). -/
inductive PageState where
  | empty | loading | armed | opened | spent
deriving DecidableEq, Repr

/-- A plan page; an absent slot is VOID (R16). -/
structure Page where
  state : PageState
  slots : Vector (Option RawRecord) 16
  count : Nat
  openPanels : Nat
deriving DecidableEq, Repr

/-- The Plan Store with the next-page pointer (R16, R26). -/
structure PlanStore where
  pages : Vector Page 8
  next : Fin 8
deriving DecidableEq, Repr

/-- The reader state with its read position (R26). -/
inductive Reader where
  | inactive
  | waiting
  | reading (page : Fin 8) (slot copy : Nat)
  | stalled (page : Fin 8) (slot copy : Nat)
  | layoutStop (page : Fin 8) (slot : Nat)
  | finished
deriving DecidableEq, Repr

/-- The source of a context, which tells it apart from every other context of its list (R80, R81). -/
structure Source where
  page : Fin 8
  slot : Nat
  copy : Nat
deriving DecidableEq, Repr

/-! ## Eye Interface (R42) -/

/-- The decode state of an eye, with the decode in progress (R42, R43). `good` says the start bar was judged good
(R48); `cells` are the cells sampled so far, cell 0 first (R49); `inspected` is the flag of R56. -/
inductive Decode where
  | off
  | clearing
  | watching
  | inBar (m : Int) (inspected : Bool)
  | inCode (m : Int) (good : Bool) (cells : List Bool) (inspected : Bool)
deriving DecidableEq, Repr

/-- An armed inspection interval: the panel that owns the position x, and whether it has begun (R57). -/
structure Interval where
  owner : Source
  x : Int
  begun : Bool
deriving DecidableEq, Repr

/-- The Eye Interface of one lane; `held` is the signal level held before H rose (R41). -/
structure Eye where
  decode : Decode
  held : Bool
  startInterval : Option Interval
  pitchInterval : Option Interval
deriving DecidableEq, Repr

/-- The kind of a mark record (R53). -/
inductive MarkKind where
  | start | pitch | undecoded
deriving DecidableEq, Repr

/-- A mark record as the Eye Interface hands it over (R53); its decision coordinate is the beam coordinate of the hand-over. -/
structure MarkRecord where
  m : Int
  coded : Bool
  kind : MarkKind
  tag : Option Nat
  inspected : Bool
deriving DecidableEq, Repr

/-! ## Registration Unit (R59) -/

/-- The registration states (R60). -/
inductive RegState where
  | unused | seeking | tracking | coasting | lost | blind
deriving DecidableEq, Repr

/-- The last mark accepted or synthesised: coordinate, nominal offset, source, panel (R61). -/
structure Anchor where
  pos : Int
  offset : Int
  observed : Bool
  panel : Source
deriving DecidableEq, Repr

/-- The next pitch mark of the current panel (R63). -/
structure PitchExpect where
  k : Int
  x : Int
deriving DecidableEq, Repr

/-- The START of a panel expected or pending at x (R64, R70). -/
structure StartExpect where
  panel : Source
  x : Int
deriving DecidableEq, Repr

/-- The registration record of one lane (R59); `f` is the stretch estimate F in ppm. -/
structure LaneReg where
  state : RegState
  anchor : Option Anchor
  f : Int
  miss : Nat
  current : Option Source
  lastEnd : Option Int
  pitch : Option PitchExpect
  start : Option StartExpect
  synth : Option StartExpect
deriving DecidableEq, Repr

/-! ## Lane Tracker (R80, R81) -/

/-- The states a context in a list can have (R82). -/
inductive CtxState where
  | expected | active | cut | delivering
deriving DecidableEq, Repr

/-- The set of reject reasons (R86). -/
structure Reasons where
  inspection : Bool
  tag : Bool
  splice : Bool
  dwell : Bool
  operator : Bool
  host : Bool
deriving DecidableEq, Repr

/-- The set of notes (R86). -/
structure Notes where
  unverified : Bool
  unregistered : Bool
  merged : Bool
  crept : Bool
  recut : Bool
  unconfirmed : Bool
deriving DecidableEq, Repr

/-- A panel context (R81). A reference to a cut entry is the entry's order number. -/
structure Ctx where
  panelId : Nat
  tag : Nat
  src : Source
  nominal : Int
  lead : Int
  pitch : Int
  coded : Bool
  synth : Bool
  pauseAfter : Bool
  state : CtxState
  startEntry : Option Nat
  endEntry : Option Nat
  startTarget : Option Int
  endTarget : Option Int
  startActual : Option Int
  endActual : Option Int
  fEndLock : Option Int
  reasons : Reasons
  notes : Notes
deriving DecidableEq, Repr

/-! ## Zone List (R93) -/

/-- What spoiled the web of a zone (R93). -/
inductive ZoneCause where
  | splice | dwell | operator
deriving DecidableEq, Repr

/-- A waste zone: it covers every coordinate from `lo` up to and below `hi` (R93). -/
structure Zone where
  lo : Int
  hi : Int
  cause : ZoneCause
deriving DecidableEq, Repr

/-! ## Cut Queue and Knife Sequencer (R101) -/

/-- The status of a cut entry (R101, R111). -/
inductive CutStatus where
  | provisional | locked | indexing | positioned | cutting | interrupted
deriving DecidableEq, Repr

/-- What a cut does in one lane: the panel it ends and the panel it starts (R101). -/
structure LanePart where
  ends : Option Source
  starts : Option Source
deriving DecidableEq, Repr

/-- A pending cross-cut. Its lane mask is the set of lanes with a lane part (R101). -/
structure Entry where
  coord : Int
  parts : Lanes (Option LanePart)
  status : CutStatus
  creeps : Nat
  order : Nat
deriving DecidableEq, Repr

/-- The Cut Queue, the two timers and the knife port's outputs (R101, R112, R115, R151). A running timer holds the ms it
was started at. -/
structure Cuts where
  entries : List Entry
  nextOrder : Nat
  indexTimer : Option Nat
  cutTimer : Option Nat
  knifeStart : Bool
  knifeLanes : Lanes Bool
deriving DecidableEq, Repr

/-! ## Motion Controller (R134) -/

/-- The line states (R134). -/
inductive LineState where
  | idle | ready | running | holding | held | tripped
deriving DecidableEq, Repr

/-- The hold reasons (R134). -/
inductive HoldReason where
  | host | planStarved | planPause | tagMismatch | station | beam | handoffTimeout | laminatorNotReady
deriving DecidableEq, Repr

/-- The trip causes (R134). -/
inductive TripCause where
  | estop | dancerTop | dancerBottom | indexTimeout | knifeTimeout | encoderReverse | coordLimit | outfeedFault
deriving DecidableEq, Repr

/-- The hold set (R134). -/
structure HoldSet where
  host : Bool
  planStarved : Bool
  planPause : Bool
  tagMismatch : Bool
  station : Bool
  beam : Bool
  handoffTimeout : Bool
  laminatorNotReady : Bool
deriving DecidableEq, Repr

/-- The trip set (R134). -/
structure TripSet where
  estop : Bool
  dancerTop : Bool
  dancerBottom : Bool
  indexTimeout : Bool
  knifeTimeout : Bool
  encoderReverse : Bool
  coordLimit : Bool
  outfeedFault : Bool
deriving DecidableEq, Repr

/-- The accumulator bands (R145). -/
inductive Band where
  | normal | slowed | stopped
deriving DecidableEq, Repr

/-- The nip command (R146). -/
inductive Nip where
  | opened | closed
deriving DecidableEq, Repr

/-- The outfeed motion states; BOUNDED holds the outfeed coordinate its STOP_AT was sent for (R148, R150). -/
inductive Outfeed where
  | stopped
  | free
  | bounded (point : Int)
  | indexed
  | halting
deriving DecidableEq, Repr

/-- The commands of the drive port (R148). -/
inductive DriveCommand where
  | run (speed : Int)
  | stopAt (distance : Int)
  | halt
deriving DecidableEq, Repr

/-- The Motion Controller. `drive` is the command sent last on the drive port. -/
structure Motion where
  line : LineState
  holds : HoldSet
  trips : TripSet
  firstCause : Option TripCause
  jobEnd : Bool
  band : Band
  speed : Int
  nip : Nip
  starve : Bool
  outfeed : Outfeed
  drive : Option DriveCommand
deriving DecidableEq, Repr

/-! ## Beam Controller (R123, R124) -/

/-- A slitter layout (R123). -/
structure Layout where
  laneCount : Nat
  gap : Int
  leftTrim : Word16
  slit1 : Word16
  slit2 : Word16
  slit3 : Word16
  rightTrim : Word16
  label : Byte
deriving DecidableEq, Repr

/-- The changeover state with the pending layout and the guard coordinate (R124). -/
inductive Changeover where
  | none
  | pending (layout : Layout)
  | moving (layout : Layout) (guardAt : Int)
  | failed (layout : Layout) (guardAt : Int)
deriving DecidableEq, Repr

/-- The Beam Controller. The beam timer runs from the move action's ACK (R128). `move` numbers the moves raised
(log entry 11). -/
structure Beam where
  current : Layout
  changeover : Changeover
  timer : Option Nat
  move : Nat
deriving DecidableEq, Repr

/-! ## Station Link Master (R154) -/

/-- The station states (R155). -/
inductive StationState where
  | absent | unknown | present | lost
deriving DecidableEq, Repr

/-- State and failure count of a role (R154); its address is the parameter ROLE_ADDR. -/
structure StationRecord where
  state : StationState
  failures : Nat
deriving DecidableEq, Repr

/-- The nip as the LAMINATOR reports it (R160). -/
inductive NipReport where
  | opened | closed | moving
deriving DecidableEq, Repr

/-- The LAMINATOR's status fields (R160). -/
structure LaminatorStatus where
  heatReady : Bool
  nip : NipReport
  speed : Nat
  fault : Bool
deriving DecidableEq, Repr

/-- The BEAM's status field (R161). -/
inductive BeamStatus where
  | idle | moving | done | fault
deriving DecidableEq, Repr

/-- The UNWIND's status fields (R162). -/
structure UnwindStatus where
  splices : Nat
  rollLow : Bool
deriving DecidableEq, Repr

/-- The TRIM's status field (R163). -/
inductive TrimStatus where
  | ok | broken | full
deriving DecidableEq, Repr

/-- The line actions (R165); the BEAM actions carry the number of the move they belong to (log entry 11). -/
inductive Action where
  | speed (v : Int)
  | nip (n : Nip)
  | positions (move : Nat) (layout : Layout)
  | move (move : Nat)
deriving DecidableEq, Repr

/-- Whose transaction is in flight (R156). -/
inductive Owner where
  | poll (r : Role)
  | action (a : Action)
  | relay
deriving DecidableEq, Repr

/-- A transaction on the station link: address, owner, kind and request payload, for a READ its count, and the time in ms its
answer is awaited, REPLY_TIMEOUT as it stood when the request was sent (R156, R168). -/
structure Txn where
  addr : Nat
  owner : Owner
  kind : TxnKind
  payload : List Byte
  count : Nat
  timeout : Nat
deriving DecidableEq, Repr

/-- The relay in progress (R166, R167): the request's tag, the resolved address, direction, index width, the next chunk's
index, the bytes still to write, the bytes still to read, the bytes carried and the data read. -/
structure Relay where
  tag : Byte
  addr : Nat
  write : Bool
  width : Nat
  index : Nat
  toWrite : List Byte
  toRead : Nat
  carried : Nat
  got : List Byte
deriving DecidableEq, Repr

/-- The Station Link Master (R154, R157). -/
structure Station where
  records : Roles StationRecord
  laminator : Option LaminatorStatus
  beam : Option BeamStatus
  unwind : Option UnwindStatus
  trim : Option TrimStatus
  spliceRecord : Option Nat
  rollLow : Bool
  actions : List Action
  due : List Role
  relay : Option Relay
  inFlight : Option Txn
deriving DecidableEq, Repr

/-! ## Outfeed Handoff (section 10.3) -/

/-- The channel states (section 10.3). -/
inductive ChannelState where
  | idle | settling | pulsing | offered | releasing
deriving DecidableEq, Repr

/-- A handoff channel (section 10.3). `reject` is what R174 decided at the offer. The delay timer holds ms, the
handoff timer seconds. -/
structure Channel where
  state : ChannelState
  owner : Option (Lane × Source)
  delay : Option Nat
  timer : Option Nat
  reject : Bool
deriving DecidableEq, Repr

/-- The Outfeed Handoff: the channels and the wait list of ganged mode (R172, R177). -/
structure Handoff where
  channels : Lanes Channel
  waiting : List (Lane × Source)
deriving DecidableEq, Repr

/-! ## Line Link (R179 to R184) -/

/-- A line-link frame without start byte, length and CRC, which follow from it (R179). -/
structure Frame where
  kind : Byte
  tag : Byte
  payload : List Byte
deriving DecidableEq, Repr

/-- The results of a panel (R87). -/
inductive PanelResult where
  | good | outOfTol | reject
deriving DecidableEq, Repr

/-- The contents of PANEL_DONE (R89). -/
structure PanelReport where
  panelId : Nat
  lane : Lane
  src : Source
  result : PanelResult
  reasons : Reasons
  notes : Notes
  startTarget : Int
  startActual : Int
  endTarget : Int
  endActual : Int
  fEndLock : Int
deriving DecidableEq, Repr

/-- The sorts of LINE_STATE (R184); a layout event carries the lane count and the label. -/
inductive LineEventSort where
  | state | jobEnd
  | layout (laneCount : Nat) (label : Byte)
deriving DecidableEq, Repr

/-- The sorts of MARK_NOTICE with the value each carries (R184). -/
inductive MarkNotice where
  | malformed
  | stray (kind : MarkKind)
  | lost
  | stretchLimit (sample : Int)
deriving DecidableEq, Repr

/-- The sorts of PAGE_NOTICE (R184). -/
inductive PageNotice where
  | released | planLow
  | planError (slot : Nat)
deriving DecidableEq, Repr

/-- The sorts of STATION_NOTICE (R184). -/
inductive StationNotice where
  | lost | present | splicesUnknown | rollLow
deriving DecidableEq, Repr

/-- The sorts of ZONE_NOTICE (R184). -/
inductive ZoneNotice where
  | late | merged
deriving DecidableEq, Repr

/-- An event, its contents fixed when it is queued (R183, R184). -/
inductive Event where
  | panelDone (r : PanelReport)
  | lineState (sort : LineEventSort) (line : LineState) (holds : HoldSet) (trips : TripSet) (first : Option TripCause)
  | markNotice (sort : MarkNotice) (lane : Lane) (at_ : Int)
  | pageNotice (sort : PageNotice) (page : Fin 8)
  | stationNotice (sort : StationNotice) (role : Role)
  | zoneNotice (sort : ZoneNotice) (cause : ZoneCause) (lo hi : Int)
deriving DecidableEq, Repr

/-- The Line Link (R180, R181, R183). `rx` holds the bytes of a frame taken so far, start byte first; it is empty while
the receiver hunts. `tx` is the frame in transmission. -/
structure LineLink where
  rx : List Byte
  requests : List Frame
  reply : Option Frame
  tx : Option Frame
  events : List Event
  eventsLost : Bool
  baud : Nat
deriving DecidableEq, Repr

/-- The state of the controller, and the commands that wait to be taken (log entry 1). -/
structure State where
  web : Web
  params : Vector Int 55
  pins : Pins
  store : PlanStore
  reader : Reader
  eyes : Lanes Eye
  reg : Lanes LaneReg
  lists : Lanes (List Ctx)
  zones : List Zone
  cuts : Cuts
  motion : Motion
  beam : Beam
  station : Station
  hand : Handoff
  link : LineLink
  pending : List Instr
deriving DecidableEq, Repr

/-- Faults of the machine. There is none: every fault the spec names (a trip cause, a hold reason, a refusal status in a
reply) is an effect on State after which the controller goes on. Nobody raises one, which is safe. -/
inductive Fault where
deriving DecidableEq, Repr

/-- Refusals of the model. -/
inductive Refusal where
  /-- Raised by exec for a command that has no meaning yet, named by its mnemonic; safe, since no next state is claimed. -/
  | notModelled (mnemonic : String)
deriving DecidableEq, Repr

/-! ## Power-on values -/

/-- The same value in every lane. -/
def Lanes.same {α : Type} (a : α) : Lanes α := ⟨a, a, a, a⟩

/-- An EMPTY page: every slot VOID, both counts 0 (R16). -/
def Page.empty : Page := ⟨.empty, Vector.replicate 16 none, 0, 0⟩

/-- The Plan Store after power-on and line reset (R38). -/
def PlanStore.cleared : PlanStore := ⟨Vector.replicate 8 Page.empty, 0⟩

/-- An eye that is OFF, with no interval armed (R58). The level held before H rose is light, the model's choice: the spec gives it
no power-on value (log entry 38). -/
def Eye.cleared : Eye := ⟨.off, false, none, none⟩

/-- The registration record after power-on and line reset (R79). -/
def LaneReg.cleared : LaneReg := ⟨.unused, none, 0, 0, none, none, none, none, none⟩

/-- The Cut Queue after power-on, line reset and THREAD (R122). R151 has the lane lines deasserted at power-on and names the start
line alone at line reset; the model drops the lane lines there too (DESIGN CHOICE, log entry 49). -/
def Cuts.cleared : Cuts := ⟨[], 0, none, none, false, Lanes.same false⟩

/-- No hold reason. -/
def HoldSet.empty : HoldSet := ⟨false, false, false, false, false, false, false, false⟩

/-- No trip cause. -/
def TripSet.empty : TripSet := ⟨false, false, false, false, false, false, false, false⟩

/-- The Motion Controller after power-on (R153). -/
def Motion.powerOn : Motion :=
  ⟨.idle, HoldSet.empty, TripSet.empty, none, false, .normal, 0, .opened, false, .stopped, none⟩

/-- The parked layout (R123). -/
def Layout.parked : Layout := ⟨1, 0, 0, 0, 0, 0, 0, 0⟩

/-- The Beam Controller after power-on (R133). -/
def Beam.powerOn : Beam := ⟨Layout.parked, .none, none, 0⟩

/-- The Station Link Master after power-on: every default address is nonzero, so every role is UNKNOWN (R169). -/
def Station.powerOn : Station :=
  ⟨⟨⟨.unknown, 0⟩, ⟨.unknown, 0⟩, ⟨.unknown, 0⟩, ⟨.unknown, 0⟩⟩, none, none, none, none, none, false, [], [], none, none⟩

/-- A handoff channel that is IDLE (R178). -/
def Channel.idle : Channel := ⟨.idle, none, none, none, false⟩

/-- The Outfeed Handoff after power-on and line reset (R178). -/
def Handoff.cleared : Handoff := ⟨Lanes.same Channel.idle, []⟩

/-- The baud rate strap S1 gives (Connections). -/
def baudOf (s1Fitted : Bool) : Nat := if s1Fitted then 460800 else 115200

/-- The Line Link after power-on (R190). -/
def LineLink.powerOn (s1Fitted : Bool) : LineLink := ⟨[], [], none, none, [], false, baudOf s1Fitted⟩

/-- Reasons and notes of a context just created (R31). -/
def Reasons.empty : Reasons := ⟨false, false, false, false, false, false⟩

/-- No note. -/
def Notes.empty : Notes := ⟨false, false, false, false, false, false⟩

/-- The default of every parameter, in the order of the numbers (R190). -/
def defaultParams : Vector Int 55 := Vector.ofFn (fun i => (Param.all[i.val]?.map paramDefault).getD 0)

/-- Input pins at reset: eyes light, every input deasserted, ACCEPT and BUSY low, S1 open, no output forced
(DESIGN CHOICE: the spec gives no level; log entries 7 and 21). -/
def Pins.quiet : Pins :=
  ⟨Lanes.same false, Lanes.same false, false, false, false, false, Lanes.same false, Lanes.same false, false,
    Lanes.same none, Lanes.same none, none, none⟩

/-- Every block at its power-on values, with the pins as they stand and the commands that wait (R15, R38, R58, R79, R92,
R100, R122, R133, R153, R169, R178, R190). -/
def State.poweredOn (pins : Pins) (pending : List Instr) : State where
  web := ⟨⟨0, 0, 0⟩, ⟨0, 0, 0⟩⟩
  params := defaultParams
  pins := pins
  store := PlanStore.cleared
  reader := .inactive
  eyes := Lanes.same Eye.cleared
  reg := Lanes.same LaneReg.cleared
  lists := Lanes.same []
  zones := []
  cuts := Cuts.cleared
  motion := Motion.powerOn
  beam := Beam.powerOn
  station := Station.powerOn
  hand := Handoff.cleared
  link := LineLink.powerOn pins.s1Fitted
  pending := pending

/-- The controller right after power-on, with no command waiting. -/
def State.reset : State := State.poweredOn Pins.quiet []

end Sys2Proof.Machine
end

