-- ==== Sys2Proof/Machine/Ops.lean ====
section
/-! DEFINITION. Reading and writing the state by name: lanes and roles, parameters, coordinates, panel contexts, events. -/
namespace Sys2Proof.Machine

/-! ## Lanes and roles -/

/-- The number of a lane (Units and conventions). -/
def laneNum : Lane → Nat
  | .lane0 => 0
  | .lane1 => 1
  | .lane2 => 2
  | .lane3 => 3

/-- The lane with a number, none above 3. -/
def laneOf : Nat → Option Lane
  | 0 => some .lane0
  | 1 => some .lane1
  | 2 => some .lane2
  | 3 => some .lane3
  | _ => none

/-- The lanes, lowest first. -/
def laneList : List Lane := [.lane0, .lane1, .lane2, .lane3]

/-- The value of a lane. -/
def Lanes.get {α : Type} (t : Lanes α) : Lane → α
  | .lane0 => t.l0
  | .lane1 => t.l1
  | .lane2 => t.l2
  | .lane3 => t.l3

/-- The table with one lane's value replaced. -/
def Lanes.set {α : Type} (t : Lanes α) (n : Lane) (a : α) : Lanes α :=
  match n with
  | .lane0 => { t with l0 := a }
  | .lane1 => { t with l1 := a }
  | .lane2 => { t with l2 := a }
  | .lane3 => { t with l3 := a }

/-- The values, lane 0 first. -/
def Lanes.toList {α : Type} (t : Lanes α) : List α := [t.l0, t.l1, t.l2, t.l3]

/-- The roles in stagger order (R154). -/
def roleList : List Role := [.laminator, .beam, .unwind, .trim]

/-- The code of a role (R181). -/
def roleNum : Role → Nat
  | .laminator => 0
  | .beam => 1
  | .unwind => 2
  | .trim => 3

/-- The role with a code, none above 3. -/
def roleOf : Nat → Option Role
  | 0 => some .laminator
  | 1 => some .beam
  | 2 => some .unwind
  | 3 => some .trim
  | _ => none

/-- The value of a role. -/
def Roles.get {α : Type} (t : Roles α) : Role → α
  | .laminator => t.laminator
  | .beam => t.beam
  | .unwind => t.unwind
  | .trim => t.trim

/-- The table with one role's value replaced. -/
def Roles.set {α : Type} (t : Roles α) (r : Role) (a : α) : Roles α :=
  match r with
  | .laminator => { t with laminator := a }
  | .beam => { t with beam := a }
  | .unwind => { t with unwind := a }
  | .trim => { t with trim := a }

/-! ## One update for each part of the state -/

/-- The state with its web part changed. -/
def State.onWeb (s : State) (f : Web → Web) : State := { s with web := f s.web }
/-- The state with its input pins changed. -/
def State.onPins (s : State) (f : Pins → Pins) : State := { s with pins := f s.pins }
/-- The state with the Plan Store changed. -/
def State.onStore (s : State) (f : PlanStore → PlanStore) : State := { s with store := f s.store }
/-- The state with the reader state replaced. -/
def State.setReader (s : State) (r : Reader) : State := { s with reader := r }
/-- The state with one eye changed. -/
def State.onEye (s : State) (n : Lane) (f : Eye → Eye) : State := { s with eyes := s.eyes.set n (f (s.eyes.get n)) }
/-- The state with one registration record changed. -/
def State.onReg (s : State) (n : Lane) (f : LaneReg → LaneReg) : State :=
  { s with reg := s.reg.set n (f (s.reg.get n)) }
/-- The state with one panel list changed. -/
def State.onList (s : State) (n : Lane) (f : List Ctx → List Ctx) : State :=
  { s with lists := s.lists.set n (f (s.lists.get n)) }
/-- The state with the Zone List changed. -/
def State.onZones (s : State) (f : List Zone → List Zone) : State := { s with zones := f s.zones }
/-- The state with the Cut Queue and Knife Sequencer changed. -/
def State.onCuts (s : State) (f : Cuts → Cuts) : State := { s with cuts := f s.cuts }
/-- The state with the Motion Controller changed. -/
def State.onMotion (s : State) (f : Motion → Motion) : State := { s with motion := f s.motion }
/-- The state with the Beam Controller changed. -/
def State.onBeam (s : State) (f : Beam → Beam) : State := { s with beam := f s.beam }
/-- The state with the Station Link Master changed. -/
def State.onStation (s : State) (f : Station → Station) : State := { s with station := f s.station }
/-- The state with the Outfeed Handoff changed. -/
def State.onHand (s : State) (f : Handoff → Handoff) : State := { s with hand := f s.hand }
/-- The state with the Line Link changed. -/
def State.onLink (s : State) (f : LineLink → LineLink) : State := { s with link := f s.link }

/-! ## Parameters and coordinates -/

/-- The value in force of a parameter. -/
def State.par (s : State) (p : Param) : Int := s.params[paramIndex p]

/-- The infeed coordinate (R9). -/
def State.inPos (s : State) : Int := s.web.infeed.coord

/-- The outfeed coordinate (R9). -/
def State.outPos (s : State) : Int := s.web.outfeed.coord

/-- The beam coordinate (R10). -/
def State.beamPos (s : State) : Int := s.outPos + s.par .beamDist

/-- The accumulator content C (R11). -/
def State.content (s : State) : Int := s.inPos - s.outPos

/-- The lock point (R95, R107). -/
def State.lockPoint (s : State) : Int := s.outPos + s.par .lockDist

/-- The lane is used in the current layout (R123). -/
def State.used (s : State) (n : Lane) : Bool := laneNum n < s.beam.current.laneCount

/-- The guard coordinate while the guard stands (R124, R127). -/
def State.guardAt (s : State) : Option Int :=
  match s.beam.changeover with
  | .moving _ g => some g
  | .failed _ g => some g
  | .none => none
  | .pending _ => none

/-- The blind flag (R124). -/
def State.blinded (s : State) : Bool := s.guardAt.isSome

/-- BEAM_WAIT (R127). -/
def State.beamWait (s : State) : Bool :=
  match s.guardAt with
  | some g => decide (g ≤ s.beamPos)
  | none => false

/-- The eye of a lane is active (R40). -/
def State.eyeActive (s : State) (n : Lane) : Bool := (s.motion.line != .idle) && s.used n && !s.blinded

/-- The dwell timer runs (R147). -/
def State.dwellRunning (s : State) : Bool :=
  s.motion.line != .idle && s.motion.speed == 0 && s.motion.nip == .closed && s.par .dwellLimit != 0

/-- The address of a role (R154). -/
def State.roleAddr (s : State) (r : Role) : Nat :=
  (match r with
   | .laminator => s.par .roleAddrLaminator
   | .beam => s.par .roleAddrBeam
   | .unwind => s.par .roleAddrUnwind
   | .trim => s.par .roleAddrTrim).toNat

/-! ## Events (R183) -/

/-- An event joins the event queue, or is discarded with the events-lost indicator set when 32 wait (R183). -/
def queueEvent (e : Event) (s : State) : State :=
  s.onLink fun l =>
    if l.events.length < eventMax then { l with events := l.events ++ [e] } else { l with eventsLost := true }

/-- LINE_STATE with the line fields as they stand (R135, R184). -/
def queueLine (sort : LineEventSort) (s : State) : State :=
  queueEvent (.lineState sort s.motion.line s.motion.holds s.motion.trips s.motion.firstCause) s

/-! ## Panel contexts (R80, R81) -/

/-- The context of a lane with a given source. -/
def State.ctx? (s : State) (n : Lane) (src : Source) : Option Ctx := (s.lists.get n).find? (fun c => c.src == src)

/-- One context changed in its list. -/
def State.onCtx (s : State) (n : Lane) (src : Source) (f : Ctx → Ctx) : State :=
  s.onList n (List.map (fun c => if c.src == src then f c else c))

/-- The head EXPECTED context of a lane (R59). -/
def State.headExpected (s : State) (n : Lane) : Option Ctx := (s.lists.get n).find? (fun c => c.state == .expected)

/-- The lane's table is free (R80). -/
def State.tableFree (s : State) (n : Lane) : Bool :=
  (s.lists.get n).all (fun c => c.state != .cut && c.state != .delivering)

/-- A context receives the reject reason INSPECTION (R56, R57). Its causes reach EXPECTED and ACTIVE contexts (R86): a panel whose
interval or window outlasts its cut receives nothing, so that no reason reaches a DELIVERING context (R85, R174; DEDUCED, log
entry 52). -/
def giveInspection (n : Lane) (src : Source) (s : State) : State :=
  s.onCtx n src fun c =>
    if c.state = .expected ∨ c.state = .active then { c with reasons := { c.reasons with inspection := true } } else c

/-- Does a set of reasons hold any reason (R87, R174). -/
def Reasons.any (r : Reasons) : Bool := r.inspection || r.tag || r.splice || r.dwell || r.operator || r.host

/-! ## Cut entries -/

/-- The entry with an order number (R101). -/
def State.entry? (s : State) (o : Nat) : Option Entry := s.cuts.entries.find? (fun e => e.order == o)

/-- The head of the Cut Queue (R111). -/
def State.headEntry (s : State) : Option Entry := s.cuts.entries.head?

/-- The state with the head entry changed. -/
def State.onHead (s : State) (f : Entry → Entry) : State :=
  s.onCuts fun c => { c with entries := match c.entries with | [] => [] | e :: r => f e :: r }

/-- A change made in every lane, lowest first. -/
def forLanes (f : Lane → State → State) (s : State) : State := f .lane3 (f .lane2 (f .lane1 (f .lane0 s)))

/-- Each panel an entry starts or ends is changed (R113, R119). -/
def onEntryPanels (e : Entry) (f : Ctx → Ctx) (s : State) : State :=
  forLanes (fun n s =>
    match e.parts.get n with
    | none => s
    | some p =>
      let s := match p.ends with | some q => s.onCtx n q f | none => s
      match p.starts with | some q => s.onCtx n q f | none => s) s

end Sys2Proof.Machine
end

