-- ==== Sys2Proof/Machine/Flags.lean ====
section
/-! DEFINITION. The coded values and the sets of bits that replies and events carry (R182, R184, R187, R189), and the electrical
levels of the stacker lines (R170, R177). -/
namespace Sys2Proof.Machine

/-! ## Sets as bytes -/

/-- The hold set, HOST in bit 0 (R187). -/
def holdByte (h : HoldSet) : Byte :=
  bitsByte [h.host, h.planStarved, h.planPause, h.tagMismatch, h.station, h.beam, h.handoffTimeout, h.laminatorNotReady]

/-- The trip set, ESTOP in bit 0 (R187). -/
def tripByte (t : TripSet) : Byte :=
  bitsByte [t.estop, t.dancerTop, t.dancerBottom, t.indexTimeout, t.knifeTimeout, t.encoderReverse, t.coordLimit,
    t.outfeedFault]

/-- The reject reasons, INSPECTION in bit 0 (R189). -/
def reasonsByte (r : Reasons) : Byte := bitsByte [r.inspection, r.tag, r.splice, r.dwell, r.operator, r.host]

/-- The notes, UNVERIFIED in bit 0 (R189). -/
def notesByte (n : Notes) : Byte := bitsByte [n.unverified, n.unregistered, n.merged, n.crept, n.recut, n.unconfirmed]

/-! ## Membership of the hold and trip sets -/

/-- A reason is in the hold set (R134). -/
def HoldSet.has (h : HoldSet) : HoldReason → Bool
  | .host => h.host
  | .planStarved => h.planStarved
  | .planPause => h.planPause
  | .tagMismatch => h.tagMismatch
  | .station => h.station
  | .beam => h.beam
  | .handoffTimeout => h.handoffTimeout
  | .laminatorNotReady => h.laminatorNotReady

/-- The hold set with a reason added (R141). -/
def HoldSet.add (h : HoldSet) : HoldReason → HoldSet
  | .host => { h with host := true }
  | .planStarved => { h with planStarved := true }
  | .planPause => { h with planPause := true }
  | .tagMismatch => { h with tagMismatch := true }
  | .station => { h with station := true }
  | .beam => { h with beam := true }
  | .handoffTimeout => { h with handoffTimeout := true }
  | .laminatorNotReady => { h with laminatorNotReady := true }

/-- A cause is in the trip set (R134). -/
def TripSet.has (t : TripSet) : TripCause → Bool
  | .estop => t.estop
  | .dancerTop => t.dancerTop
  | .dancerBottom => t.dancerBottom
  | .indexTimeout => t.indexTimeout
  | .knifeTimeout => t.knifeTimeout
  | .encoderReverse => t.encoderReverse
  | .coordLimit => t.coordLimit
  | .outfeedFault => t.outfeedFault

/-- The trip set with a cause added (R143). -/
def TripSet.add (t : TripSet) : TripCause → TripSet
  | .estop => { t with estop := true }
  | .dancerTop => { t with dancerTop := true }
  | .dancerBottom => { t with dancerBottom := true }
  | .indexTimeout => { t with indexTimeout := true }
  | .knifeTimeout => { t with knifeTimeout := true }
  | .encoderReverse => { t with encoderReverse := true }
  | .coordLimit => { t with coordLimit := true }
  | .outfeedFault => { t with outfeedFault := true }

/-! ## Codes -/

/-- The code of a line state (R187). -/
def lineCode : LineState → Byte
  | .idle => 0
  | .ready => 1
  | .running => 2
  | .holding => 3
  | .held => 4
  | .tripped => 5

/-- The bit number of a trip cause (R187). -/
def causeCode : TripCause → Byte
  | .estop => 0
  | .dancerTop => 1
  | .dancerBottom => 2
  | .indexTimeout => 3
  | .knifeTimeout => 4
  | .encoderReverse => 5
  | .coordLimit => 6
  | .outfeedFault => 7

/-- The first cause, 255 while absent (R187). -/
def firstCauseCode : Option TripCause → Byte
  | none => 255
  | some c => causeCode c

/-- The code of an accumulator band (R187). -/
def bandCode : Band → Byte
  | .normal => 0
  | .slowed => 1
  | .stopped => 2

/-- The code of a page state (R187). -/
def pageCode : PageState → Byte
  | .empty => 0
  | .loading => 1
  | .armed => 2
  | .opened => 3
  | .spent => 4

/-- The code of a registration state (R187). -/
def regCode : RegState → Byte
  | .unused => 0
  | .seeking => 1
  | .tracking => 2
  | .coasting => 3
  | .lost => 4
  | .blind => 5

/-- The code of a station state (R187). -/
def stationCode : StationState → Byte
  | .absent => 0
  | .unknown => 1
  | .present => 2
  | .lost => 3

/-- The code of a context state. R182 gives it for PANEL_QUERY, and no size for the field; that it is one byte, and the code of
FLAG_PANEL's reply too, is the model's choice (DESIGN CHOICE, log entry 54). -/
def ctxCode : CtxState → Byte
  | .expected => 0
  | .active => 1
  | .cut => 2
  | .delivering => 3

/-- The code of a panel result (R189). -/
def resultCode : PanelResult → Byte
  | .good => 0
  | .outOfTol => 1
  | .reject => 2

/-- The code of a mark kind in MARK_NOTICE (R184). -/
def markCode : MarkKind → Byte
  | .start => 0
  | .pitch => 1
  | .undecoded => 2

/-- The code of a zone cause (R184). -/
def zoneCauseCode : ZoneCause → Byte
  | .splice => 0
  | .dwell => 1
  | .operator => 2

/-- The status codes of replies (R182). -/
inductive Status where
  | ok | clamped | badKind | badLength | wrongState | pageState | late | causeActive | notReady | badValue | noSuch
  | stationFail
deriving DecidableEq, Repr

/-- The code of a status (R182). -/
def statusCode : Status → Byte
  | .ok => 0x00
  | .clamped => 0x01
  | .badKind => 0x10
  | .badLength => 0x11
  | .wrongState => 0x20
  | .pageState => 0x21
  | .late => 0x22
  | .causeActive => 0x23
  | .notReady => 0x24
  | .badValue => 0x30
  | .noSuch => 0x31
  | .stationFail => 0x40

/-- The reply to a request of a kind with a tag: its kind plus 0x80, its tag, the status code and the bytes that follow
(R182). -/
def replyFrame (kind tag : Byte) (st : Status) (rest : List Byte) : Frame := ⟨kind + 0x80, tag, statusCode st :: rest⟩

/-- A reply is made; it waits to be sent (R181, R182). -/
def reply (kind tag : Byte) (st : Status) (rest : List Byte) (s : State) : State :=
  s.onLink fun l => { l with reply := some (replyFrame kind tag st rest) }

/-! ## Events as frames (R183, R184, R189) -/

/-- The 27-byte report (R189). -/
def reportBytes (r : PanelReport) : List Byte :=
  be16 r.panelId ++ [byteOf (laneNum r.lane), byteOf r.src.page.val, byteOf r.src.slot, byteOf r.src.copy,
    resultCode r.result, reasonsByte r.reasons, notesByte r.notes]
  ++ be32 r.startTarget ++ be32 r.startActual ++ be32 r.endTarget ++ be32 r.endActual ++ be16 r.fEndLock

/-- The kind code of an event (R184). -/
def eventKind : Event → Byte
  | .panelDone _ => 0x40
  | .lineState _ _ _ _ _ => 0x41
  | .markNotice _ _ _ => 0x42
  | .pageNotice _ _ => 0x43
  | .stationNotice _ _ => 0x44
  | .zoneNotice _ _ _ _ => 0x45

/-- The subtype of a LINE_STATE with lane count and label (R184). -/
def lineSortBytes : LineEventSort → Byte × List Byte
  | .state => (0, [0, 0])
  | .jobEnd => (1, [0, 0])
  | .layout n l => (2, [byteOf n, l])

/-- The subtype of a MARK_NOTICE with its value (R184). -/
def markSortBytes : MarkNotice → Byte × List Byte
  | .malformed => (0, be32 0)
  | .stray k => (1, be32 (markCode k).toNat)
  | .lost => (2, be32 0)
  | .stretchLimit v => (3, be32 v)

/-- The fields of an event after the flags byte (R184). A zone's start and end are sent by their low 32 bits (`be32`, log
entry 45). -/
def eventFields : Event → List Byte
  | .panelDone r => reportBytes r
  | .lineState sort line holds trips first =>
      [(lineSortBytes sort).1, lineCode line, holdByte holds, tripByte trips, firstCauseCode first] ++ (lineSortBytes sort).2
  | .markNotice sort lane x => [(markSortBytes sort).1, byteOf (laneNum lane)] ++ be32 x ++ (markSortBytes sort).2
  | .pageNotice sort page =>
      match sort with
      | .released => [0, byteOf page.val, 0]
      | .planLow => [1, byteOf page.val, 0]
      | .planError slot => [2, byteOf page.val, byteOf slot]
  | .stationNotice sort role =>
      [match sort with | .lost => 0 | .present => 1 | .splicesUnknown => 2 | .rollLow => 3, byteOf (roleNum role)]
  | .zoneNotice sort cause lo hi =>
      [match sort with | .late => 0 | .merged => 1, zoneCauseCode cause] ++ be32 lo ++ be32 hi

/-- The frame of an event, its flags byte as the indicator stands when transmission begins (R183). -/
def eventFrame (lost : Bool) (e : Event) : Frame := ⟨eventKind e, 0, bitsByte [lost] :: eventFields e⟩

/-! ## The stacker lines (R170, R177) -/

/-- DELIVER of a channel is asserted (section 10.3). -/
def delivering (c : Channel) : Bool := c.state == .pulsing || c.state == .offered

/-- REJECT of a channel is asserted (R174). -/
def rejecting (c : Channel) : Bool := delivering c && c.reject

/-- The lane number LANE_SEL presents, 0 when DELIVER0 is deasserted or the handoff is not ganged (R177). -/
def State.laneSel (s : State) : Nat :=
  if s.par .handoffGanged = 1 && delivering s.hand.channels.l0 then
    match s.hand.channels.l0.owner with
    | some o => laneNum o.1
    | none => 0
  else 0

/-- Is a line inverted by LINE_INVERT (R170). -/
def State.inverted (s : State) (bit : Nat) : Bool := (s.par .lineInvert).toNat.testBit bit

/-- The level of an output: the one it is driven to, unless a short or load forces another (R170). -/
def outLevel (asserted inverted : Bool) (forced : Option Bool) : Bool := forced.getD (asserted != inverted)

/-- ACCEPT of a lane is asserted (R170). -/
def State.acceptAsserted (s : State) (n : Lane) : Bool := s.pins.accept.get n != s.inverted (8 + laneNum n)

/-- BUSY of a lane is asserted (R170). -/
def State.busyAsserted (s : State) (n : Lane) : Bool := s.pins.busy.get n != s.inverted (12 + laneNum n)

/-- The lane is inhibited (R115, R176). -/
def State.inhibited (s : State) (n : Lane) : Bool :=
  (s.par .handoffInhibit).toNat.testBit (laneNum n) && s.busyAsserted n

/-- The levels of the sixteen handoff lines in the bit order of R170, as read back at the connector (R187). -/
def State.lineLevels (s : State) : Nat :=
  bitsWord (
    laneList.map (fun n => outLevel (delivering (s.hand.channels.get n)) (s.inverted (laneNum n)) (s.pins.deliverForced.get n))
    ++ laneList.map (fun n =>
      outLevel (rejecting (s.hand.channels.get n)) (s.inverted (4 + laneNum n)) (s.pins.rejectForced.get n))
    ++ s.pins.accept.toList ++ s.pins.busy.toList)

/-- The levels of LANE_SEL0 and LANE_SEL1 (R177, R187). -/
def State.laneSelLevels (s : State) : Byte :=
  bitsByte [s.pins.laneSel0Forced.getD (s.laneSel.testBit 0), s.pins.laneSel1Forced.getD (s.laneSel.testBit 1)]

end Sys2Proof.Machine
end

