-- ==== Sys2Proof/Machine/Motion.lean ====
section
/-! DEFINITION. The Motion Controller: hold reasons, trip causes, commanded speed and nip, the bands, the outfeed
(chapter 8), and the Knife Sequencer's index, which its judgements order (R112). -/
namespace Sys2Proof.Machine

/-! ## Line actions and the commanded speed (R146, R157) -/

/-- A line action joins the action list; true when 16 wait and it fails at once (R157). -/
def pushAction (a : Action) (s : State) : State × Bool :=
  if s.station.actions.length < actionMax then (s.onStation fun t => { t with actions := t.actions ++ [a] }, false)
  else (s, true)

/-- The commanded laminator speed the line state and the band ask for (R146). -/
def State.wantedSpeed (s : State) : Int :=
  if s.motion.line = .running then
    match s.motion.band with
    | .normal => s.par .runSpeed
    | .slowed => s.par .slowSpeed
    | .stopped => 0
  else 0

/-- The commanded speed worked out afresh, with its actions, the nip-close action first; true when one of them met a full
action list (R146). -/
def commandSpeed (s : State) : State × Bool :=
  if s.wantedSpeed = s.motion.speed then (s, false)
  else
    let (s, failed) :=
      if s.wantedSpeed ≠ 0 ∧ s.motion.nip = .opened then
        pushAction (.nip .closed) (s.onMotion fun m => { m with nip := .closed })
      else (s, false)
    let v := s.wantedSpeed
    let (s, failed') := pushAction (.speed v) (s.onMotion fun m => { m with speed := v })
    (s, failed || failed')

/-- The nip command becomes OPEN with a nip-open action; true when the action met a full list (R140, R147, R152). -/
def openNip (s : State) : State × Bool := pushAction (.nip .opened) (s.onMotion fun m => { m with nip := .opened })

/-! ## Hold reasons (R141) and job end (R152) -/

/-- A reason joins the hold set in a state it does not change; a reason already there queues nothing (R135). -/
def addReason (r : HoldReason) (s : State) : State :=
  if s.motion.holds.has r then s
  else queueLine .state (s.onMotion fun m => { m with holds := m.holds.add r })

/-- The failure of a LAMINATOR action raised in a stopped line: STATION joins the hold set (R165). -/
def stationIfFailed (sf : State × Bool) : State := if sf.2 then addReason .station sf.1 else sf.1

/-- The line enters HOLDING, and the commanded speed becomes 0 (R142). The outfeed's part is `reactMotion`. -/
def enterHolding (s : State) : State :=
  stationIfFailed (commandSpeed (queueLine .state (s.onMotion fun m => { m with line := .holding })))

/-- A hold reason is raised (R141). -/
def raiseHold (r : HoldReason) (s : State) : State :=
  match s.motion.line with
  | .idle => s
  | .running => enterHolding (s.onMotion fun m => { m with holds := m.holds.add r })
  | .ready | .holding | .held | .tripped => addReason r s

/-- The failure of a LAMINATOR action (R165). -/
def laminatorFailed (sf : State × Bool) : State := if sf.2 then raiseHold .station sf.1 else sf.1

/-- The commanded speed follows a change of line state or band (R146). -/
def updateSpeed (s : State) : State := laminatorFailed (commandSpeed s)

/-- Job end is signalled (R152). -/
def signalJobEnd (s : State) : State :=
  match s.motion.line with
  | .idle => s
  | .ready | .running | .held => enterHolding (s.onMotion fun m => { m with jobEnd := true })
  | .holding | .tripped => s.onMotion fun m => { m with jobEnd := true }

/-! ## Trips (R143, R144, R118) -/

/-- The head entry at a trip (R118): an index returns to LOCKED, a traverse becomes INTERRUPTED and its lines drop. R151 names
the start line there and is silent on the four lane lines; the model drops them with it (DESIGN CHOICE, log entry 49). -/
def tripHead (s : State) : State :=
  match s.headEntry.map Entry.status with
  | some .indexing =>
      (s.onHead fun e => { e with status := .locked }).onCuts fun c => { c with indexTimer := none }
  | some .cutting =>
      (s.onHead fun e => { e with status := .interrupted }).onCuts fun c =>
        { c with cutTimer := none, knifeStart := false, knifeLanes := Lanes.same false }
  | _ => s

/-- The line enters TRIPPED (R144). -/
def enterTripped (c : TripCause) (s : State) : State :=
  let s := queueLine .state (s.onMotion fun m =>
    { m with line := .tripped, trips := m.trips.add c, firstCause := some c, drive := some .halt, outfeed := .stopped })
  tripHead (stationIfFailed (commandSpeed s))

/-- A trip cause is raised (R143). -/
def raiseTrip (c : TripCause) (s : State) : State :=
  match s.motion.line with
  | .idle => s
  | .tripped =>
      if s.motion.trips.has c then s
      else queueLine .state (s.onMotion fun m => { m with trips := m.trips.add c })
  | .ready | .running | .holding | .held => enterTripped c s

/-- The cause an input raises (R143). -/
def inputCause : TripInput → TripCause
  | .estop => .estop
  | .dancerTop => .dancerTop
  | .dancerBottom => .dancerBottom
  | .driveFault => .outfeedFault

/-- An input as it stands (R143). -/
def Pins.input (p : Pins) : TripInput → Bool
  | .estop => p.estopOpen
  | .dancerTop => p.dancerTop
  | .dancerBottom => p.dancerBottom
  | .driveFault => p.driveFault

/-- The pins with an input set. -/
def Pins.setInput (p : Pins) (i : TripInput) (b : Bool) : Pins :=
  match i with
  | .estop => { p with estopOpen := b }
  | .dancerTop => { p with dancerTop := b }
  | .dancerBottom => { p with dancerBottom := b }
  | .driveFault => { p with driveFault := b }

/-- An input asserted at the entry into READY or RUNNING raises its cause (R143). -/
def tripIfAsserted (i : TripInput) (s : State) : State := if s.pins.input i then raiseTrip (inputCause i) s else s

/-- The inputs asserted at the entry into READY or RUNNING raise their causes. R143 gives no order among several, and the first
raised becomes the first cause; the model raises ESTOP, DANCER_TOP, DANCER_BOTTOM and OUTFEED_FAULT in turn, as the rows of
R143's table stand (DESIGN CHOICE, log entry 46). -/
def tripAsserted (s : State) : State :=
  tripIfAsserted .driveFault (tripIfAsserted .dancerBottom (tripIfAsserted .dancerTop (tripIfAsserted .estop s)))

/-! ## Bands and starvation (R145, R149) -/

/-- One judgement of the band (R145). -/
def nextBand (low high top c : Int) : Band → Band
  | .normal => if high ≤ c then .slowed else .normal
  | .slowed => if c ≤ low then .normal else if top ≤ c then .stopped else .slowed
  | .stopped => if c ≤ high then .slowed else .stopped

/-- The band at THREAD (R145). -/
def threadBand (high top p : Int) : Band := if p < high then .normal else if p < top then .slowed else .stopped

/-- One judgement of the starve flag (R149). -/
def nextStarve (least low c : Int) (flag : Bool) : Bool :=
  if c ≤ least then true else if low ≤ c then false else flag

/-- The band and the starve flag are judged at a change of C, in every line state except IDLE (R145, R149). -/
def judgeContent (s : State) : State :=
  if s.motion.line = .idle then s
  else
    let s := s.onMotion fun m =>
      { m with band := nextBand (s.par .cLow) (s.par .cHigh) (s.par .cMax) s.content m.band }
    let s := updateSpeed s
    s.onMotion fun m => { m with starve := nextStarve (s.par .cMin) (s.par .cLow) s.content m.starve }

/-! ## The outfeed (R148, R150) and the index (R112) -/

/-- The outfeed coordinate at which the beam coordinate equals the guard (R127). -/
def State.guardStop (s : State) : Option Int := s.guardAt.map (fun g => g - s.par .beamDist)

/-- The guard permits indexing to a coordinate (R127). -/
def State.guardPermits (s : State) (x : Int) : Bool :=
  match s.guardStop with
  | none => true
  | some g => decide (x ≤ g) || (decide (g ≤ s.outPos) && decide (x ≤ s.outPos))

/-- A command is sent on the drive port, and the outfeed motion state follows it (R148). -/
def sendDrive (d : DriveCommand) (o : Outfeed) (s : State) : State :=
  s.onMotion fun m => { m with drive := some d, outfeed := o }

/-- The distance of a STOP_AT, 0 at or beyond the point (R112). -/
def State.stopDistance (s : State) (x : Int) : Int := if s.outPos < x then x - s.outPos else 0

/-- The Knife Sequencer issues the index of the head entry (R112). -/
def issueIndex (e : Entry) (s : State) : State :=
  let s := sendDrive (.stopAt (s.stopDistance e.coord)) .indexed s
  (s.onHead fun e => { e with status := .indexing }).onCuts fun c =>
    { c with indexTimer := some (s.par .indexTimeout).toNat }

/-- The outfeed is in motion (R148). -/
def inMotion : Outfeed → Bool
  | .stopped => false
  | .free | .bounded _ | .indexed | .halting => true

/-- The outfeed is in motion under RUN or a bounding STOP_AT. -/
def freeOrBounded : Outfeed → Bool
  | .free | .bounded _ => true
  | .stopped | .indexed | .halting => false

/-- Is the entry executing (R111). -/
def executing : CutStatus → Bool
  | .indexing | .positioned | .cutting | .interrupted => true
  | .provisional | .locked => false

/-- The LOCKED head that may be indexed: the starve flag clear and the guard permitting (R120, R150). -/
def State.indexable (s : State) : Option Entry :=
  match s.headEntry with
  | some e => if e.status = .locked ∧ s.motion.starve = false ∧ s.guardPermits e.coord = true then some e else none
  | none => none

/-- The head entry is executing. -/
def State.headExecuting (s : State) : Bool :=
  match s.headEntry with
  | some e => executing e.status
  | none => false

/-- The outfeed runs free, or is bounded to another point than g, so that it would pass g (R127, R150, log entry 43). -/
def runsPast (g : Int) : Outfeed → Bool
  | .free => true
  | .bounded p => p != g
  | .stopped | .indexed | .halting => false

/-- The judgement of the outfeed in RUNNING: the first case of R150 that matches. -/
def judgeOutfeed (s : State) : State :=
  if s.headExecuting then s
  else if s.motion.starve then
    if freeOrBounded s.motion.outfeed then sendDrive .halt .halting s else s
  else
    match s.indexable with
    | some e => issueIndex e s
    | none =>
        match s.guardStop with
        | some g =>
            if s.outPos < g then
              if s.motion.outfeed = .bounded g then s else sendDrive (.stopAt (g - s.outPos)) (.bounded g) s
            else if runsPast g s.motion.outfeed then sendDrive .halt .halting s else s
        | none => if s.motion.outfeed = .free then s else sendDrive (.run (s.par .outSpeed)) .free s

/-- The stop of the outfeed in HOLDING (R120, R142): a LOCKED head that may be indexed while the outfeed is in motion is
indexed; on entering HOLDING an outfeed that runs free or bounded is otherwise halted. -/
def judgeHolding (entered headChanged : Bool) (s : State) : State :=
  match (if inMotion s.motion.outfeed ∧ (entered ∨ headChanged) then s.indexable else none) with
  | some e => issueIndex e s
  | none => if entered ∧ freeOrBounded s.motion.outfeed then sendDrive .halt .halting s else s

/-- No entry of the Cut Queue is CUTTING (R142). -/
def State.noneCutting (s : State) : Bool := s.cuts.entries.all (fun e => e.status != .cutting)

/-- The laminator counts as stopped (R142). -/
def State.laminatorStopped (s : State) : Bool :=
  s.motion.speed == 0 &&
    (s.station.records.laminator.state != .present
      || match s.station.laminator with
         | some a => a.speed == 0
         | none => false)

/-- The conditions under which HOLDING ends (R142). -/
def State.stopComplete (s : State) : Bool := s.motion.outfeed == .stopped && s.noneCutting && s.laminatorStopped

end Sys2Proof.Machine
end

