-- ==== Sys2Proof/Machine/Expect.lean ====
section
/-! DEFINITION. What a lane expects: predictions from the anchor, the start expectation and its window, the inspection
intervals of SYNTH positions (R57, R61 to R66). -/
namespace Sys2Proof.Machine

/-- The point at nominal distance d beyond a coordinate, with the correction d × F / 1,000,000 rounded to nearest (R62). -/
def predict (base d f : Int) : Int := base + d + roundDiv (d * f) 1000000

/-- The lane follows marks (R64). -/
def following : RegState → Bool
  | .tracking | .coasting | .lost => true
  | .unused | .seeking | .blind => false

/-- The half-width of the start window (R65). -/
def State.startHalf (s : State) (st : RegState) : Int := if st = .lost then s.par .searchWin else s.par .markWin

/-! ## Inspection intervals (R57) -/

/-- The interval armed for a SYNTH position x, none when the beam has already passed its end (log entry 28). -/
def State.newInterval (s : State) (src : Source) (x : Int) : Option Interval :=
  if x + s.par .markWin < s.beamPos then none else some ⟨src, x, decide (x - s.par .markWin ≤ s.beamPos)⟩

/-- INSPECT asserted at the instant an interval begins gives INSPECTION to its panel (R57). -/
def inspectBegin (n : Lane) (i : Option Interval) (s : State) : State :=
  match i with
  | some i => if i.begun ∧ s.pins.inspect.get n = true then giveInspection n i.owner s else s
  | none => s

/-- The interval of a SYNTH START is armed (R57). -/
def armStart (n : Lane) (src : Source) (x : Int) (s : State) : State :=
  inspectBegin n (s.newInterval src x) (s.onEye n fun e => { e with startInterval := s.newInterval src x })

/-- The interval of a SYNTH PITCH is armed (R57). -/
def armPitch (n : Lane) (src : Source) (x : Int) (s : State) : State :=
  inspectBegin n (s.newInterval src x) (s.onEye n fun e => { e with pitchInterval := s.newInterval src x })

/-! ## The start expectation (R64) -/

/-- The coordinate at which a panel's START is expected after the last end E (R64). -/
def startAt (e : Int) (p : Ctx) (f : Int) : Int := predict e p.lead f

/-- A lane falls back to SEEKING: F and E keep their values (R64). -/
def LaneReg.backToSeeking (r : LaneReg) : LaneReg :=
  { r with state := .seeking, pitch := none, start := none, anchor := none, current := none, miss := 0 }

/-- The start expectation is first formed when its conditions hold and no SYNTH start is pending; with its window already
passed the lane becomes SEEKING instead (R64, log entry 12). -/
def formStart (n : Lane) (s : State) : State :=
  let r := s.reg.get n
  if following r.state ∧ r.start = none ∧ r.synth = none then
    match r.lastEnd, s.headExpected n with
    | some e, some p =>
        let x := startAt e p r.f
        if x + s.startHalf r.state < s.beamPos then s.onReg n LaneReg.backToSeeking
        else
          let s := s.onReg n fun r => { r with start := some ⟨p.src, x⟩ }
          if p.synth then armStart n p.src x s else s
    | _, _ => s
  else s

/-- An existing start expectation is formed anew from E; a SYNTH interval is armed again at a new x (R57, R64). -/
def reformStart (n : Lane) (s : State) : State :=
  let r := s.reg.get n
  match r.start, r.lastEnd with
  | some st, some e =>
      match s.ctx? n st.panel with
      | some p =>
          let x := startAt e p r.f
          let s := s.onReg n fun r => { r with start := some ⟨st.panel, x⟩ }
          if p.synth ∧ x ≠ st.x then armStart n st.panel x s else s
      | none => s
  | _, _ => s

/-- The Registration Unit takes a target of the current panel's END entry as E (R64, R105). -/
def setEnd (n : Lane) (e : Int) (s : State) : State :=
  reformStart n (s.onReg n fun r => { r with lastEnd := some e })

/-! ## The pitch expectation (R63) -/

/-- The pitch expectation after an anchor at `pos` with nominal offset `off` (R63). -/
def nextPitch (p : Ctx) (f pos off : Int) : Option PitchExpect :=
  if p.pitch = 0 then none
  else if off + p.pitch < p.nominal then some ⟨off / p.pitch + 1, predict pos p.pitch f⟩
  else none

/-- The pitch expectation of the current panel is formed from its anchor; a SYNTH panel's interval is armed (R57, R63). -/
def formPitch (n : Lane) (s : State) : State :=
  let r := s.reg.get n
  match r.anchor, r.current.bind (s.ctx? n) with
  | some a, some p =>
      let e := nextPitch p r.f a.pos a.offset
      let s := s.onReg n fun r => { r with pitch := e }
      match e with
      | some e => if p.synth then armPitch n p.src e.x s else s
      | none => s
  | _, _ => s.onReg n fun r => { r with pitch := none }

/-- The lane's current panel is SYNTH (R76). -/
def State.currentSynth (s : State) (n : Lane) : Bool :=
  match (s.reg.get n).current.bind (s.ctx? n) with
  | some p => p.synth
  | none => false

/-- The panel of the start expectation is SYNTH (R76). -/
def State.startSynth (s : State) (n : Lane) : Bool :=
  match (s.reg.get n).start.bind (fun e => s.ctx? n e.panel) with
  | some p => p.synth
  | none => false

/-- The pitch expectation has a window: not in LOST and not for a SYNTH panel (R63, R73, R76). -/
def State.pitchWindow (s : State) (n : Lane) : Bool := (s.reg.get n).state != .lost && !s.currentSynth n

/-- m lies in the open window of the pitch expectation (R65). -/
def State.inPitchWindow (s : State) (n : Lane) (m : Int) : Bool :=
  match (s.reg.get n).pitch with
  | some e => following (s.reg.get n).state && s.pitchWindow n && decide (distance e.x m ≤ s.par .markWin)
  | none => false

/-- m lies in the open window of the start expectation (R65). -/
def State.inStartWindow (s : State) (n : Lane) (m : Int) : Bool :=
  match (s.reg.get n).start with
  | some e =>
      following (s.reg.get n).state && !s.startSynth n
      && decide (distance e.x m ≤ s.startHalf (s.reg.get n).state)
  | none => false

/-- Of two expectations the start one is chosen: the nearer to m, or the start expectation when both are equally near
(R66, R67). -/
def startNearer (st : StartExpect) (pe : PitchExpect) (m : Int) : Bool := decide (distance st.x m ≤ distance pe.x m)

/-- The panel whose mark is next expected at m, found by R66. -/
def State.nextPanel (s : State) (n : Lane) (m : Int) : Option Source :=
  let r := s.reg.get n
  match r.state with
  | .seeking => (s.headExpected n).map Ctx.src
  | .unused | .blind => none
  | .tracking | .coasting | .lost =>
      match r.start, r.pitch with
      | none, none => none
      | some st, none => some st.panel
      | none, some _ => r.current
      | some st, some pe =>
          match s.inStartWindow n m, s.inPitchWindow n m with
          | true, true => if startNearer st pe m then some st.panel else r.current
          | true, false => some st.panel
          | false, true => r.current
          | false, false => if st.x ≤ pe.x then some st.panel else r.current

/-- The format fixed at a leading edge is CODED (R43). -/
def State.codedFormat (s : State) (n : Lane) (m : Int) : Bool :=
  match (s.nextPanel n m).bind (s.ctx? n) with
  | some p => p.coded && !p.synth
  | none => false

end Sys2Proof.Machine
end

