-- ==== Sys2Proof/Machine/Zones.lean ====
section
/-! DEFINITION. The Zone List (R93 to R98): adding, placing and merging a waste zone, the two checks, the removal. -/
namespace Sys2Proof.Machine

/-- Two spans overlap when each starts below the other's end (R97). -/
def overlaps (aLo aHi bLo bHi : Int) : Bool := decide (aLo < bHi) && decide (bLo < aHi)

/-- A span overlaps or touches a zone (R96). -/
def touches (lo hi : Int) (z : Zone) : Bool := decide (lo ≤ z.hi) && decide (z.lo ≤ hi)

/-- A zone at its place in start order (R93). -/
def insertZone (z : Zone) : List Zone → List Zone
  | [] => [z]
  | a :: r => if z.lo < a.lo then z :: a :: r else a :: insertZone z r

/-- The zone of a list whose start is nearest, the one with the lower start if two are equally near (R96). -/
def nearestZone (lo : Int) : List Zone → Option Zone
  | [] => none
  | a :: r =>
      match nearestZone lo r with
      | none => some a
      | some b => if distance a.lo lo ≤ distance b.lo lo then some a else some b

/-- The new zone and the list zones it overlaps or touches become one, with the cause of the first of them (R96). -/
def joinZones (z : Zone) (hit : List Zone) : Zone :=
  { lo := hit.foldl (fun (acc : Int) (a : Zone) => lower acc a.lo) z.lo
    hi := hit.foldl (fun (acc : Int) (a : Zone) => higher acc a.hi) z.hi
    cause := match hit with | a :: _ => a.cause | [] => z.cause }

/-- A placed zone is merged into the list; with a full list, the merged zone as well (R96). -/
def mergeZone (z : Zone) (l : List Zone) : List Zone × Option Zone :=
  if l.any (touches z.lo z.hi) then
    (insertZone (joinZones z (l.filter (touches z.lo z.hi))) (l.filter (fun a => !touches z.lo z.hi a)), none)
  else if l.length < zoneMax then (insertZone z l, none)
  else
    match nearestZone z.lo l with
    | none => (insertZone z l, none)
    | some a =>
        let m : Zone := ⟨lower a.lo z.lo, higher a.hi z.hi, a.cause⟩
        (l.map (fun b => if b = a then m else b), some m)

/-- A placed zone joins the Zone List, with ZONE_NOTICE(merged) from a full list (R96). -/
def addPlaced (z : Zone) (s : State) : State :=
  match mergeZone z s.zones with
  | (l, none) => s.onZones fun _ => l
  | (l, some m) => queueEvent (.zoneNotice .merged m.cause m.lo m.hi) (s.onZones fun _ => l)

/-- A zone placed against the lock point: none when its end lies at or below it, its start raised otherwise (R95). -/
def placeZone (lockPoint : Int) (z : Zone) : Option Zone :=
  if z.hi ≤ lockPoint then none else some { z with lo := higher z.lo lockPoint }

/-- A SPLICE or DWELL zone of a given length reported to the Zone List (R94, R95). -/
def reportZone (lo len : Int) (cause : ZoneCause) (s : State) : State :=
  if s.motion.line = .idle ∨ len = 0 then s
  else
    match placeZone s.lockPoint ⟨lo, lo + len, cause⟩ with
    | none => queueEvent (.zoneNotice .late cause lo (lo + len)) s
    | some z => addPlaced z s

/-- A new splice is reported (R94). -/
def reportSplice (s : State) : State :=
  reportZone (s.inPos + s.par .filmPath - s.par .spliceLeadback) (s.par .spliceZoneLen) .splice s

/-- A dwell expiry is reported (R94). -/
def reportDwell (s : State) : State :=
  reportZone (s.inPos - truncDiv (s.par .dwellZoneLen) 2) (s.par .dwellZoneLen) .dwell s

/-- The reason a cause gives (R93). -/
def addZoneReason (cause : ZoneCause) (r : Reasons) : Reasons :=
  match cause with
  | .splice => { r with splice := true }
  | .dwell => { r with dwell := true }
  | .operator => { r with operator := true }

/-- A context receives the reason of a zone its span overlaps (R97, R98). -/
def zoneOnCtx (z : Zone) (c : Ctx) : Ctx :=
  match c.startTarget, c.endTarget with
  | some a, some b => if overlaps a b z.lo z.hi then { c with reasons := addZoneReason z.cause c.reasons } else c
  | _, _ => c

/-- A context compared with every zone of the list (R97). -/
def zonesOnCtx (zs : List Zone) (c : Ctx) : Ctx := zs.foldl (fun (c : Ctx) (z : Zone) => zoneOnCtx z c) c

/-- The entry has left PROVISIONAL, or has left the queue (R98). -/
def State.entryFixed (s : State) (o : Nat) : Bool :=
  match s.entry? o with
  | some e => e.status != .provisional
  | none => true

/-- The contexts R98 compares at a removal: ACTIVE, start entry locked or cut, end entry not yet locked. -/
def State.openActive (s : State) (c : Ctx) : Bool :=
  c.state == .active
  && (match c.startEntry with | none => true | some o => s.entryFixed o)
  && (match c.endEntry with | none => false | some o => !s.entryFixed o)

/-- Every zone whose end the outfeed has passed is compared with the open ACTIVE panels and removed (R98). -/
def removeZones (s : State) : State :=
  let gone := s.zones.filter (fun z => decide (z.hi < s.outPos))
  if gone.isEmpty then s
  else
    let t := forLanes (fun n t =>
      t.onList n (List.map fun c => if s.openActive c then zonesOnCtx gone c else c)) s
    t.onZones (List.filter fun z => !decide (z.hi < s.outPos))

end Sys2Proof.Machine
end

