-- ==== Sys2Proof/Machine/CutQueue.lean ====
section
/-! DEFINITION. The Cut Queue (R101 to R109): its order, the START and END reports, the raise, the lock with its merge and checks. -/
namespace Sys2Proof.Machine

/-! ## Order (R102) -/

/-- The lowest lane of an entry's mask (R102). -/
def lowestLane (e : Entry) : Nat :=
  if e.parts.l0.isSome then 0 else if e.parts.l1.isSome then 1 else if e.parts.l2.isSome then 2 else 3

/-- One entry stands ahead of another (R102). -/
def entryBefore (a b : Entry) : Bool :=
  decide (a.coord < b.coord)
  || (a.coord == b.coord
      && (decide (lowestLane a < lowestLane b) || (lowestLane a == lowestLane b && decide (a.order < b.order))))

/-- An entry at its place in the queue (R102). -/
def insertEntry (e : Entry) : List Entry → List Entry
  | [] => [e]
  | a :: r => if entryBefore e a then e :: a :: r else a :: insertEntry e r

/-- The coordinate of the last entry of the queue that has left PROVISIONAL (R106). -/
def lastFixed : List Entry → Option Int
  | [] => none
  | a :: r =>
      match lastFixed r with
      | some x => some x
      | none => if a.status = .provisional then none else some a.coord

/-- The entry is raised behind the last fixed entry (R106). -/
def mustRaise (x : Int) (l : List Entry) : Bool :=
  match lastFixed l with
  | some y => decide (x ≤ y)
  | none => false

/-- The raised coordinate, one above the last fixed entry's (R106). -/
def raisedCoord (x : Int) (l : List Entry) : Int :=
  match lastFixed l with
  | some y => if x ≤ y then y + 1 else x
  | none => x

/-! ## Targets follow their entry (R83, R105) -/

/-- A context takes the note MERGED when its target was moved at lock time (R86, R106, R108). -/
def noteMerged (merged : Bool) (c : Ctx) : Ctx :=
  if merged then { c with notes := { c.notes with merged := true } } else c

/-- One lane's contexts take the entry's order number and coordinate (R83, R105): the panel the part ends and the panel
it starts. A changed END target of the lane's current panel is reported to the Registration Unit; a BLIND lane has no current
panel, so its E stands (log entry 39). -/
def retargetLane (order : Nat) (x : Int) (merged : Bool) (p : Option LanePart) (n : Lane) (s : State) : State :=
  match p with
  | none => s
  | some p =>
      let s :=
        match p.starts with
        | some q =>
            s.onCtx n q fun c => noteMerged merged { c with startEntry := some order, startTarget := some x }
        | none => s
      match p.ends with
      | some q =>
          let s := s.onCtx n q fun c => noteMerged merged { c with endEntry := some order, endTarget := some x }
          if (s.reg.get n).current = some q then setEnd n x s else s
      | none => s

/-- The contexts of every lane part take the coordinate of their entry (R105). -/
def retarget (order : Nat) (x : Int) (merged : Bool) (parts : Lanes (Option LanePart)) (s : State) : State :=
  forLanes (fun n => retargetLane order x merged (parts.get n) n) s

/-- An entry not in the queue is placed, raised if it must be (R102, R106). -/
def placeEntry (e : Entry) (s : State) : State :=
  let raised := mustRaise e.coord s.cuts.entries
  let e := { e with coord := raisedCoord e.coord s.cuts.entries }
  retarget e.order e.coord raised e.parts (s.onCuts fun c => { c with entries := insertEntry e c.entries })

/-! ## Lock and merge (R107, R108, R109) -/

/-- Two lane parts become one (R108). -/
def joinPart (a b : Option LanePart) : Option LanePart :=
  match a, b with
  | none, b => b
  | a, none => a
  | some a, some b => some ⟨a.ends <|> b.ends, a.starts <|> b.starts⟩

/-- The lane parts of two entries become one (R108). -/
def joinParts (a b : Lanes (Option LanePart)) : Lanes (Option LanePart) :=
  ⟨joinPart a.l0 b.l0, joinPart a.l1 b.l1, joinPart a.l2 b.l2, joinPart a.l3 b.l3⟩

/-- The entries a lock at X merges into it (R108). -/
def mergedInto (x : Entry) (win : Int) (l : List Entry) : List Entry :=
  l.filter fun e => e.order != x.order && e.status == .provisional && decide (e.coord ≤ x.coord + win)

/-- The contexts of a merged entry refer to X (R108). -/
def takeOver (x : Entry) (e : Entry) (s : State) : State :=
  retarget x.order x.coord (e.coord != x.coord) e.parts s

/-- Steps 1 and 2 of R109 in one lane: F at end lock and the zone check of the panel X ends. -/
def endLockLane (parts : Lanes (Option LanePart)) (n : Lane) (s : State) : State :=
  match (parts.get n).bind LanePart.ends with
  | some q => s.onCtx n q fun c => zonesOnCtx s.zones { c with fEndLock := some (s.reg.get n).f }
  | none => s

/-- A lane in which the entry ends a panel holds no EXPECTED context (R36). -/
def State.laneStarved (s : State) (parts : Lanes (Option LanePart)) (n : Lane) : Bool :=
  ((parts.get n).bind LanePart.ends).isSome && (s.headExpected n).isNone

/-- The starvation check (R36). -/
def starvationCheck (parts : Lanes (Option LanePart)) (s : State) : State :=
  if s.reader = .waiting ∧ laneList.any (s.laneStarved parts) = true then raiseHold .planStarved s else s

/-- The lock of an entry: its merge and its checks (R107, R108, R109). -/
def lockEntry (x : Entry) (s : State) : State :=
  let gone := mergedInto x (s.par .mergeWin) s.cuts.entries
  let parts := gone.foldl (fun (p : Lanes (Option LanePart)) (e : Entry) => joinParts p e.parts) x.parts
  let x' : Entry := { x with parts := parts, status := .locked }
  let s := s.onCuts fun c =>
    { c with entries := (c.entries.filter (fun e => !gone.contains e)).map (fun e => if e.order = x.order then x' else e) }
  let s := gone.foldl (fun (s : State) (e : Entry) => takeOver x e s) s
  starvationCheck parts (forLanes (endLockLane parts) s)

/-- The head-most PROVISIONAL entry at or below the lock point (R107). -/
def State.nextLock (s : State) : Option Entry :=
  s.cuts.entries.find? fun e => e.status == .provisional && decide (e.coord ≤ s.lockPoint)

/-- Entries lock in queue order, each with its merge and checks before the next (R107). -/
def lockDue : Nat → State → State
  | 0, s => s
  | k + 1, s =>
      match s.nextLock with
      | some x => lockDue k (lockEntry x s)
      | none => s

/-- The lock condition is judged for every entry (R107). -/
def judgeLocks (s : State) : State := lockDue s.cuts.entries.length s

/-! ## Reports from registration (R103, R104) -/

/-- A lane part in one lane only. -/
def onePart (n : Lane) (p : LanePart) : Lanes (Option LanePart) := (Lanes.same none).set n (some p)

/-- A new entry is created and placed, and its lock judged (R101, R106, R107). -/
def createEntry (n : Lane) (p : LanePart) (x : Int) (s : State) : State :=
  let e : Entry := ⟨x, onePart n p, .provisional, 0, s.cuts.nextOrder⟩
  judgeLocks (placeEntry e (s.onCuts fun c => { c with nextOrder := c.nextOrder + 1 }))

/-- A PROVISIONAL entry is moved to a coordinate with its parts changed, and its lock judged (R102, R103, R104). -/
def moveEntry (e : Entry) (x : Int) (f : Lanes (Option LanePart) → Lanes (Option LanePart)) (s : State) : State :=
  let s := s.onCuts fun c => { c with entries := c.entries.filter (fun a => a.order != e.order) }
  judgeLocks (placeEntry { e with coord := x, parts := f e.parts } s)

/-- The part of a lane gains the panel it starts (R103). -/
def gainStart (n : Lane) (p : Source) (parts : Lanes (Option LanePart)) : Lanes (Option LanePart) :=
  parts.set n ((parts.get n).map fun a => { a with starts := some p })

/-- A fixed entry gains the panel it starts; its coordinate stays (R103, R110). -/
def joinFixed (n : Lane) (p : Source) (e : Entry) (s : State) : State :=
  (s.onCuts fun c =>
    { c with entries := c.entries.map (fun a => if a.order = e.order then { a with parts := gainStart n p a.parts } else a) }
  ).onCtx n p fun c => { c with startEntry := some e.order, startTarget := some e.coord }

/-- The context immediately ahead of one in a list (R103). -/
def ctxAhead (p : Source) : List Ctx → Option Ctx
  | a :: b :: r => if b.src = p then some a else ctxAhead p (b :: r)
  | _ => none

/-- The END entry a panel with lead 0 shares: that of the context ahead of it, while its closing cut is still to be made
(R103). -/
def State.sharedEntry (s : State) (n : Lane) (p : Source) : Option Entry :=
  ((ctxAhead p (s.lists.get n)).bind Ctx.endEntry).bind s.entry?

/-- A START report (R103). -/
def startReport (n : Lane) (p : Ctx) (m : Int) (first : Bool) (s : State) : State :=
  let x := m + s.par .startOffset
  let shared := if p.lead > 0 ∨ first = true then none else s.sharedEntry n p.src
  match shared with
  | none => createEntry n ⟨none, some p.src⟩ x s
  | some e =>
      if e.status = .provisional then moveEntry e x (gainStart n p.src) s else joinFixed n p.src e s

/-- The panel is ACTIVE: its closing cut is still to be made (R82). -/
def State.panelActive (s : State) (n : Lane) (p : Source) : Bool := (s.ctx? n p).any fun c => c.state == .active

/-- An END report, answered with the panel's end target, which the Registration Unit takes as E (R64, R104). For a panel whose
closing cut has been made, R104's first case by its letter creates a second END entry, which R102's law, R82 and R104's last
sentence exclude; the model discards the prediction (DEDUCED, log entry 47). -/
def endReport (n : Lane) (p : Source) (y : Int) (s : State) : State :=
  let s :=
    match ((s.ctx? n p).bind Ctx.endEntry).bind s.entry? with
    | none => if s.panelActive n p then createEntry n ⟨some p, none⟩ y s else s
    | some e => if e.status = .provisional then moveEntry e y id s else s
  match (s.ctx? n p).bind Ctx.endTarget with
  | some t => setEnd n t s
  | none => s

end Sys2Proof.Machine
end

