-- ==== Sys2Proof/Machine/Registration.lean ====
section
/-! DEFINITION. The Registration Unit (R67 to R79): placing a mark, missed and synthesised marks, the stretch estimate, blind and
unused lanes. -/
namespace Sys2Proof.Machine

/-! ## The stretch estimate (R74, R75) -/

/-- The raw sample of a measured and a nominal distance (R74). -/
def rawSample (measured nominal : Int) : Int := roundDiv ((measured - nominal) * 1000000) nominal

/-- A sample clamped to the stretch limit (R74). -/
def clampSample (lim v : Int) : Int := limitTo (-lim) lim v

/-- The filter: F plus (s - F) / 2^w, the quotient truncated toward zero (R75). -/
def filterF (f v w : Int) : Int := f + truncDiv (v - f) (2 ^ w.toNat)

/-- A stretch sample is taken and folded into F; a clamped sample sends MARK_NOTICE(stretch limit) (R74, R75). -/
def takeSample (n : Lane) (m measured nominal : Int) (s : State) : State :=
  let raw := rawSample measured nominal
  let v := clampSample (s.par .stretchLimit) raw
  let s := if v = raw then s else queueEvent (.markNotice (.stretchLimit raw) n m) s
  s.onReg n fun r => { r with f := filterF r.f v (s.par .stretchWeight) }

/-! ## Misses (R72, R73) -/

/-- Every ACTIVE context of the lane receives UNREGISTERED (R73). -/
def unregister (n : Lane) (s : State) : State :=
  s.onList n (List.map fun c =>
    if c.state = .active then { c with notes := { c.notes with unregistered := true } } else c)

/-- The miss count rises and the state follows; a lane whose count reaches MISS_LIMIT becomes LOST (R72, R73). -/
def countMiss (n : Lane) (x : Int) (s : State) : State :=
  let r := s.reg.get n
  let k := if r.miss < 7 then r.miss + 1 else 7
  match r.state with
  | .tracking | .coasting =>
      if (k : Int) < s.par .missLimit then s.onReg n fun r => { r with miss := k, state := .coasting }
      else
        unregister n (queueEvent (.markNotice .lost n x) (s.onReg n fun r => { r with miss := k, state := .lost }))
  | .unused | .seeking | .lost | .blind => s.onReg n fun r => { r with miss := k }

/-! ## The effects of a mark on its panel (R54, R55, R56) -/

/-- How a START or PITCH came about: read and accepted, missed (R72), or synthesised without a miss (R73, R76). -/
inductive How where
  | observed (rec : MarkRecord)
  | missed
  | synthesised
deriving DecidableEq, Repr

/-- A context receives the reject reason TAG, whose cause reaches ACTIVE contexts (R86): a panel whose pitch window outlasts its
cut receives none, so that no reason reaches a DELIVERING context (R85, R174; DEDUCED, log entry 52). -/
def giveTag (n : Lane) (src : Source) (s : State) : State :=
  s.onCtx n src fun c => if c.state = .active then { c with reasons := { c.reasons with tag := true } } else c

/-- The tag comparison (R55): the reason TAG and, under TAG_POLICY HOLD, the hold reason TAG_MISMATCH, which is raised in whatever
state the panel stands (DESIGN CHOICE, log entry 53). -/
def compareTag (n : Lane) (p : Ctx) (rec : MarkRecord) (s : State) : State :=
  match rec.tag with
  | some t =>
      if rec.coded ∧ p.coded ∧ t ≠ p.tag then
        if s.par .tagPolicy = 1 then raiseHold .tagMismatch (giveTag n p.src s) else giveTag n p.src s
      else s
  | none => s

/-- A START gives UNVERIFIED: a PLAIN mark of a CODED panel, an UNDECODED mark (R52, R54), or a miss of a CODED panel (R72). -/
def unverifiedStart (p : Ctx) : How → Bool
  | .observed rec => (p.coded && !rec.coded) || rec.kind == .undecoded
  | .missed => p.coded
  | .synthesised => false

/-- The tag and inspection effects of an accepted mark (R55, R56). -/
def markEffects (n : Lane) (p : Ctx) (how : How) (s : State) : State :=
  match how with
  | .observed rec =>
      let s := compareTag n p rec s
      if rec.inspected then giveInspection n p.src s else s
  | .missed | .synthesised => s

/-- The mark was read. -/
def How.isObserved : How → Bool
  | .observed _ => true
  | .missed | .synthesised => false

/-- The miss count and state after a mark: cleared by a mark that was read, raised by a miss (R68, R69, R72). -/
def countHow (n : Lane) (x : Int) (how : How) (s : State) : State :=
  match how with
  | .observed _ => s.onReg n fun r => { r with miss := 0, state := .tracking }
  | .missed => countMiss n x s
  | .synthesised => s

/-! ## Starting a panel (R68, R72, R76) -/

/-- Step 1 of R68: the panel becomes ACTIVE and current; in a LOST lane one not read receives UNREGISTERED (R73). -/
def makeCurrent (n : Lane) (p : Source) (how : How) (s : State) : State :=
  let lost := (s.reg.get n).state == .lost && !how.isObserved
  let s := s.onCtx n p fun c =>
    { c with state := .active, notes := { c.notes with unregistered := c.notes.unregistered || lost } }
  let s := s.onEye n fun e => { e with startInterval := none }
  s.onReg n fun r => { r with current := some p, pitch := none, start := none, synth := none }

/-- A panel is started at m by the steps of R68. -/
def startPanel (n : Lane) (p : Ctx) (m : Int) (how : How) (first : Bool) (s : State) : State :=
  let s := makeCurrent n p.src how s
  let s := s.onReg n fun r => { r with anchor := some ⟨m, 0, how.isObserved, p.src⟩ }
  let s := countHow n m how s
  let s := s.onCtx n p.src fun c =>
    { c with notes := { c.notes with unverified := c.notes.unverified || unverifiedStart p how } }
  let s := markEffects n p how s
  let s := startReport n p m first s
  let s := endReport n p.src (predict m p.nominal (s.reg.get n).f) s
  formStart n (formPitch n s)

/-! ## Pitches (R69, R72, R73, R76) -/

/-- Step 1 of R69: a sample when the anchor was read in the same panel. -/
def sampleAt (n : Lane) (p : Ctx) (m : Int) (how : How) (s : State) : State :=
  match how, (s.reg.get n).anchor with
  | .observed _, some a =>
      if a.observed ∧ a.panel = p.src then takeSample n m (m - a.pos) p.pitch s else s
  | _, _ => s

/-- The END prediction from an anchor (R62, R77). -/
def endFrom (p : Ctx) (pos off f : Int) : Int := predict pos (p.nominal - off) f

/-- Pitch number k of the current panel is taken at m (R69), or synthesised there (R72, R73, R76). -/
def takePitch (n : Lane) (p : Ctx) (k m : Int) (how : How) (s : State) : State :=
  let s := sampleAt n p m how s
  let s := s.onReg n fun r => { r with anchor := some ⟨m, k * p.pitch, how.isObserved, p.src⟩ }
  let s := countHow n m how s
  let s := markEffects n p how s
  let s := endReport n p.src (endFrom p m (k * p.pitch) (s.reg.get n).f) s
  formPitch n s

/-! ## Placing a mark (R67, R70, R71) -/

/-- A stray mark sends its notice and changes nothing else (R71). -/
def strayMark (n : Lane) (rec : MarkRecord) (s : State) : State := queueEvent (.markNotice (.stray rec.kind) n rec.m) s

/-- The record can fill the start window and lies in it (R67). -/
def State.startEligible (s : State) (n : Lane) (rec : MarkRecord) : Bool :=
  (rec.kind == .start || rec.kind == .undecoded) && s.inStartWindow n rec.m

/-- The record can fill the pitch window and lies in it (R67). -/
def State.pitchEligible (s : State) (n : Lane) (rec : MarkRecord) : Bool :=
  (rec.kind == .pitch || rec.kind == .undecoded) && s.inPitchWindow n rec.m

/-- The window a record is accepted into: the start window when both are eligible and its x is not the farther (R67). -/
def State.intoStart (s : State) (n : Lane) (rec : MarkRecord) : Bool :=
  s.startEligible n rec
  && (!s.pitchEligible n rec
      || match (s.reg.get n).start, (s.reg.get n).pitch with
         | some st, some pe => startNearer st pe rec.m
         | _, _ => true)

/-- A record placed in a lane that follows marks (R67, R68, R69, R71); stray where the panel's context has left the list (log
entry 48). -/
def placeFollowing (n : Lane) (rec : MarkRecord) (s : State) : State :=
  if s.intoStart n rec then
    match (s.reg.get n).start.bind (fun e => s.ctx? n e.panel) with
    | some p => startPanel n p rec.m (.observed rec) false s
    | none => strayMark n rec s
  else if s.pitchEligible n rec then
    match (s.reg.get n).pitch, (s.reg.get n).current.bind (s.ctx? n) with
    | some e, some p => takePitch n p e.k rec.m (.observed rec) s
    | _, _ => strayMark n rec s
  else strayMark n rec s

/-- A record placed in a SEEKING lane (R70). -/
def placeSeeking (n : Lane) (rec : MarkRecord) (s : State) : State :=
  match s.headExpected n with
  | some p =>
      if rec.kind = .start ∧ p.synth = false then startPanel n p rec.m (.observed rec) true s else strayMark n rec s
  | none => strayMark n rec s

/-- A mark record is placed at its decision point (R67, R70). -/
def placeMark (n : Lane) (rec : MarkRecord) (s : State) : State :=
  match (s.reg.get n).state with
  | .seeking => placeSeeking n rec s
  | .tracking | .coasting | .lost => placeFollowing n rec s
  | .unused | .blind => s

/-! ## What is due in a lane without a mark (R64, R65, R70, R72, R73, R76) -/

/-- The leading edge of the decode in progress (R44). -/
def decodeMark : Decode → Option Int
  | .inBar m _ => some m
  | .inCode m _ _ _ => some m
  | .off | .clearing | .watching => none

/-- The decode in progress in a lane began in a window, and holds it open (R65). -/
def State.heldOpen (s : State) (n : Lane) (x h : Int) : Bool :=
  match decodeMark (s.eyes.get n).decode with
  | some m => decide (distance x m ≤ h)
  | none => false

/-- A SYNTH head context in a SEEKING lane: its START is set at the beam coordinate (R70). -/
def seekSynth (n : Lane) (s : State) : Option State :=
  match (s.reg.get n).state, s.headExpected n with
  | .seeking, some p =>
      if p.synth then
        some (armStart n p.src s.beamPos
          (s.onReg n fun r => { r with state := .tracking, synth := some ⟨p.src, s.beamPos⟩ }))
      else none
  | _, _ => none

/-- The pending SYNTH start is synthesised when the beam coordinate passes x + MARK_WIN (R70, R76). -/
def dueSynth (n : Lane) (s : State) : Option State :=
  match (s.reg.get n).synth with
  | some e =>
      if e.x + s.par .markWin < s.beamPos then
        match s.ctx? n e.panel with
        | some p => some (startPanel n p e.x .synthesised true s)
        | none => none
      else none
  | none => none

/-- The conditions of a start expectation have come to hold (R64). -/
def dueForm (n : Lane) (s : State) : Option State :=
  let r := s.reg.get n
  if following r.state ∧ r.start = none ∧ r.synth = none ∧ r.lastEnd.isSome ∧ (s.headExpected n).isSome
  then some (formStart n s) else none

/-- A pitch of the current panel is missed or synthesised at x: by the steps of R72. For a panel that has been cut the spec
does not say what they do; the model takes them, but for the END entry (log entry 47), while its context stands in the list,
and once it has left it, the miss is counted and the expectation ends (DESIGN CHOICE, log entry 48). -/
def passPitch (n : Lane) (e : PitchExpect) (how : How) (s : State) : State :=
  match (s.reg.get n).current.bind (s.ctx? n) with
  | some p => takePitch n p e.k e.x how s
  | none => (countHow n e.x how s).onReg n fun r => { r with pitch := none }

/-- The pitch expectation is missed at the close of its window, or synthesised where it has none (R72, R73, R76). -/
def duePitch (n : Lane) (s : State) : Option State :=
  let r := s.reg.get n
  match r.pitch with
  | some e =>
      if following r.state ∧ e.x + s.par .markWin < s.beamPos then
        if s.pitchWindow n then
          if s.heldOpen n e.x (s.par .markWin) then none else some (passPitch n e .missed s)
        else some (passPitch n e .synthesised s)
      else none
  | none => none

/-- The start expectation is missed at the close of its window, or synthesised for a SYNTH panel (R72, R76). -/
def dueStart (n : Lane) (s : State) : Option State :=
  let r := s.reg.get n
  match r.start with
  | some e =>
      match s.ctx? n e.panel with
      | some p =>
          if !following r.state then none
          else if p.synth then
            if e.x + s.par .markWin < s.beamPos then some (startPanel n p e.x .synthesised false s) else none
          else if e.x + s.startHalf r.state < s.beamPos then
            if s.heldOpen n e.x (s.startHalf r.state) then none else some (startPanel n p e.x .missed false s)
          else none
      | none => none
  | none => none

/-- The first thing due in a lane (log entry 5). -/
def dueInLane (n : Lane) (s : State) : Option State :=
  ((((seekSynth n s).or (dueSynth n s)).or (dueForm n s)).or (duePitch n s)).or (dueStart n s)

/-- The first thing due in any lane, lowest lane first. -/
def dueNext (s : State) : Option State :=
  (((dueInLane .lane0 s).or (dueInLane .lane1 s)).or (dueInLane .lane2 s)).or (dueInLane .lane3 s)

/-- Everything due is done, one after another. -/
def regDue : Nat → State → State
  | 0, s => s
  | k + 1, s =>
      match dueNext s with
      | some t => regDue k t
      | none => s

/-- The Registration Unit does what is due. A lane makes few of these in one step, since pitches lie 10,000 wu apart (log entry 5). -/
def settleReg (s : State) : State := regDue 64 s

/-! ## Blind and unused lanes (R78, R79) -/

/-- A lane not UNUSED becomes BLIND; F and E keep their values (R78). -/
def LaneReg.blinded (r : LaneReg) : LaneReg :=
  if r.state = .unused then r
  else { r with state := .blind, anchor := none, miss := 0, current := none, pitch := none, start := none, synth := none }

/-- A lane at the completion of a changeover: SEEKING with F and E kept, or UNUSED with F 0 (R78). -/
def LaneReg.released (used : Bool) (r : LaneReg) : LaneReg :=
  if used then { r with state := .seeking } else LaneReg.cleared

/-- A lane at THREAD (R79). -/
def LaneReg.threaded (used : Bool) : LaneReg :=
  if used then { LaneReg.cleared with state := .seeking } else LaneReg.cleared

/-- A lane at job end: UNUSED, F kept (R79). -/
def LaneReg.jobEnded (r : LaneReg) : LaneReg := { LaneReg.cleared with f := r.f }

end Sys2Proof.Machine
end

