-- ==== Sys2Proof/Machine/Eyes.lean ====
section
/-! DEFINITION. The Eye Interface (R39 to R58): activity, edges, PLAIN bars, CODED marks, inspection. -/
namespace Sys2Proof.Machine

/-! ## Activity (R40) -/

/-- An eye becomes active: it reads its signal (R40). -/
def Eye.activate (dark : Bool) (_ : Eye) : Eye := ⟨if dark then .clearing else .watching, dark, none, none⟩

/-- An eye becomes inactive: its decode and its intervals are discarded (R40). -/
def Eye.deactivate (e : Eye) : Eye := ⟨.off, e.held, none, none⟩

/-- The eye of a lane follows the conditions of R40. -/
def syncEye (n : Lane) (s : State) : State :=
  if s.eyeActive n then
    if (s.eyes.get n).decode = .off then s.onEye n (Eye.activate (s.pins.eyeDark.get n)) else s
  else if (s.eyes.get n).decode = .off then s
  else s.onEye n Eye.deactivate

/-- Every eye follows the conditions of R40. -/
def syncEyes (s : State) : State := forLanes syncEye s

/-! ## PLAIN bars (R45, R46) -/

/-- The outcome of a PLAIN bar by its length; none is MALFORMED (R45). -/
def barKind (shortMax longMin len : Int) : Option MarkKind :=
  if len ≤ shortMax then some .pitch else if longMin ≤ len then some .start else none

/-- A decode that ends in a state without a mark: MARK_NOTICE(malformed) (R47). -/
def malformed (n : Lane) (m : Int) (next : Decode) (s : State) : State :=
  queueEvent (.markNotice .malformed n m) (s.onEye n fun e => { e with decode := next })

/-- A decode hands over a mark record, which is placed (R44, R53). -/
def handOver (n : Lane) (rec : MarkRecord) (next : Decode) (s : State) : State :=
  placeMark n rec (s.onEye n fun e => { e with decode := next })

/-! ## CODED marks (R48 to R52) -/

/-- The beam coordinate at which cell i is sampled (R49). -/
def cellPoint (m pitch : Int) (i : Nat) : Int := m + (i + 1) * pitch + truncDiv pitch 2

/-- The cells sampled once the beam coordinate stands at b, all new ones at the same level (R49). -/
def sampleCells (m pitch b : Int) (dark : Bool) : Nat → List Bool → List Bool
  | 0, cells => cells
  | k + 1, cells =>
      if cells.length < 10 ∧ cellPoint m pitch cells.length ≤ b then sampleCells m pitch b dark k (cells ++ [dark])
      else cells

/-- The number of dark cells (R51). -/
def darkCount (cells : List Bool) : Nat := cells.count true

/-- Parity holds for ten cells under a PARITY_MODE (R51). -/
def parityHolds (mode : Int) (cells : List Bool) : Bool :=
  let covered := if mode = 0 ∨ mode = 1 then cells.drop 1 else cells
  if mode = 0 ∨ mode = 2 then darkCount covered % 2 == 0 else darkCount covered % 2 == 1

/-- The tag in cells 1 to 8, most significant bit first (R50). -/
def cellTag (cells : List Bool) : Nat :=
  ((cells.drop 1).take 8).foldl (fun (acc : Nat) (b : Bool) => 2 * acc + b.toNat) 0

/-- The mark record of ten cells (R50, R51, R52). -/
def codedRecord (mode m : Int) (cells : List Bool) (inspected : Bool) : MarkRecord :=
  if parityHolds mode cells then
    ⟨m, true, if cells.head? = some true then .start else .pitch, some (cellTag cells), inspected⟩
  else ⟨m, true, .undecoded, none, inspected⟩

/-- WATCHING if the signal is light, CLEARING if it is dark (R50). -/
def afterCode (dark : Bool) : Decode := if dark then .clearing else .watching

/-! ## The beam coordinate advances -/

/-- A decoder at a new beam coordinate: the overlong limit, the failing start bar, the cells (R46, R48, R49, R50). -/
def advanceDecode (n : Lane) (s : State) : State :=
  let dark := s.pins.eyeDark.get n
  match (s.eyes.get n).decode with
  | .inBar m inspected =>
      if m + overlongLimit ≤ s.beamPos then handOver n ⟨m, false, .start, none, inspected⟩ .clearing s else s
  | .inCode m good cells inspected =>
      if good = false ∧ m + s.par .barShortMax < s.beamPos then malformed n m .clearing s
      else
        let cells := sampleCells m (s.par .cellPitch) s.beamPos dark 10 cells
        if cells.length = 10 then handOver n (codedRecord (s.par .parityMode) m cells inspected) (afterCode dark) s
        else s.onEye n fun e => { e with decode := .inCode m good cells inspected }
  | .off | .clearing | .watching => s

/-- An interval at a new beam coordinate: ended when x + MARK_WIN is passed, begun when x - MARK_WIN is reached (R57). -/
def State.advanceInterval (s : State) (i : Option Interval) : Option Interval :=
  match i with
  | some i =>
      if i.x + s.par .markWin < s.beamPos then none
      else some { i with begun := decide (i.begun = true ∨ i.x - s.par .markWin ≤ s.beamPos) }
  | none => none

/-- INSPECT asserted as an interval begins (R57). -/
def inspectNew (n : Lane) (old new : Option Interval) (s : State) : State :=
  match old, new with
  | some a, some b => if a.begun then s else inspectBegin n (some b) s
  | _, _ => s

/-- Both intervals of a lane at a new beam coordinate (R57). -/
def advanceIntervals (n : Lane) (s : State) : State :=
  let e := s.eyes.get n
  let a := s.advanceInterval e.startInterval
  let b := s.advanceInterval e.pitchInterval
  let s := s.onEye n fun e => { e with startInterval := a, pitchInterval := b }
  inspectNew n e.pitchInterval b (inspectNew n e.startInterval a s)

/-- Every decoder at a new beam coordinate, lowest lane first. -/
def advanceEyes (s : State) : State := forLanes (fun n s => advanceDecode n (advanceIntervals n s)) s

/-! ## Edges (R39, R41 to R45, R48) -/

/-- A leading edge is taken (R42, R43, R56). -/
def takeLeading (n : Lane) (s : State) : State :=
  match (s.eyes.get n).decode with
  | .watching =>
      let m := s.beamPos
      let inspected := s.pins.inspect.get n
      let d : Decode := if s.codedFormat n m then .inCode m false [] inspected else .inBar m inspected
      s.onEye n fun e => { e with decode := d }
  | .off | .clearing | .inBar _ _ | .inCode _ _ _ _ => s

/-- A trailing edge is taken (R42, R45, R48). -/
def takeTrailing (n : Lane) (s : State) : State :=
  match (s.eyes.get n).decode with
  | .clearing => s.onEye n fun e => { e with decode := .watching }
  | .inBar m inspected =>
      match barKind (s.par .barShortMax) (s.par .barLongMin) (s.beamPos - m) with
      | some k => handOver n ⟨m, false, k, none, inspected⟩ .watching s
      | none => malformed n m .watching s
  | .inCode m good cells inspected =>
      if good then s
      else if s.beamPos ≤ m + s.par .barShortMax then
        s.onEye n fun e => { e with decode := .inCode m true cells inspected }
      else s
  | .off | .watching => s

/-- One edge of the sense of the new level (R39). -/
def takeEdge (n : Lane) (dark : Bool) (s : State) : State := if dark then takeLeading n s else takeTrailing n s

/-- The edge taken when the hold-back returns to 0 and the level has changed since it rose (R41). -/
def edgeAfterHold (n : Lane) (s : State) : State :=
  if s.pins.eyeDark.get n = (s.eyes.get n).held then s else takeEdge n (s.pins.eyeDark.get n) s

/-- Each eye remembers its level as the hold-back rises (R41). -/
def holdLevels (s : State) : State :=
  forLanes (fun n s => s.onEye n fun e => { e with held := s.pins.eyeDark.get n }) s

/-- INSPECT becomes asserted: the decode's flag is set, and the panels of begun intervals receive INSPECTION (R56, R57). -/
def takeInspect (n : Lane) (s : State) : State :=
  let e := s.eyes.get n
  let d : Decode :=
    match e.decode with
    | .inBar m _ => .inBar m true
    | .inCode m g c _ => .inCode m g c true
    | .off => .off
    | .clearing => .clearing
    | .watching => .watching
  let s := s.onEye n fun e => { e with decode := d }
  inspectBegin n e.pitchInterval (inspectBegin n e.startInterval s)

end Sys2Proof.Machine
end

