-- ==== Sys2Proof/Machine/Changeover.lean ====
section
/-! DEFINITION. The Beam Controller (R124 to R132): the trigger with its guard, the move, failure and reissue. The completion,
which lets the Plan Reader go on, is in Plan.lean. -/
namespace Sys2Proof.Machine

/-- A changeover in MOVING fails: the timer stops and BEAM is raised; in any other state nothing happens (R130). -/
def failChangeover (s : State) : State :=
  match s.beam.changeover with
  | .moving l g => raiseHold .beam (s.onBeam fun b => { b with changeover := .failed l g, timer := none })
  | .none | .pending _ | .failed _ _ => s

/-- A BEAM action that met a full action list fails (R157, R165). -/
def beamActionPushed (sf : State × Bool) : State := if sf.2 then failChangeover sf.1 else sf.1

/-- The positions action of the pending layout is raised, and the state is MOVING (R126, R128, R131). -/
def startMove (l : Layout) (g : Int) (s : State) : State :=
  let s := s.onBeam fun b => { b with changeover := .moving l g, timer := none, move := b.move + 1 }
  beamActionPushed (pushAction (.positions s.beam.move l) s)

/-- The largest E present among the lanes (R126). -/
def largestEnd (r : Lanes LaneReg) : Option Int :=
  (r.toList.filterMap LaneReg.lastEnd).foldl
    (fun (acc : Option Int) (e : Int) => match acc with | none => some e | some a => some (higher a e)) none

/-- The guard computed at the trigger (R126). -/
def State.triggerGuard (s : State) (l : Layout) : Int :=
  higher ((largestEnd s.reg).getD s.beamPos + l.gap - 2 * s.par .markWin) s.beamPos

/-- The conditions of the trigger on lists, ends and the line state (R126). -/
def State.triggerMet (s : State) : Bool :=
  laneList.all (fun n => (s.headExpected n).isNone)
  && s.reg.toList.all (fun r => match r.lastEnd with | some e => decide (e ≤ s.beamPos) | none => true)
  && s.motion.line != .tripped

/-- Every registration record is changed. -/
def State.mapReg (s : State) (f : Lane → LaneReg → LaneReg) : State := forLanes (fun n s => s.onReg n (f n)) s

/-- The trigger is judged; when it is met the guard is set, the eyes are blinded, the lanes become BLIND and the positions
action is raised (R126). -/
def judgeTrigger (s : State) : State :=
  match s.beam.changeover with
  | .pending l =>
      if s.triggerMet then
        let g := s.triggerGuard l
        let s := s.onBeam fun b => { b with changeover := .moving l g }
        startMove l g ((syncEyes s).mapReg fun _ => LaneReg.blinded)
      else s
  | .none | .moving _ _ | .failed _ _ => s

/-- A FAILED changeover is reissued at the line's entry into RUNNING; the guard is kept (R131). -/
def reissue (s : State) : State :=
  match s.beam.changeover with
  | .failed l g => startMove l g s
  | .none | .pending _ | .moving _ _ => s

/-- The positions action is answered ACK: the move action is raised, if the move it belongs to is still in hand (R128). -/
def positionsAcked (move : Nat) (s : State) : State :=
  match s.beam.changeover with
  | .moving _ _ => if move = s.beam.move then beamActionPushed (pushAction (.move move) s) else s
  | .none | .pending _ | .failed _ _ => s

/-- The move action is answered ACK: the beam timer starts (R128). -/
def moveAcked (move : Nat) (s : State) : State :=
  match s.beam.changeover with
  | .moving _ _ =>
      if move = s.beam.move then s.onBeam fun b => { b with timer := some (s.par .beamTimeout).toNat } else s
  | .none | .pending _ | .failed _ _ => s

/-- A BEAM action of a move fails (R130, R165). -/
def beamActionFailed (move : Nat) (s : State) : State := if move = s.beam.move then failChangeover s else s

end Sys2Proof.Machine
end

