-- ==== Sys2Proof/Machine/Operands.lean ====
section
/-! DEFINITION. What the bytes of a plan record and of a request frame say (R18 to R20, R181, R188), and how a request is
written as a frame (R181). -/
namespace Sys2Proof.Machine

/-! ## Plan records (R188) -/

/-- The fields of a PANEL record (R18). -/
structure PanelRecord where
  lane : Nat
  panelId : Nat
  nominal : Nat
  lead : Nat
  pitch : Nat
  copies : Nat
  coded : Bool
  synth : Bool
  pauseAfter : Bool
  otherFlags : Bool
deriving DecidableEq, Repr

/-- A plan record by kind (R18, R19, R20). -/
inductive PlanRecord where
  | panel (p : PanelRecord)
  | layout (l : Layout)
  | ending
  | unknown
deriving DecidableEq, Repr

/-- The number in bytes `i` .. `i + k - 1` of a record, most significant byte first. -/
def recordNat (r : RawRecord) (i k : Nat) : Nat := beNat ((r.toList.drop i).take k)

/-- The two-byte field at byte `i` of a record. -/
def recordWord (r : RawRecord) (i : Nat) : Word16 := BitVec.ofNat 16 (recordNat r i 2)

/-- The fields of a plan record (R188). -/
def parseRecord (r : RawRecord) : PlanRecord :=
  match recordNat r 0 1 with
  | 1 =>
      .panel
        { lane := recordNat r 1 1, panelId := recordNat r 2 2, nominal := recordNat r 4 4, lead := recordNat r 8 3,
          pitch := recordNat r 11 3, copies := recordNat r 14 1,
          coded := (recordNat r 15 1).testBit 0, synth := (recordNat r 15 1).testBit 1,
          pauseAfter := (recordNat r 15 1).testBit 2, otherFlags := decide (8 ≤ recordNat r 15 1) }
  | 2 =>
      .layout
        { laneCount := recordNat r 1 1, gap := recordNat r 2 3, leftTrim := recordWord r 5, slit1 := recordWord r 7,
          slit2 := recordWord r 9, slit3 := recordWord r 11, rightTrim := recordWord r 13,
          label := BitVec.ofNat 8 (recordNat r 15 1) }
  | 3 => .ending
  | _ => .unknown

/-- The ranges of R18. -/
def PanelRecord.ok (p : PanelRecord) : Bool :=
  decide (p.lane ≤ 3) && decide (1 ≤ p.panelId ∧ p.panelId ≤ 4095)
  && decide (25000 ≤ p.nominal ∧ p.nominal ≤ 5000000)
  && decide (p.lead = 0 ∨ (5000 ≤ p.lead ∧ p.lead ≤ 500000))
  && decide (p.pitch = 0 ∨ (10000 ≤ p.pitch ∧ p.pitch ≤ 200000 ∧ p.pitch < p.nominal))
  && decide (1 ≤ p.copies ∧ p.copies ≤ 99)
  && !(p.coded && p.synth) && !p.otherFlags

/-- The used positions of a layout, left trim to right trim (R19). -/
def Layout.usedPositions (l : Layout) : List Nat :=
  l.leftTrim.toNat :: ([l.slit1.toNat, l.slit2.toNat, l.slit3.toNat].take (l.laneCount - 1)) ++ [l.rightTrim.toNat]

/-- Every position lies at least 3,000 above the one before, so the positions rise strictly and every lane is wide
enough (R19). -/
def lanesWide : List Nat → Bool
  | a :: b :: r => decide (a + 3000 ≤ b) && lanesWide (b :: r)
  | _ => true

/-- The checks of R19. -/
def Layout.ok (l : Layout) : Bool :=
  decide (1 ≤ l.laneCount ∧ l.laneCount ≤ 4) && decide (20000 ≤ l.gap ∧ l.gap ≤ 1000000)
  && lanesWide l.usedPositions
  && (([l.slit1, l.slit2, l.slit3].drop (l.laneCount - 1)).all (fun w => w == 0))
  && decide (l.rightTrim.toNat ≤ 32000)

/-- The check PAGE_ARM makes on one record (R18, R19, R20). -/
def recordOk (r : RawRecord) : Bool :=
  match parseRecord r with
  | .panel p => p.ok
  | .layout l => l.ok
  | .ending => true
  | .unknown => false

/-! ## Requests (R181) -/

/-- A request whose kind and payload length the table of R181 allows. -/
inductive Request where
  | status
  | setup (pairs : List (Byte × Word32))
  | thread (p : Word32)
  | run
  | hold
  | resume
  | recover
  | lineReset
  | pageLoad (page first : Byte) (records : List RawRecord)
  | pageArm (page : Byte)
  | pageClear (page : Byte)
  | pageQuery (page : Byte)
  | panelQuery (lane : Byte)
  | flagPanel (lane : Byte) (panelId : Word16)
  | zoneAdd (offset length : Word32)
  | stationRelay (targetType target direction width : Byte) (index : Word16) (data : List Byte)
deriving DecidableEq, Repr

/-- What the examination of a frame finds (R181). -/
inductive Examined where
  | badKind
  | badLength
  | request (r : Request)
deriving DecidableEq, Repr

/-- Pairs of parameter number and value; none unless the length is a multiple of 5 (R181). -/
def parsePairs : List Byte → Option (List (Byte × Word32))
  | [] => some []
  | n :: a :: b :: c :: d :: r => (parsePairs r).map (fun t => (n, word32Of a b c d) :: t)
  | _ => none

/-- Sixteen bytes as a record, with the rest. -/
def takeRecord : List Byte → Option (RawRecord × List Byte)
  | b0 :: b1 :: b2 :: b3 :: b4 :: b5 :: b6 :: b7 :: b8 :: b9 :: b10 :: b11 :: b12 :: b13 :: b14 :: b15 :: r =>
      some (#v[b0, b1, b2, b3, b4, b5, b6, b7, b8, b9, b10, b11, b12, b13, b14, b15], r)
  | _ => none

/-- `k` records; none unless the bytes are exactly 16 for each (R181). -/
def parseRecords : Nat → List Byte → Option (List RawRecord)
  | 0, [] => some []
  | 0, _ :: _ => none
  | k + 1, bs =>
      match takeRecord bs with
      | some (v, r) => (parseRecords k r).map (fun t => v :: t)
      | none => none

/-- A payload of no bytes. -/
def parseNone (r : Request) : List Byte → Examined
  | [] => .request r
  | _ :: _ => .badLength

/-- A payload of one byte. -/
def parseByte (f : Byte → Request) : List Byte → Examined
  | [b] => .request (f b)
  | _ => .badLength

/-- SETUP: 5 to 240 bytes, a multiple of 5 (R181). -/
def parseSetup (p : List Byte) : Examined :=
  match parsePairs p with
  | none => .badLength
  | some pairs => if 1 ≤ pairs.length ∧ pairs.length ≤ 48 then .request (.setup pairs) else .badLength

/-- PAGE_LOAD: 18 to 226 bytes, 2 + 16 × records (R181). -/
def parsePageLoad : List Byte → Examined
  | page :: first :: rest =>
      match parseRecords (rest.length / 16) rest with
      | none => .badLength
      | some records =>
          if 1 ≤ records.length ∧ records.length ≤ 14 then .request (.pageLoad page first records) else .badLength
  | _ => .badLength

/-- STATION_RELAY: 7 bytes for a read, 7 to 70 otherwise (R181). -/
def parseRelay : List Byte → Examined
  | tt :: t :: d :: w :: i1 :: i0 :: data =>
      if data.length = 1 ∨ (d ≠ 0 ∧ 1 ≤ data.length ∧ data.length ≤ 64)
      then .request (.stationRelay tt t d w (word16Of i1 i0) data) else .badLength
  | _ => .badLength

/-- The examination of a frame: its kind, then its payload length, then its fields (R181). -/
def examine (kind : Byte) (p : List Byte) : Examined :=
  if kind = 0x01 then parseNone .status p
  else if kind = 0x02 then parseSetup p
  else if kind = 0x03 then
    match p with | [a, b, c, d] => .request (.thread (word32Of a b c d)) | _ => .badLength
  else if kind = 0x04 then parseNone .run p
  else if kind = 0x05 then parseNone .hold p
  else if kind = 0x06 then parseNone .resume p
  else if kind = 0x07 then parseNone .recover p
  else if kind = 0x08 then parseNone .lineReset p
  else if kind = 0x10 then parsePageLoad p
  else if kind = 0x11 then parseByte .pageArm p
  else if kind = 0x12 then parseByte .pageClear p
  else if kind = 0x13 then parseByte .pageQuery p
  else if kind = 0x14 then parseByte .panelQuery p
  else if kind = 0x15 then
    match p with | [l, a, b] => .request (.flagPanel l (word16Of a b)) | _ => .badLength
  else if kind = 0x16 then
    match p with
    | [a, b, c, d, e, f, g, h] => .request (.zoneAdd (word32Of a b c d) (word32Of e f g h))
    | _ => .badLength
  else if kind = 0x20 then parseRelay p
  else .badKind

/-! ## Requests as frames (R181) -/

/-- The kind code of a request. -/
def requestKind : Request → Byte
  | .status => 0x01
  | .setup _ => 0x02
  | .thread _ => 0x03
  | .run => 0x04
  | .hold => 0x05
  | .resume => 0x06
  | .recover => 0x07
  | .lineReset => 0x08
  | .pageLoad _ _ _ => 0x10
  | .pageArm _ => 0x11
  | .pageClear _ => 0x12
  | .pageQuery _ => 0x13
  | .panelQuery _ => 0x14
  | .flagPanel _ _ => 0x15
  | .zoneAdd _ _ => 0x16
  | .stationRelay _ _ _ _ _ _ => 0x20

/-- The payload of a request. -/
def requestPayload : Request → List Byte
  | .status | .run | .hold | .resume | .recover | .lineReset => []
  | .setup pairs => pairs.flatMap (fun q => q.1 :: word32Bytes q.2)
  | .thread p => word32Bytes p
  | .pageLoad page first records => page :: first :: records.flatMap (fun v => v.toList)
  | .pageArm page | .pageClear page | .pageQuery page => [page]
  | .panelQuery lane => [lane]
  | .flagPanel lane panelId => lane :: word16Bytes panelId
  | .zoneAdd offset length => word32Bytes offset ++ word32Bytes length
  | .stationRelay tt t d w i data => tt :: t :: d :: w :: (word16Bytes i ++ data)

/-- The frame that carries a request. -/
def requestFrame (tag : Byte) (r : Request) : Frame := ⟨requestKind r, tag, requestPayload r⟩

/-- The start byte of a frame (R179). -/
def startByte : Byte := 0xC3

/-- Length, kind, tag and payload of a frame: the bytes under the CRC (R179). -/
def frameBody (f : Frame) : List Byte := BitVec.ofNat 8 f.payload.length :: f.kind :: f.tag :: f.payload

/-- The bytes of a frame (R179). -/
def frameBytes (f : Frame) : List Byte := startByte :: (frameBody f ++ word16Bytes (crc16 (frameBody f)))

end Sys2Proof.Machine
end

