-- ==== Sys2Proof/Machine/Plan.lean ====
section
/-! DEFINITION. The Plan Store and the Plan Reader (R16, R26 to R35, R37), and the completion of a changeover (R129). -/
namespace Sys2Proof.Machine

/-! ## Pages (R16, R17, R35) -/

/-- The state with one page changed. -/
def State.onPage (s : State) (p : Fin 8) (f : Page → Page) : State :=
  s.onStore fun t => { t with pages := t.pages.set p (f t.pages[p]) }

/-- A SPENT page with open panel count 0 is released (R35). -/
def releasePage (p : Fin 8) (s : State) : State :=
  if s.store.pages[p].state = .spent ∧ s.store.pages[p].openPanels = 0 then
    queueEvent (.pageNotice .released p) (s.onPage p fun _ => Page.empty)
  else s

/-- A page becomes SPENT and is examined for release (R29, R34, R35). -/
def spendPage (p : Fin 8) (s : State) : State := releasePage p (s.onPage p fun a => { a with state := .spent })

/-! ## Job end (R37) -/

/-- The job-end condition (R37). -/
def State.jobDone (s : State) : Bool :=
  s.reader == .finished && s.lists.toList.all List.isEmpty && s.cuts.entries.isEmpty

/-- The job-end condition is examined; it is signalled on the first occasion on which it holds (R37). -/
def examineJobEnd (s : State) : State := if s.jobDone ∧ s.motion.jobEnd = false then signalJobEnd s else s

/-! ## Reading (R27 to R34) -/

/-- The Reader needs a page: it takes the one at the pointer if it is ARMED, and otherwise waits (R27, R28). -/
def needPage (s : State) : State :=
  let p := s.store.next
  if s.store.pages[p].state = .armed then
    let s := s.onPage p fun a => { a with state := .opened }
    (s.onStore fun t => { t with next := p + 1 }).setReader (.reading p 0 1)
  else queueEvent (.pageNotice .planLow p) (s.setReader .waiting)

/-- The record at a slot counts as read (R29). -/
def recordRead (p : Fin 8) (slot : Nat) (s : State) : State :=
  if slot + 1 < s.store.pages[p].count then s.setReader (.reading p (slot + 1) 1)
  else needPage (spendPage p s)

/-- The context created for one copy of a PANEL record (R31). -/
def newCtx (p : Fin 8) (slot copy : Nat) (r : PanelRecord) : Ctx :=
  { panelId := r.panelId, tag := r.panelId % 256, src := ⟨p, slot, copy⟩, nominal := r.nominal, lead := r.lead,
    pitch := r.pitch, coded := r.coded, synth := r.synth, pauseAfter := r.pauseAfter, state := .expected,
    startEntry := none, endEntry := none, startTarget := none, endTarget := none, startActual := none, endActual := none,
    fEndLock := none, reasons := Reasons.empty, notes := Notes.empty }

/-- One copy is created at the tail of the lane's list (R31). -/
def createCopy (p : Fin 8) (slot copy : Nat) (r : PanelRecord) (n : Lane) (s : State) : State :=
  let s := s.onList n fun l => l ++ [newCtx p slot copy r]
  let s := s.onPage p fun a => { a with openPanels := a.openPanels + 1 }
  if copy < r.copies then s.setReader (.reading p slot (copy + 1)) else recordRead p slot s

/-- The Reader at a PANEL (R30, R31, R32). -/
def readPanel (p : Fin 8) (slot copy : Nat) (r : PanelRecord) (s : State) : State :=
  match laneOf r.lane with
  | none => recordRead p slot (queueEvent (.pageNotice (.planError slot) p) s)
  | some n =>
      if copy = 1 ∧ s.used n = false then recordRead p slot (queueEvent (.pageNotice (.planError slot) p) s)
      else if (s.lists.get n).length < listMax then createCopy p slot copy r n s
      else s.setReader (.stalled p slot copy)

/-- The Reader hands a LAYOUT record to the Beam Controller, which judges the trigger at once (R33, R125). -/
def readLayout (p : Fin 8) (slot : Nat) (l : Layout) (s : State) : State :=
  judgeTrigger ((s.setReader (.layoutStop p slot)).onBeam fun b => { b with changeover := .pending l })

/-- The Reader reads END (R34, R37). -/
def readEnd (p : Fin 8) (s : State) : State := examineJobEnd (spendPage p (s.setReader .finished))

/-- The Reader at a record; a slot that holds none, and a kind PAGE_ARM refuses, count as read (log entry 29). -/
def readRecord (p : Fin 8) (slot copy : Nat) (s : State) : State :=
  match s.store.pages[p].slots[slot]?.join with
  | none => recordRead p slot s
  | some r =>
      match parseRecord r with
      | .panel r => readPanel p slot copy r s
      | .layout l => readLayout p slot l s
      | .ending => readEnd p s
      | .unknown => recordRead p slot s

/-- The Reader goes on while it is READING (R29). -/
def readLoop : Nat → State → State
  | 0, s => s
  | k + 1, s =>
      match s.reader with
      | .reading p slot copy => readLoop k (readRecord p slot copy s)
      | .inactive | .waiting | .stalled _ _ _ | .layoutStop _ _ | .finished => s

/-- The Reader reads as far as it can: at most 48 copies and eight pages of sixteen records lie ahead of it. -/
def readOn (s : State) : State := readLoop 512 s

/-- The Reader in need of a page looks for it and reads on (R27, R28). -/
def takePage (s : State) : State := readOn (needPage s)

/-- A STALLED Reader tries its copy again (R32, R88). -/
def resumeStalled (s : State) : State :=
  match s.reader with
  | .stalled p slot copy => readOn (s.setReader (.reading p slot copy))
  | .inactive | .waiting | .reading _ _ _ | .layoutStop _ _ | .finished => s

/-- The LAYOUT record at which the Reader stands counts as read, and the Reader continues (R29, R33). -/
def layoutRead (s : State) : State :=
  match s.reader with
  | .layoutStop p slot => readOn (recordRead p slot s)
  | .inactive | .waiting | .reading _ _ _ | .stalled _ _ _ | .finished => s

/-! ## Completion of a changeover (R129) -/

/-- A changeover in MOVING completes (R129). -/
def completeChangeover (s : State) : State :=
  match s.beam.changeover with
  | .moving l _ =>
      let s := s.onBeam fun b => { b with timer := none, changeover := .none, current := l }
      let s := syncEyes (s.mapReg fun n => LaneReg.released (s.used n))
      layoutRead (queueLine (.layout l.laneCount l.label) s)
  | .none | .pending _ | .failed _ _ => s

/-- The Beam Controller takes a beam status in MOVING after the move action's ACK, and no other (R128, R130). -/
def takeBeamStatus (b : BeamStatus) (s : State) : State :=
  match s.beam.changeover, s.beam.timer with
  | .moving _ _, some _ =>
      match b with
      | .idle | .moving => s
      | .done => completeChangeover s
      | .fault => failChangeover s
  | _, _ => s

end Sys2Proof.Machine
end

