-- ==== Sys2Proof/Machine/Tracker.lean ====
section
/-! DEFINITION. The Lane Tracker's end of a panel: result, report, removal (R87 to R89). -/
namespace Sys2Proof.Machine

/-- A coordinate of a finished panel; every one is present by then (R89, log entry 22). -/
def present (x : Option Int) : Int := x.getD 0

/-- A target and an actual differ by more than CUT_TOL (R87). -/
def outOfTol (tol : Int) (target actual : Option Int) : Bool := decide (tol < distance (present target) (present actual))

/-- The result of a context (R87). -/
def panelResult (tol : Int) (c : Ctx) : PanelResult :=
  if c.reasons.any then .reject
  else if outOfTol tol c.startTarget c.startActual || outOfTol tol c.endTarget c.endActual || c.notes.unregistered then .outOfTol
  else .good

/-- The report of a context (R89). -/
def panelReport (tol : Int) (n : Lane) (c : Ctx) : PanelReport :=
  { panelId := c.panelId, lane := n, src := c.src, result := panelResult tol c, reasons := c.reasons, notes := c.notes,
    startTarget := present c.startTarget, startActual := present c.startActual, endTarget := present c.endTarget,
    endActual := present c.endActual, fEndLock := present c.fEndLock }

/-- A context becomes DONE (R88). -/
def makeDone (n : Lane) (q : Source) (s : State) : State :=
  match s.ctx? n q with
  | none => s
  | some c =>
      let s := queueEvent (.panelDone (panelReport (s.par .cutTol) n c)) s
      let s := s.onList n (List.filter fun a => a.src != q)
      let s := releasePage q.page (s.onPage q.page fun a => { a with openPanels := a.openPanels - 1 })
      examineJobEnd (resumeStalled s)

end Sys2Proof.Machine
end

