-- ==== Sys2Proof/Machine/Knife.lean ====
section
/-! DEFINITION. The Outfeed Handoff (R171 to R177) and the Knife Sequencer's traverse (R113, R115, R116, R119), which wait for
each other: a traverse needs free tables, and a cut panel begins its handoff cycle. -/
namespace Sys2Proof.Machine

/-! ## Traverse (R115, R119, R151) -/

/-- The knife port's TRAVERSE: start line and lane lines asserted, the cut timer started, the head CUTTING (R115, R151). -/
def sendTraverse (e : Entry) (s : State) : State :=
  (s.onHead fun a => { a with status := .cutting }).onCuts fun c =>
    { c with cutTimer := some (s.par .cutTimeout).toNat, knifeStart := true,
             knifeLanes := ⟨e.parts.l0.isSome, e.parts.l1.isSome, e.parts.l2.isSome, e.parts.l3.isSome⟩ }

/-- The entry ends a panel in the lane (R115). -/
def endsIn (e : Entry) (n : Lane) : Bool := ((e.parts.get n).bind LanePart.ends).isSome

/-- Conditions 2 and 3 of R115: in every lane in which the entry ends a panel the table is free and not inhibited. -/
def State.lanesClear (s : State) (e : Entry) : Bool :=
  laneList.all fun n => !endsIn e n || (s.tableFree n && !s.inhibited n)

/-- A POSITIONED head is examined for its traverse (R115). -/
def tryTraverse (s : State) : State :=
  match s.headEntry with
  | some e => if e.status = .positioned ∧ s.motion.line = .running ∧ s.lanesClear e then sendTraverse e s else s
  | none => s

/-! ## Handoff channels (R171, section 10.3) -/

/-- The handoff is ganged (R177). -/
def State.ganged (s : State) : Bool := s.par .handoffGanged == 1

/-- The channel that serves a lane (section 10.3, R177). -/
def State.channelOf (s : State) (n : Lane) : Lane := if s.ganged then .lane0 else n

/-- The mode parameter of a lane. -/
def modeParam : Lane → Param
  | .lane0 => .handoffMode0
  | .lane1 => .handoffMode1
  | .lane2 => .handoffMode2
  | .lane3 => .handoffMode3

/-- The settle delay parameter of a lane. -/
def delayParam : Lane → Param
  | .lane0 => .handoffTd0
  | .lane1 => .handoffTd1
  | .lane2 => .handoffTd2
  | .lane3 => .handoffTd3

/-- The effective mode of a lane (R171). -/
def State.effMode (s : State) (n : Lane) : Int := s.par (modeParam (s.channelOf n))

/-- The settle delay of a code, in ms: range 1, 10 or 100 times the factor (R171). -/
def settleDelay (code : Nat) : Nat := 10 ^ (code / 16) * (code % 16)

/-- The settle delay of a channel (R171). -/
def State.channelDelay (s : State) (ch : Lane) : Nat := settleDelay (s.par (delayParam ch)).toNat

/-- The state with one channel changed. -/
def State.onChannel (s : State) (ch : Lane) (f : Channel → Channel) : State :=
  s.onHand fun h => { h with channels := h.channels.set ch (f (h.channels.get ch)) }

/-- DELIVER is asserted for a context, with REJECT if it has any reason; it becomes DELIVERING, and the handoff timer
starts (R172, R174). -/
def assertDeliver (ch n : Lane) (q : Source) (st : ChannelState) (delay : Option Nat) (s : State) : State :=
  let reject := match s.ctx? n q with | some c => c.reasons.any | none => false
  let s := s.onCtx n q fun c => { c with state := .delivering }
  s.onChannel ch fun _ => ⟨st, some (n, q), delay, some (s.par .handoffTimeout).toNat, reject⟩

/-- A cycle begins (R172). -/
def beginCycle (ch n : Lane) (q : Source) (s : State) : State :=
  let td := s.channelDelay ch
  if s.effMode n = 1 then assertDeliver ch n q .pulsing (some td) s
  else if td = 0 then assertDeliver ch n q .offered none s
  else s.onChannel ch fun _ => ⟨.settling, some (n, q), some td, none, false⟩

/-- The channel takes the next waiting context of ganged mode (R175, R177). -/
def takeWaiting (s : State) : State :=
  match s.hand.waiting with
  | (n, q) :: r => beginCycle .lane0 n q (s.onHand fun h => { h with waiting := r })
  | [] => s

/-- A panel just CUT: DONE at once in mode NONE (R84), otherwise its cycle begins or it joins the wait list (R172, R177). -/
def handCut (n : Lane) (q : Source) (s : State) : State :=
  if s.effMode n = 0 then makeDone n q s
  else if s.ganged ∧ ((s.hand.channels.get .lane0).state ≠ .idle ∨ s.hand.waiting ≠ []) then
    s.onHand fun h => { h with waiting := h.waiting ++ [(n, q)] }
  else beginCycle (s.channelOf n) n q s

/-- A cycle ends: the channel is IDLE with its timers stopped, its context is DONE, a POSITIONED head is examined and the
next waiting context taken (R175). `note` is given to the context first. -/
def endCycle (ch : Lane) (note : Ctx → Ctx) (s : State) : State :=
  match (s.hand.channels.get ch).owner with
  | some (n, q) =>
      let s := s.onChannel ch fun _ => Channel.idle
      let s := makeDone n q (s.onCtx n q note)
      takeWaiting (tryTraverse s)
  | none => s.onChannel ch fun _ => Channel.idle

/-- A cycle completes (R175). -/
def completeCycle (ch : Lane) (s : State) : State := endCycle ch id s

/-- The handoff timer expires: UNCONFIRMED, DONE, and then the hold reason (R175). A job end that the last panel signals has taken
the line to HOLDING by then, and its stop is judged after the reason has been raised (log entry 42). -/
def timeoutCycle (ch : Lane) (s : State) : State :=
  raiseHold .handoffTimeout
    (endCycle ch (fun c => { c with notes := { c.notes with unconfirmed := true } }) s)

/-! ## The END of a traverse (R84, R116) -/

/-- The actual of a cut in one lane (R84). -/
def recordCut (actual : Int) (parts : Lanes (Option LanePart)) (n : Lane) (s : State) : State :=
  match parts.get n with
  | none => s
  | some p =>
      let s :=
        match p.starts with
        | some q => s.onCtx n q fun c => { c with startActual := some actual, startEntry := none }
        | none => s
      match p.ends with
      | some q => handCut n q (s.onCtx n q fun c => { c with endActual := some actual, endEntry := none, state := .cut })
      | none => s

/-- A panel the entry ends carries PAUSE_AFTER (R116). -/
def State.pauses (s : State) (e : Entry) : Bool :=
  laneList.any fun n =>
    match ((e.parts.get n).bind LanePart.ends).bind (s.ctx? n) with
    | some c => c.pauseAfter
    | none => false

/-- The END of a CUTTING entry is taken (R116). -/
def takeEnd (e : Entry) (s : State) : State :=
  let actual := s.outPos
  let pause := s.pauses e
  let s := s.onCuts fun c => { c with cutTimer := none, knifeStart := false, knifeLanes := Lanes.same false }
  let s := forLanes (recordCut actual e.parts) s
  let s := if pause then raiseHold .planPause s else s
  examineJobEnd (s.onCuts fun c => { c with entries := c.entries.filter (fun a => a.order != e.order) })

/-! ## IN_POSITION (R113) -/

/-- A creep move: a further STOP_AT, the attempts raised, the timer started again, CREPT (R113). -/
def creep (e : Entry) (s : State) : State :=
  let s := sendDrive (.stopAt (e.coord - s.outPos)) .indexed s
  let s := (s.onHead fun a => { a with creeps := a.creeps + 1 }).onCuts fun c =>
    { c with indexTimer := some (s.par .indexTimeout).toNat }
  onEntryPanels e (fun c => { c with notes := { c.notes with crept := true } }) s

/-- A stop becomes POSITIONED and is examined for its traverse (R113, R115). -/
def positioned (s : State) : State :=
  tryTraverse ((s.onHead fun a => { a with status := .positioned }).onCuts fun c => { c with indexTimer := none })

/-- The stop is short by more than CUT_TOL with creep attempts left (R113). -/
def State.fallsShort (s : State) (e : Entry) : Bool :=
  decide (s.outPos < e.coord - s.par .cutTol) && decide ((e.creeps : Int) < s.par .creepMax)

/-- The Knife Sequencer takes IN_POSITION for an INDEXING head (R113), and ignores it otherwise (R121). -/
def sequencerInPosition (s : State) : State :=
  match s.headEntry with
  | some e => if e.status = .indexing then (if s.fallsShort e then creep e s else positioned s) else s
  | none => s

/-- The outfeed motion state at an IN_POSITION (R148). -/
def outfeedInPosition (s : State) : State :=
  s.onMotion fun m =>
    { m with outfeed := match m.outfeed with
                        | .free => .free
                        | .stopped | .bounded _ | .indexed | .halting => .stopped }

/-! ## The entry into RUNNING (R119, R136) -/

/-- The head entry is taken up when the line enters RUNNING: an INTERRUPTED one is cut again with RECUT, a POSITIONED one
examined (R119). A LOCKED one is judged with the outfeed. -/
def takeUpHead (s : State) : State :=
  match s.headEntry with
  | some e =>
      if e.status = .interrupted then
        onEntryPanels e (fun c => { c with notes := { c.notes with recut := true } }) (sendTraverse e s)
      else tryTraverse s
  | none => s

/-- A consequence of the entry into RUNNING, while the line is RUNNING. -/
def whileRunning (f : State → State) (s : State) : State := if s.motion.line = .running then f s else s

/-- The line enters RUNNING (R136): the hold set is cleared, the speed follows the band, the outfeed is judged, the head
taken up, a FAILED changeover reissued; inputs asserted then trip the line (log entry 19). -/
def enterRunning (s : State) : State :=
  let s := queueLine .state (s.onMotion fun m => { m with holds := HoldSet.empty, line := .running })
  tripAsserted (reissue (whileRunning takeUpHead (whileRunning judgeOutfeed (updateSpeed s))))

end Sys2Proof.Machine
end

