-- ==== Sys2Proof/Machine/Station.lean ====
section
/-! DEFINITION. The Station Link Master (R155 to R167) and what follows every command: the Motion Controller's reaction to what
changed, the changeover trigger, and the arbiter (log entries 4 and 5). -/
namespace Sys2Proof.Machine

/-! ## Line actions (R165) -/

/-- The role of a line action (R165). -/
def actionRole : Action → Role
  | .speed _ | .nip _ => .laminator
  | .positions _ _ | .move _ => .beam

/-- Index and data of a line action (R165). -/
def actionWrite : Action → Byte × List Byte
  | .speed v => (16, be16 v)
  | .nip n => (18, [match n with | .opened => 0 | .closed => 1])
  | .positions _ l =>
      (32, word16Bytes l.leftTrim ++ word16Bytes l.slit1 ++ word16Bytes l.slit2 ++ word16Bytes l.slit3
        ++ word16Bytes l.rightTrim)
  | .move _ => (42, [1])

/-- A line action fails (R165). -/
def actionFailed (a : Action) (s : State) : State :=
  match a with
  | .speed _ | .nip _ => raiseHold .station s
  | .positions k _ | .move k => beamActionFailed k s

/-- A line action is answered ACK (R128, R165). -/
def actionAcked (a : Action) (s : State) : State :=
  match a with
  | .speed _ | .nip _ => s
  | .positions k _ => positionsAcked k s
  | .move k => moveAcked k s

/-- Is it a nip action (R160). -/
def isNip : Action → Bool
  | .nip _ => true
  | .speed _ | .positions _ _ | .move _ => false

/-! ## The arbiter (R156, R157, R167) -/

/-- The code of a transaction kind (R156, log entry 9). -/
def kindCode : TxnKind → Byte
  | .poll => pollCode
  | .write => writeCode
  | .read => readCode

/-- The check of a station-link frame: the CRC-16 over address, kind and payload (R156). R156 gives the address and the kind no
size; the model takes each as one byte (DESIGN CHOICE, log entry 51). -/
def stationCheck (addr kind : Byte) (payload : List Byte) : Word16 := crc16 (addr :: kind :: payload)

/-- The request frame of a transaction on the station link: address, kind, payload and check (R156). That address and kind are
one byte each, and that the fields stand in this order, is the model's choice (DESIGN CHOICE, log entry 51). -/
def txnBytes (t : Txn) : List Byte :=
  byteOf t.addr :: kindCode t.kind :: t.payload
    ++ word16Bytes (stationCheck (byteOf t.addr) (kindCode t.kind) t.payload)

/-- A transaction is sent; its answer is awaited for REPLY_TIMEOUT as it then stands (R157, R168). -/
def sendTxn (t : Txn) (s : State) : State :=
  s.onStation fun x => { x with inFlight := some { t with timeout := (s.par .replyTimeout).toNat } }

/-- The bytes of an index of a width (R156). -/
def indexBytes (width index : Nat) : List Byte := if width = 1 then [byteOf index] else be16 index

/-- The transaction of the relay's waiting chunk, its timeout still to be taken (R167). The spec does not give the sizes of the
index-width and count fields of a request; the model sends each as one byte (DESIGN CHOICE, log entry 50). -/
def chunkTxn (r : Relay) : Txn :=
  if r.write then
    ⟨r.addr, .relay, .write, byteOf r.width :: indexBytes r.width r.index ++ r.toWrite.take (16 - r.width), 0, 0⟩
  else
    let k := if r.toRead ≤ 16 then r.toRead else 16
    ⟨r.addr, .relay, .read, byteOf r.width :: indexBytes r.width r.index ++ [byteOf k], k, 0⟩

/-- The transaction of a line action, its timeout still to be taken (R165); the index width is sent as one byte (log entry 50). -/
def actionTxn (addr : Nat) (a : Action) : Txn :=
  ⟨addr, .action a, .write, 1 :: (actionWrite a).1 :: (actionWrite a).2, 0, 0⟩

/-- The arbiter sends what waits, in its order; an action of an ABSENT role fails when it would be sent (R157). -/
def arbiter : Nat → State → State
  | 0, s => s
  | k + 1, s =>
      if s.station.inFlight.isSome then s
      else
        match s.station.actions with
        | a :: r =>
            let s := s.onStation fun x => { x with actions := r }
            if s.roleAddr (actionRole a) = 0 then arbiter k (actionFailed a s)
            else sendTxn (actionTxn (s.roleAddr (actionRole a)) a) s
        | [] =>
            match s.station.due with
            | r :: rs =>
                sendTxn ⟨s.roleAddr r, .poll r, .poll, [], 0, 0⟩ (s.onStation fun x => { x with due := rs })
            | [] =>
                match s.station.relay with
                | some r => sendTxn (chunkTxn r) s
                | none => s

/-- The arbiter, for as many waiting actions as there can be. -/
def runArbiter (s : State) : State := arbiter 40 s

/-! ## The reaction of the Motion Controller (R142, R150, R152) -/

/-- The head of the Cut Queue and its status (R150). -/
def State.headKey (s : State) : Option (Nat × CutStatus) := s.headEntry.map fun e => (e.order, e.status)

/-- The line passes from HOLDING to IDLE at job end (R152). -/
def jobEndStop (s : State) : State :=
  let s := stationIfFailed (openNip s)
  let s := s.onMotion fun m =>
    { m with holds := HoldSet.empty, trips := TripSet.empty, firstCause := none, jobEnd := false, line := .idle }
  syncEyes ((queueLine .jobEnd s).mapReg fun _ => LaneReg.jobEnded)

/-- HOLDING ends when its three conditions hold: in HELD, or in IDLE with the job-end flag set (R142, R152). -/
def endHolding (s : State) : State :=
  if s.stopComplete then
    if s.motion.jobEnd then jobEndStop s else queueLine .state (s.onMotion fun m => { m with line := .held })
  else s

/-- An event of R150 has occurred since a state. An advance that brings a LOCKED head under R127's second permission is none of
them: the head waits for the next (log entry 40). -/
def outfeedEvent (before s : State) : Bool :=
  before.motion.line != .running || before.motion.starve != s.motion.starve || before.headKey != s.headKey
  || before.guardAt != s.guardAt || (before.motion.outfeed != .stopped && s.motion.outfeed == .stopped)

/-- The Motion Controller's reaction to what has changed since a state (R142, R150). -/
def reactMotion (before s : State) : State :=
  match s.motion.line with
  | .running => if outfeedEvent before s then judgeOutfeed s else s
  | .holding => endHolding (judgeHolding (before.motion.line != .holding) (before.headKey != s.headKey) s)
  | .idle | .ready | .held | .tripped => s

/-- What follows a change: the changeover trigger, the Motion Controller, the arbiter (log entries 4 and 5). -/
def settle (before s : State) : State :=
  let s := reactMotion before (judgeTrigger s)
  let t := runArbiter s
  runArbiter (reactMotion s t)

/-- What follows a change that registration also has to follow. -/
def settleAll (before s : State) : State := settle before (settleReg s)

/-! ## Answers (R156, R160 to R163) -/

/-- The outcome of a transaction (R156), with the kind of failure R167 reports. -/
inductive TxnOutcome where
  | ack (payload : List Byte)
  | nak (code : Byte)
  | noAnswer
  | badAnswer
deriving DecidableEq, Repr

/-- A byte that says no or yes (R160, R162). -/
def yesNo (b : Byte) : Option Bool := if b = 0 then some false else if b = 1 then some true else none

/-- The LAMINATOR's status fields (R160). -/
def parseLaminator : List Byte → Option LaminatorStatus
  | [h, n, v1, v0, f] =>
      match yesNo h, (if n = 0 then some NipReport.opened else if n = 1 then some .closed else if n = 2 then some .moving else none),
        yesNo f with
      | some h, some n, some f => some ⟨h, n, beNat [v1, v0], f⟩
      | _, _, _ => none
  | _ => none

/-- The BEAM's status field (R161). -/
def parseBeam : List Byte → Option BeamStatus
  | [b] => if b = 0 then some .idle else if b = 1 then some .moving else if b = 2 then some .done else if b = 3 then some .fault else none
  | _ => none

/-- The UNWIND's status fields (R162). -/
def parseUnwind : List Byte → Option UnwindStatus
  | [c, f] => (yesNo f).map fun f => ⟨c.toNat, f⟩
  | _ => none

/-- The TRIM's status field (R163). -/
def parseTrim : List Byte → Option TrimStatus
  | [b] => if b = 0 then some .ok else if b = 1 then some .broken else if b = 2 then some .full else none
  | _ => none

/-- A POLL answer's payload is one its role can send; a value outside its coding is a wrong length (R156). -/
def pollPayloadOk (r : Role) (p : List Byte) : Bool :=
  match r with
  | .laminator => (parseLaminator p).isSome
  | .beam => (parseBeam p).isSome
  | .unwind => (parseUnwind p).isSome
  | .trim => (parseTrim p).isSome

/-- The ACK payload has the length its kind and role require (R156). -/
def ackPayloadOk (t : Txn) (p : List Byte) : Bool :=
  match t.kind, t.owner with
  | .poll, .poll r => pollPayloadOk r p
  | .poll, _ => false
  | .write, _ => p.length == 0
  | .read, _ => p.length == t.count

/-- The check of an answer is right and it comes from the address of the request, one byte of the frame (R156, log entry 51). -/
def answerSound (t : Txn) (a : Answer) : Bool :=
  a.check == stationCheck a.addr a.kind a.payload && a.addr.toNat == t.addr

/-- The outcome an answer gives the transaction in flight (R156). A kind that is neither the request's nor the request's plus
0x80 makes it a failure (log entry 9). -/
def judgeAnswer (t : Txn) (a : Answer) : TxnOutcome :=
  if answerSound t a = false then .badAnswer
  else if a.kind = kindCode t.kind then
    if ackPayloadOk t a.payload then .ack a.payload else .badAnswer
  else if a.kind = kindCode t.kind + 0x80 then
    match a.payload with
    | [c] => .nak c
    | _ => .badAnswer
  else .badAnswer

/-! ## The watchdog (R155, R159, R164) -/

/-- The state with one station record changed. -/
def State.onRecord (s : State) (r : Role) (f : StationRecord → StationRecord) : State :=
  s.onStation fun x => { x with records := x.records.set r (f (x.records.get r)) }

/-- The role whose address a transaction was sent to (R159). -/
def State.roleAt (s : State) (addr : Nat) : Option Role :=
  if addr = 0 then none else roleList.find? fun r => s.roleAddr r == addr

/-- The consequence of a role's loss (R164). -/
def lossOf (r : Role) (s : State) : State :=
  match r with
  | .laminator | .trim => if s.motion.line = .running then raiseHold .station s else s
  | .beam => failChangeover s
  | .unwind => s.onStation fun x => { x with spliceRecord := none }

/-- A good outcome for a role (R159). -/
def goodOutcome (r : Role) (s : State) : State :=
  match (s.station.records.get r).state with
  | .unknown | .lost => queueEvent (.stationNotice .present r) (s.onRecord r fun _ => ⟨.present, 0⟩)
  | .present => s.onRecord r fun _ => ⟨.present, 0⟩
  | .absent => s

/-- A failed outcome for a role; a count that reaches STATION_WATCHDOG makes it LOST (R159, R164, log entry 10). -/
def failedOutcome (r : Role) (s : State) : State :=
  let w := (s.par .stationWatchdog).toNat
  match (s.station.records.get r).state with
  | .unknown | .present =>
      if w ≤ (s.station.records.get r).failures + 1 then
        lossOf r (queueEvent (.stationNotice .lost r) (s.onRecord r fun _ => ⟨.lost, w⟩))
      else s.onRecord r fun x => { x with failures := x.failures + 1 }
  | .lost => s.onRecord r fun _ => ⟨.lost, w⟩
  | .absent => s

/-- The watchdog takes the outcome of a transaction (R159). -/
def watchdog (t : Txn) (o : TxnOutcome) (s : State) : State :=
  match s.roleAt t.addr with
  | none => s
  | some r =>
      match o, t.kind with
      | .ack _, _ => goodOutcome r s
      | .nak _, .poll => failedOutcome r s
      | .nak _, .write => goodOutcome r s
      | .nak _, .read => goodOutcome r s
      | .noAnswer, _ => failedOutcome r s
      | .badAnswer, _ => failedOutcome r s

/-! ## The rules of the roles (R160 to R163) -/

/-- A nip action waits or is in flight (R160). -/
def State.nipBusy (s : State) : Bool :=
  s.station.actions.any isNip
  || match s.station.inFlight with
     | some t => (match t.owner with | .action a => isNip a | .poll _ | .relay => false)
     | none => false

/-- A good LAMINATOR answer (R160); the end of a controlled stop is judged with it by `settle`. -/
def laminatorAnswer (a : LaminatorStatus) (s : State) : State :=
  let s := s.onStation fun x => { x with laminator := some a }
  let s := if s.motion.line = .running ∧ (a.heatReady = false ∨ a.fault = true) then raiseHold .laminatorNotReady s else s
  if s.motion.line = .running ∧ s.motion.nip = .closed ∧ s.nipBusy = false ∧ a.nip = .opened
  then raiseHold .laminatorNotReady s else s

/-- k new splices are reported, in turn (R162). -/
def reportSplices : Nat → State → State
  | 0, s => s
  | k + 1, s => reportSplices k (reportSplice s)

/-- A good UNWIND answer (R162). -/
def unwindAnswer (wasLost : Bool) (a : UnwindStatus) (s : State) : State :=
  let old := s.station.spliceRecord
  let s := s.onStation fun x => { x with unwind := some a, spliceRecord := some a.splices }
  let s :=
    match old with
    | none => if wasLost then queueEvent (.stationNotice .splicesUnknown .unwind) s else s
    | some r => reportSplices ((a.splices + 256 - r) % 256) s
  let s := if a.rollLow = true ∧ s.station.rollLow = false then queueEvent (.stationNotice .rollLow .unwind) s else s
  s.onStation fun x => { x with rollLow := a.rollLow }

/-- A good TRIM answer (R163). -/
def trimAnswer (a : TrimStatus) (s : State) : State :=
  let s := s.onStation fun x => { x with trim := some a }
  match a with
  | .ok => s
  | .broken | .full => raiseHold .station s

/-- A good poll answer by the rule of its role (R158, R160 to R163). -/
def pollAnswer (r : Role) (wasLost : Bool) (p : List Byte) (s : State) : State :=
  match r with
  | .laminator => match parseLaminator p with | some a => laminatorAnswer a s | none => s
  | .beam =>
      match parseBeam p with
      | some b => takeBeamStatus b (s.onStation fun x => { x with beam := some b })
      | none => s
  | .unwind => match parseUnwind p with | some a => unwindAnswer wasLost a s | none => s
  | .trim => match parseTrim p with | some a => trimAnswer a s | none => s

/-! ## The relay (R167) -/

/-- The relay ends with its reply (R167). -/
def endRelay (r : Relay) (st : Status) (rest : List Byte) (s : State) : State :=
  reply 0x20 r.tag st rest (s.onStation fun x => { x with relay := none })

/-- The relay after a chunk answered ACK (R167). -/
def Relay.acked (r : Relay) (p : List Byte) : Relay :=
  let k := if r.write then (r.toWrite.take (16 - r.width)).length else p.length
  { r with index := r.index + k, toWrite := r.toWrite.drop k, toRead := r.toRead - k, carried := r.carried + k,
           got := r.got ++ p }

/-- The relay has carried everything (R167). -/
def Relay.complete (r : Relay) : Bool := if r.write then r.toWrite.isEmpty else r.toRead == 0

/-- The outcome of a relay chunk (R167). -/
def chunkOutcome (o : TxnOutcome) (s : State) : State :=
  match s.station.relay with
  | none => s
  | some r =>
      match o with
      | .ack p =>
          let r := r.acked p
          if r.complete then endRelay r .ok (be32 r.carried ++ r.got) s
          else s.onStation fun x => { x with relay := some r }
      | .nak c => endRelay r .stationFail (be32 r.carried ++ [0, c] ++ r.got) s
      | .noAnswer => endRelay r .stationFail (be32 r.carried ++ [1, 0] ++ r.got) s
      | .badAnswer => endRelay r .stationFail (be32 r.carried ++ [2, 0] ++ r.got) s

/-! ## Outcomes (R156, R158, R165) -/

/-- The outcome is handed to the owner of the transaction (R156). A poll's answer counts while its role still has the
address it was sent to (R159, R168). -/
def ownerOutcome (t : Txn) (wasLost : Bool) (o : TxnOutcome) (s : State) : State :=
  match t.owner with
  | .poll r =>
      match o with
      | .ack p => if s.roleAddr r = t.addr then pollAnswer r wasLost p s else s
      | .nak _ | .noAnswer | .badAnswer => s
  | .action a =>
      match o with
      | .ack _ => actionAcked a s
      | .nak _ | .noAnswer | .badAnswer => actionFailed a s
  | .relay => chunkOutcome o s

/-- The role at an address was LOST (R162). -/
def State.lostAt (s : State) (addr : Nat) : Bool :=
  match s.roleAt addr with
  | some r => (s.station.records.get r).state == .lost
  | none => false

/-- The transaction in flight ends with an outcome: the watchdog first, then its owner (R158, log entry 16). -/
def takeOutcome (t : Txn) (o : TxnOutcome) (s : State) : State :=
  ownerOutcome t (s.lostAt t.addr) o (watchdog t o (s.onStation fun x => { x with inFlight := none }))

/-- A role falls due: a poll still waiting for it is removed and counts as a failure, and the new poll joins (R158). -/
def fallDue (r : Role) (s : State) : State :=
  if s.roleAddr r = 0 then s
  else
    let s := if s.station.due.contains r then failedOutcome r (s.onStation fun x => { x with due := x.due.filter (fun a => a != r) }) else s
    s.onStation fun x => { x with due := x.due ++ [r] }

end Sys2Proof.Machine
end

