-- ==== Sys2Proof/Machine/Setup.lean ====
section
/-! DEFINITION. The SETUP request (R185, R186) with the effects of an installation (R8, R75, R168). -/
namespace Sys2Proof.Machine

/-- A set of parameter values (R185). -/
abbrev ParamSet := Vector Int 55

/-- The value of a parameter in a set. -/
def ParamSet.val (v : ParamSet) (p : Param) : Int := v[paramIndex p]

/-- The set with one value replaced. -/
def ParamSet.put (v : ParamSet) (p : Param) (x : Int) : ParamSet := v.set (paramIndex p) x

/-- The first parameter number of the pairs that is 0 or above 55 (R185 step 1). -/
def badNumber (pairs : List (Byte × Word32)) : Option Byte :=
  (pairs.find? fun q => (paramOfNumber q.1.toNat).isNone).map Prod.fst

/-- One pair applied, its value read as a signed 32-bit number (R185 steps 2 and 3). -/
def applyPair (v : ParamSet) (q : Byte × Word32) : ParamSet :=
  match paramOfNumber q.1.toNat with
  | some p => v.put p q.2.toInt
  | none => v

/-- The pairs applied in order; a number given twice takes its later value (R185 step 2). -/
def applyPairs (v : ParamSet) (pairs : List (Byte × Word32)) : ParamSet := pairs.foldl applyPair v

/-- Every value brought into its range (R185 step 3). -/
def clampAll (v : ParamSet) : ParamSet := Param.all.foldl (fun (w : ParamSet) (p : Param) => w.put p (clampParam p (w.val p))) v

/-- The numbers noted by the range clamps, in pair order (R185 steps 3 and 6, log entry 18). -/
def rangeNoted (v : ParamSet) (pairs : List (Byte × Word32)) : List Nat :=
  pairs.filterMap fun q =>
    match paramOfNumber q.1.toNat with
    | some p => if clampParam p (v.val p) = v.val p then none else some (paramNumber p)
    | none => none

/-- A lane whose mode is PULSE has a settle delay factor below 2 (R171). -/
def shortPulse (v : ParamSet) (n : Lane) : Bool := v.val (modeParam n) == 1 && decide (v.val (delayParam n) % 16 < 2)

/-- The factor becomes 2 and the range number is kept (R171). -/
def pulseLane (n : Lane) (v : ParamSet) : ParamSet :=
  if shortPulse v n then v.put (delayParam n) (v.val (delayParam n) / 16 * 16 + 2) else v

/-- The PULSE clamp in every lane (R185 step 4). -/
def pulseClamp (v : ParamSet) : ParamSet := pulseLane .lane3 (pulseLane .lane2 (pulseLane .lane1 (pulseLane .lane0 v)))

/-- The numbers noted by the PULSE clamp, in lane order (R185 step 4). -/
def pulseNoted (v : ParamSet) : List Nat := (laneList.filter (shortPulse v)).map fun n => paramNumber (delayParam n)

/-- The candidate set (R185 steps 2 to 4). -/
def candidate (v : ParamSet) (pairs : List (Byte × Word32)) : ParamSet := pulseClamp (clampAll (applyPairs v pairs))

/-- Every number noted, those of step 3 first (R185 step 6). -/
def notedClamps (v : ParamSet) (pairs : List (Byte × Word32)) : List Nat :=
  rangeNoted (applyPairs v pairs) pairs ++ pulseNoted (clampAll (applyPairs v pairs))

/-- A ratio lies between 1/16 and 16 (R8). -/
def ratioOk (n d : Int) : Bool := decide (d ≤ 16 * n) && decide (n ≤ 16 * d)

/-- The first pair of roles found with the same nonzero address, by its higher number (R168, R186). -/
def equalAddr (l t u r : Int) : Option Nat :=
  if l ≠ 0 ∧ l = t then some 40
  else if l ≠ 0 ∧ l = u then some 41
  else if l ≠ 0 ∧ l = r then some 42
  else if t ≠ 0 ∧ t = u then some 41
  else if t ≠ 0 ∧ t = r then some 42
  else if u ≠ 0 ∧ u = r then some 42
  else none

/-- The cross-checks in the order of R186; the number of the first that fails. -/
def crossCheck (v : ParamSet) : Option Nat :=
  if ratioOk (v.val .inScaleN) (v.val .inScaleD) = false then some 2
  else if ratioOk (v.val .outScaleN) (v.val .outScaleD) = false then some 4
  else if v.val .cutTol < v.val .mergeWin then some 9
  else if v.val .barLongMin ≤ v.val .barShortMax then some 18
  else if v.val .cMin ≤ v.val .beamDist then some 23
  else if v.val .cLow ≤ v.val .cMin then some 24
  else if v.val .cHigh ≤ v.val .cLow then some 25
  else if v.val .cMax ≤ v.val .cHigh then some 26
  else if v.val .runSpeed ≤ v.val .slowSpeed then some 28
  else
    equalAddr (v.val .roleAddrLaminator) (v.val .roleAddrBeam) (v.val .roleAddrUnwind) (v.val .roleAddrTrim)

/-! ## Installation (R185 step 6) -/

/-- A channel's remainder becomes 0 when its N or D changes (R8). -/
def resetRemainders (old new : ParamSet) (w : Web) : Web :=
  { infeed :=
      if old.val .inScaleN = new.val .inScaleN ∧ old.val .inScaleD = new.val .inScaleD then w.infeed
      else { w.infeed with rem := 0 }
    outfeed :=
      if old.val .outScaleN = new.val .outScaleN ∧ old.val .outScaleD = new.val .outScaleD then w.outfeed
      else { w.outfeed with rem := 0 } }

/-- A kept F beyond a lowered STRETCH_LIMIT takes the new limit with the same sign (R75). -/
def limitStretch (lim : Int) (r : LaneReg) : LaneReg := { r with f := clampSample lim r.f }

/-- The address parameter of a role (R154). -/
def addrParam : Role → Param
  | .laminator => .roleAddrLaminator
  | .beam => .roleAddrBeam
  | .unwind => .roleAddrUnwind
  | .trim => .roleAddrTrim

/-- The last status of a role is forgotten, and for UNWIND its two records (R155). -/
def forgetStatus (r : Role) (t : Station) : Station :=
  match r with
  | .laminator => { t with laminator := none }
  | .beam => { t with beam := none }
  | .unwind => { t with unwind := none, spliceRecord := none, rollLow := false }
  | .trim => { t with trim := none }

/-- A role whose address changes takes its new state; its waiting poll is removed without counting (R155, R168). -/
def changeAddr (old new : ParamSet) (r : Role) (t : Station) : Station :=
  if old.val (addrParam r) = new.val (addrParam r) then t
  else
    let st : StationState := if new.val (addrParam r) = 0 then .absent else .unknown
    forgetStatus r { t with records := t.records.set r ⟨st, 0⟩, due := t.due.filter (fun a => a != r) }

/-- A failure count above the watchdog limit becomes the limit (R168). -/
def limitFailures (w : Nat) (x : StationRecord) : StationRecord :=
  { x with failures := if w < x.failures then w else x.failures }

/-- The effects of an installation on the station link (R168). -/
def installStation (old new : ParamSet) (t : Station) : Station :=
  let t := changeAddr old new .trim (changeAddr old new .unwind (changeAddr old new .beam (changeAddr old new .laminator t)))
  let t :=
    if old.val .pollInterval = new.val .pollInterval ∧ old.val .pollStagger = new.val .pollStagger then t
    else { t with due := [] }
  let w := (new.val .stationWatchdog).toNat
  { t with records := ⟨limitFailures w t.records.laminator, limitFailures w t.records.beam,
                       limitFailures w t.records.unwind, limitFailures w t.records.trim⟩ }

/-- The candidate set replaces the parameters in force (R185 step 6). -/
def install (new : ParamSet) (s : State) : State :=
  let old := s.params
  let s := { s with params := new }
  let s := s.onWeb (resetRemainders old new)
  let s := s.mapReg fun _ => limitStretch (new.val .stretchLimit)
  s.onStation (installStation old new)

/-- SETUP (R185). -/
def doSetup (tag : Byte) (pairs : List (Byte × Word32)) (s : State) : State :=
  if s.motion.line ≠ .idle then reply 0x02 tag .wrongState [] s
  else
    match badNumber pairs with
    | some b => reply 0x02 tag .badValue [b] s
    | none =>
        match crossCheck (candidate s.params pairs) with
        | some k => reply 0x02 tag .badValue [byteOf k] s
        | none =>
            match notedClamps s.params pairs with
            | [] => reply 0x02 tag .ok [] (install (candidate s.params pairs) s)
            | k :: _ => reply 0x02 tag .clamped [byteOf k] (install (candidate s.params pairs) s)

end Sys2Proof.Machine
end

