-- ==== Sys2Proof/Machine/WebCounter.lean ====
section
/-! DEFINITION. The counting channels of the Web Counter (R1 to R7, R14). -/
namespace Sys2Proof.Machine

/-- What became of a forward count: absorbed by the hold-back (R4), counted with its advance (R3), or discarded at the
ceiling (R6). -/
inductive Counted where
  | absorbed
  | counted (advance : Nat)
  | discarded
deriving DecidableEq, Repr

/-- A forward count on a channel with ratio n/d (R3, R4, R6). -/
def countForward (n d : Nat) (c : Counter) : Counter × Counted :=
  if 0 < c.hold then ({ c with hold := c.hold - 1 }, .absorbed)
  else if 0 < (c.rem + n) / d ∧ coordCeiling < c.coord + (c.rem + n) / d then (c, .discarded)
  else ({ c with coord := c.coord + (c.rem + n) / d, rem := (c.rem + n) % d }, .counted ((c.rem + n) / d))

/-- A reverse count on a channel; true when it is discarded (R5). -/
def countReverse (c : Counter) : Counter × Bool :=
  if c.hold < holdBackMax then ({ c with hold := c.hold + 1 }, false) else (c, true)

/-- The ratio of a channel (R1). -/
def State.ratio (s : State) : Encoder → Nat × Nat
  | .infeed => ((s.par .inScaleN).toNat, (s.par .inScaleD).toNat)
  | .outfeed => ((s.par .outScaleN).toNat, (s.par .outScaleD).toNat)

/-- The channel of an encoder. -/
def Web.get (w : Web) : Encoder → Counter
  | .infeed => w.infeed
  | .outfeed => w.outfeed

/-- The web with one channel replaced. -/
def Web.set (w : Web) (e : Encoder) (c : Counter) : Web :=
  match e with
  | .infeed => { w with infeed := c }
  | .outfeed => { w with outfeed := c }

/-- Both channels at 0 (R15). -/
def Web.zero : Web := ⟨⟨0, 0, 0⟩, ⟨0, 0, 0⟩⟩

/-- The Web Counter's part of THREAD with path length p (R14). -/
def Web.threaded (p : Nat) : Web := ⟨⟨p, 0, 0⟩, ⟨0, 0, 0⟩⟩

end Sys2Proof.Machine
end

