-- ==== Sys2Proof/Machine/Requests.lean ====
section
/-! DEFINITION. The requests of the line link but SETUP (R14, R21 to R24, R90, R91, R99, R136 to R140, R166, R187). -/
namespace Sys2Proof.Machine

/-! ## STATUS (R187) -/

/-- C as a signed 32-bit number, limited (R11). -/
def limitC (c : Int) : Int := limitTo (-2147483648) 2147483647 c

/-- The OPEN page and the slot of the record the Reader is at; 255 and 0 when no page is OPEN (R26). -/
def readPosition : Reader → Byte × Byte
  | .reading p slot _ => (byteOf p.val, byteOf slot)
  | .stalled p slot _ => (byteOf p.val, byteOf slot)
  | .layoutStop p slot => (byteOf p.val, byteOf slot)
  | .inactive | .waiting | .finished => (255, 0)

/-- The four bytes STATUS gives a lane (R187). -/
def State.laneStatus (s : State) (n : Lane) : List Byte :=
  regCode (s.reg.get n).state :: be16 (s.reg.get n).f ++ [byteOf (s.lists.get n).length]

/-- The 55 bytes after the status code (R187). -/
def State.statusBytes (s : State) : List Byte :=
  [lineCode s.motion.line, holdByte s.motion.holds, tripByte s.motion.trips, firstCauseCode s.motion.firstCause,
    bandCode s.motion.band, bitsByte [s.beamWait]]
  ++ be32 (limitC s.content) ++ be32 s.inPos ++ be32 s.outPos
  ++ [(readPosition s.reader).1, (readPosition s.reader).2, byteOf s.store.next.val]
  ++ s.store.pages.toList.map (fun p => pageCode p.state)
  ++ laneList.flatMap s.laneStatus
  ++ [byteOf s.cuts.entries.length, byteOf s.zones.length]
  ++ roleList.map (fun r => stationCode (s.station.records.get r).state)
  ++ be16 s.lineLevels ++ [s.laneSelLevels, bitsByte [s.link.eventsLost]]

/-- STATUS; an indicator reported set becomes clear (R183, R187). -/
def doStatus (tag : Byte) (s : State) : State :=
  (reply 0x01 tag .ok s.statusBytes s).onLink fun l => { l with eventsLost := false }

/-! ## THREAD (R14) -/

/-- The blocks at THREAD, before the eyes, the trip inputs and the Reader are judged (R14, R38, R79, R92, R100, R122, R145,
R149, R153). -/
def threadBlocks (p : Nat) (s : State) : State :=
  let s := s.onWeb fun _ => Web.threaded p
  let s := forLanes (fun n s => s.onList n fun _ => []) s
  let s := (s.onZones fun _ => []).onCuts fun _ => Cuts.cleared
  let s := s.mapReg fun n _ => LaneReg.threaded (s.used n)
  let s := s.onStore fun t => { t with next := 0 }
  s.onMotion fun m =>
    { m with line := .ready, band := threadBand (s.par .cHigh) (s.par .cMax) p,
             starve := decide ((p : Int) = s.par .cMin) }

/-- THREAD taken whole (R14, log entry 20). -/
def threadAll (p : Nat) (s : State) : State :=
  takePage (tripAsserted (syncEyes (queueLine .state (threadBlocks p s))))

/-- THREAD (R14). -/
def doThread (tag : Byte) (p : Word32) (s : State) : State :=
  if s.motion.line ≠ .idle then reply 0x03 tag .wrongState [] s
  else if s.par .cMin ≤ (p.toNat : Int) ∧ (p.toNat : Int) ≤ s.par .cMax then
    settleAll s (threadAll p.toNat (reply 0x03 tag .ok [] s))
  else reply 0x03 tag .badValue [0] s

/-! ## The line requests (R136 to R140) -/

/-- The LAMINATOR is PRESENT and its last poll answer reports heat ready and no fault (R136, R138). -/
def State.laminatorReady (s : State) : Bool :=
  s.station.records.laminator.state == .present
  && match s.station.laminator with
     | some a => a.heatReady && !a.fault
     | none => false

/-- RUN (R136). -/
def doRun (tag : Byte) (s : State) : State :=
  if s.motion.line ≠ .ready then reply 0x04 tag .wrongState [] s
  else if s.laminatorReady ∧ s.station.records.beam.state = .present then
    settle s (enterRunning (reply 0x04 tag .ok [] s))
  else reply 0x04 tag .notReady [] s

/-- HOLD (R137). -/
def doHold (tag : Byte) (s : State) : State :=
  match s.motion.line with
  | .idle | .ready => reply 0x05 tag .wrongState [] s
  | .running | .holding | .held | .tripped => settle s (raiseHold .host (reply 0x05 tag .ok [] s))

/-- RESUME (R138). -/
def doResume (tag : Byte) (s : State) : State :=
  if s.motion.line ≠ .held then reply 0x06 tag .wrongState [] s
  else if s.laminatorReady then settle s (enterRunning (reply 0x06 tag .ok [] s))
  else reply 0x06 tag .notReady [] s

/-- A cause that refuses RECOVER still stands (R139). -/
def State.causeActive (s : State) : Bool := s.pins.estopOpen || s.pins.dancerTop || s.pins.dancerBottom

/-- RECOVER (R139). -/
def doRecover (tag : Byte) (s : State) : State :=
  if s.motion.line ≠ .tripped then reply 0x07 tag .wrongState [] s
  else if s.causeActive then reply 0x07 tag .causeActive [] s
  else
    settle s (queueLine .state ((reply 0x07 tag .ok [] s).onMotion fun m =>
      { m with trips := TripSet.empty, firstCause := none, line := if m.jobEnd then .holding else .held }))

/-- The blocks cleared by LINE_RESET (R15, R38, R58, R79, R92, R100, R122, R133, R140, R178). -/
def resetBlocks (s : State) : State :=
  let s := s.onWeb fun _ => Web.zero
  let s := (s.onStore fun _ => PlanStore.cleared).setReader .inactive
  let s := forLanes (fun n s => s.onEye n Eye.deactivate) s
  let s := s.mapReg fun _ _ => LaneReg.cleared
  let s := forLanes (fun n s => s.onList n fun _ => []) s
  let s := (s.onZones fun _ => []).onCuts fun _ => Cuts.cleared
  let s := s.onBeam fun b => { b with current := Layout.parked, changeover := .none, timer := none }
  s.onHand fun _ => Handoff.cleared

/-- The Motion Controller at LINE_RESET (R140): HALT, outfeed stopped, sets, flags and band cleared, the commanded speed 0
and the nip OPEN. -/
def resetMotion : Motion := { Motion.powerOn with drive := some .halt }

/-- LINE_RESET (R140). -/
def doLineReset (tag : Byte) (s : State) : State :=
  let s := resetBlocks (reply 0x08 tag .ok [] s)
  let s := s.onStation fun t => { t with actions := [.speed 0, .nip .opened] }
  runArbiter (queueLine .state (s.onMotion fun _ => resetMotion))

/-! ## The page requests (R21 to R24) -/

/-- The page a byte names, none above 7. -/
def pageOf (b : Byte) : Option (Fin 8) := if h : b.toNat < 8 then some ⟨b.toNat, h⟩ else none

/-- The number of slots that are not VOID (R16). -/
def slotCount (v : Vector (Option RawRecord) 16) : Nat := v.toList.countP Option.isSome

/-- Records written into consecutive slots from f (R21). -/
def writeSlots (v : Vector (Option RawRecord) 16) : Nat → List RawRecord → Vector (Option RawRecord) 16
  | _, [] => v
  | f, r :: rs => writeSlots (v.setIfInBounds f (some r)) (f + 1) rs

/-- A page with records written: LOADING, its record count counted afresh (R21). -/
def loadPage (f : Nat) (rs : List RawRecord) (p : Page) : Page :=
  let v := writeSlots p.slots f rs
  { p with state := .loading, slots := v, count := slotCount v }

/-- The page may be written (R17, R21). -/
def writable : PageState → Bool
  | .empty | .loading => true
  | .armed | .opened | .spent => false

/-- PAGE_LOAD (R21). -/
def doPageLoad (tag page first : Byte) (records : List RawRecord) (s : State) : State :=
  match pageOf page with
  | none => reply 0x10 tag .badValue [page] s
  | some p =>
      if writable s.store.pages[p].state = false then reply 0x10 tag .pageState [] s
      else if 15 < first.toNat then reply 0x10 tag .badValue [first] s
      else if 16 < first.toNat + records.length then
        reply 0x10 tag .badValue [byteOf (first.toNat + records.length - 1)] s
      else reply 0x10 tag .ok [] (s.onPage p (loadPage first.toNat records))

/-- The lowest VOID slot below a written one (R22 step 3). -/
def gapSlot (v : Vector (Option RawRecord) 16) : Option Nat :=
  (List.range 16).find? fun i =>
    (v.toList[i]?.join).isNone && (v.toList.drop (i + 1)).any Option.isSome

/-- The lowest slot whose record fails its check (R22 step 4). -/
def badSlot (v : Vector (Option RawRecord) 16) : Option Nat :=
  (List.range 16).find? fun i =>
    match v.toList[i]?.join with
    | some r => !recordOk r
    | none => false

/-- A waiting Reader takes the page at the pointer when it becomes ARMED (R27, R28). -/
def readerAtArmed (p : Fin 8) (s : State) : State :=
  if s.reader = .waiting ∧ s.store.next = p then takePage s else s

/-- PAGE_ARM (R22). -/
def doPageArm (tag page : Byte) (s : State) : State :=
  match pageOf page with
  | none => reply 0x11 tag .badValue [page] s
  | some p =>
      if s.store.pages[p].state ≠ .loading then reply 0x11 tag .pageState [] s
      else
        match (gapSlot s.store.pages[p].slots).or (badSlot s.store.pages[p].slots) with
        | some i => reply 0x11 tag .badValue [byteOf i] s
        | none =>
            settleAll s (readerAtArmed p ((reply 0x11 tag .ok [] s).onPage p fun a => { a with state := .armed }))

/-- PAGE_CLEAR (R23). A law of R17 has it refused in ARMED, where R17's table and R23 have it take the page to EMPTY; the model
follows the table and R23 (log entry 37). -/
def doPageClear (tag page : Byte) (s : State) : State :=
  match pageOf page with
  | none => reply 0x12 tag .badValue [page] s
  | some p =>
      match s.store.pages[p].state with
      | .loading | .armed => reply 0x12 tag .ok [] (s.onPage p fun _ => Page.empty)
      | .empty => reply 0x12 tag .ok [] s
      | .opened | .spent => reply 0x12 tag .pageState [] s

/-- PAGE_QUERY (R24). -/
def doPageQuery (tag page : Byte) (s : State) : State :=
  match pageOf page with
  | none => reply 0x13 tag .badValue [page] s
  | some p =>
      let a := s.store.pages[p]
      reply 0x13 tag .ok [pageCode a.state, byteOf a.count, byteOf a.openPanels] s

/-! ## Panels and zones (R90, R91, R99) -/

/-- A target in a reply, 4,294,967,295 while absent (R91). -/
def targetBytes (x : Option Int) : List Byte := be32 (x.getD 4294967295)

/-- The bytes PANEL_QUERY gives a context (R91). R182 gives the codes of the state and no size for its field; the model sends one
byte (DESIGN CHOICE, log entry 54). -/
def ctxBytes (c : Ctx) : List Byte :=
  be16 c.panelId
  ++ [byteOf c.src.page.val, byteOf c.src.slot, byteOf c.src.copy, ctxCode c.state, reasonsByte c.reasons, notesByte c.notes]
  ++ targetBytes c.startTarget ++ targetBytes c.endTarget

/-- PANEL_QUERY (R91). -/
def doPanelQuery (tag lane : Byte) (s : State) : State :=
  match laneOf lane.toNat with
  | none => reply 0x14 tag .badValue [0] s
  | some n => reply 0x14 tag .ok (lane :: byteOf (s.lists.get n).length :: (s.lists.get n).flatMap ctxBytes) s

/-- FLAG_PANEL (R90). R182 gives neither a size nor a coding for the state in its reply; the model sends one byte with the codes of
PANEL_QUERY (DESIGN CHOICE, log entry 54). -/
def doFlagPanel (tag lane : Byte) (panelId : Word16) (s : State) : State :=
  match laneOf lane.toNat with
  | none => reply 0x15 tag .badValue [0] s
  | some n =>
      if panelId.toNat < 1 ∨ 4095 < panelId.toNat then reply 0x15 tag .badValue [0] s
      else
        match (s.lists.get n).find? (fun c => c.panelId == panelId.toNat) with
        | none => reply 0x15 tag .noSuch [] s
        | some c =>
            if c.state = .delivering then reply 0x15 tag .late [] s
            else
              reply 0x15 tag .ok [byteOf c.src.page.val, byteOf c.src.slot, byteOf c.src.copy, ctxCode c.state]
                (s.onCtx n c.src fun c => { c with reasons := { c.reasons with host := true } })

/-- ZONE_ADD (R99). The reply's start and end are sent by their low 32 bits (`be32`, log entry 45). -/
def doZoneAdd (tag : Byte) (offset length : Word32) (s : State) : State :=
  if s.motion.line = .idle then reply 0x16 tag .wrongState [] s
  else if length.toNat < 1 ∨ 2000000 < length.toNat ∨ offset.toInt < -4000000 ∨ 4000000 < offset.toInt then
    reply 0x16 tag .badValue [0] s
  else
    let lo := s.inPos + offset.toInt
    match placeZone s.lockPoint ⟨lo, lo + length.toNat, .operator⟩ with
    | none => reply 0x16 tag .late [] s
    | some z =>
        addPlaced z (reply 0x16 tag (if z.lo = lo then .ok else .clamped) (be32 z.lo ++ be32 z.hi) s)

/-! ## STATION_RELAY (R166) -/

/-- The address a target names: of a role (none when it is ABSENT) or raw (R166). -/
def State.relayAddr (s : State) (targetType target : Byte) : Nat :=
  if targetType = 0 then
    match roleOf target.toNat with
    | some r => s.roleAddr r
    | none => 0
  else target.toNat

/-- The number of bytes to carry: the data of a write, the count of a read (R166). -/
def relayLength (direction : Byte) (data : List Byte) : Nat := if direction = 0 then beNat data else data.length

/-- A field of the request is out of its range (R166, R181). -/
def relayBad (targetType target direction width : Byte) (index : Word16) (data : List Byte) : Bool :=
  let k := relayLength direction data
  decide (1 < targetType.toNat)
  || (targetType == 0 && decide (3 < target.toNat))
  || (targetType == 1 && decide (target.toNat < 1 ∨ 15 < target.toNat))
  || decide (1 < direction.toNat)
  || decide (width.toNat ≠ 1 ∧ width.toNat ≠ 2)
  || decide (k < 1 ∨ 64 < k)
  || decide ((if width.toNat = 1 then 256 else 65536) < index.toNat + k)

/-- The relay an accepted request begins (R166). -/
def newRelay (tag direction width : Byte) (addr : Nat) (index : Word16) (data : List Byte) : Relay :=
  { tag := tag, addr := addr, write := direction != 0, width := width.toNat, index := index.toNat,
    toWrite := if direction = 0 then [] else data, toRead := if direction = 0 then beNat data else 0, carried := 0,
    got := [] }

/-- STATION_RELAY; the reply is deferred to the relay's end (R166, R167). -/
def doStationRelay (tag targetType target direction width : Byte) (index : Word16) (data : List Byte) (s : State) : State :=
  if relayBad targetType target direction width index data then reply 0x20 tag .badValue [0] s
  else if s.relayAddr targetType target = 0 then reply 0x20 tag .noSuch [] s
  else
    let r := newRelay tag direction width (s.relayAddr targetType target) index data
    runArbiter (s.onStation fun t => { t with relay := some r })

/-! ## Taking a request (R181) -/

/-- A request is handled by the rule of its kind (R181). -/
def handle (tag : Byte) (r : Request) (s : State) : State :=
  match r with
  | .status => doStatus tag s
  | .setup pairs => doSetup tag pairs s
  | .thread p => doThread tag p s
  | .run => doRun tag s
  | .hold => doHold tag s
  | .resume => doResume tag s
  | .recover => doRecover tag s
  | .lineReset => doLineReset tag s
  | .pageLoad page first records => doPageLoad tag page first records s
  | .pageArm page => doPageArm tag page s
  | .pageClear page => doPageClear tag page s
  | .pageQuery page => doPageQuery tag page s
  | .panelQuery lane => doPanelQuery tag lane s
  | .flagPanel lane panelId => doFlagPanel tag lane panelId s
  | .zoneAdd offset length => doZoneAdd tag offset length s
  | .stationRelay tt t d w i data => doStationRelay tag tt t d w i data s

/-- A frame is taken: examined, then answered or handled (R181). -/
def takeFrame (f : Frame) (s : State) : State :=
  match examine f.kind f.payload with
  | .badKind => reply f.kind f.tag .badKind [] s
  | .badLength => reply f.kind f.tag .badLength [] s
  | .request r => handle f.tag r s

end Sys2Proof.Machine
end

