-- ==== Sys2Proof/Machine/LineLink.lean ====
section
/-! DEFINITION. The Line Link: the receiver, the request queue, the transmitter (R179 to R183). -/
namespace Sys2Proof.Machine

/-! ## Transmitter (R183) -/

/-- The transmitter, when it is free, sends the waiting reply, and otherwise the event at the head of the queue (R183). -/
def sendNext (l : LineLink) : LineLink :=
  match l.tx with
  | some _ => l
  | none =>
      match l.reply with
      | some r => { l with tx := some r, reply := none }
      | none =>
          match l.events with
          | e :: es => { l with tx := some (eventFrame l.eventsLost e), events := es }
          | [] => l

/-- The transmitter starts what it can (R183, log entry 3). -/
def startTx (s : State) : State := s.onLink sendNext

/-! ## Taking requests (R181) -/

/-- A frame may be taken: no reply waits and no relay is in progress (R181). -/
def State.mayTake (s : State) : Bool := s.link.reply.isNone && s.station.relay.isNone

/-- Frames are taken from the head of the request queue while they may be (R181). -/
def takeWaitingFrames : Nat → State → State
  | 0, s => startTx s
  | k + 1, s =>
      let s := startTx s
      if s.mayTake then
        match s.link.requests with
        | f :: r => takeWaitingFrames k (takeFrame f (s.onLink fun l => { l with requests := r }))
        | [] => s
      else s

/-- The line link goes on: transmitter and request queue, which holds at most four frames. -/
def runLink (s : State) : State := takeWaitingFrames requestMax s

/-! ## Receiver (R180) -/

/-- A frame whose CRC is right joins the request queue, or is discarded when four wait (R180). -/
def enqueue (f : Frame) (s : State) : State :=
  s.onLink fun l => if l.requests.length < requestMax then { l with requests := l.requests ++ [f] } else l

/-- A request frame arrives, and the line link goes on (R180, R181). -/
def arrive (f : Frame) (s : State) : State := runLink (enqueue f s)

/-- The frame in a run of bytes without its start byte, if the CRC is right (R179). -/
def openFrame (bs : List Byte) : Option Frame :=
  match bs with
  | len :: kind :: tag :: rest =>
      let body := len :: kind :: tag :: rest.take len.toNat
      if word16Bytes (crc16 body) = rest.drop len.toNat then some ⟨kind, tag, rest.take len.toNat⟩ else none
  | _ => none

/-- What the receiver does with the bytes of a frame taken so far, start byte first (R180). -/
inductive Received where
  | partial_
  | complete (f : Option Frame)
deriving DecidableEq, Repr

/-- The bytes of a frame, complete when the length's payload and CRC have come (R179, R180). -/
def examineBytes (bs : List Byte) : Received :=
  match bs with
  | _ :: len :: rest => if rest.length = len.toNat + 4 then .complete (openFrame (len :: rest)) else .partial_
  | _ => .partial_

/-- The receiver's bytes are set. -/
def setRx (bs : List Byte) (s : State) : State := s.onLink fun l => { l with rx := bs }

/-- A byte taken while hunting (R180). -/
def huntByte (b : Byte) (s : State) : State := if b = startByte then setRx [b] s else setRx [] s

/-- The length byte of a frame; a length above 240 discards the frame (R180). -/
def lengthByte (b : Byte) (s : State) : State := if payloadMax < b.toNat then setRx [] s else setRx [startByte, b] s

/-- A byte of a frame after its length byte; a complete frame with a right CRC arrives (R180). -/
def frameByte (b : Byte) (s : State) : State :=
  match examineBytes (s.link.rx ++ [b]) with
  | .partial_ => setRx (s.link.rx ++ [b]) s
  | .complete (some f) => arrive f (setRx [] s)
  | .complete none => setRx [] s

/-- One byte received (R180). -/
def receiveByte (b : Byte) (s : State) : State :=
  match s.link.rx with
  | [] => huntByte b s
  | [_] => lengthByte b s
  | _ :: _ :: _ => frameByte b s

/-- Bytes received one after another (R180). -/
def receiveBytes (bs : List Byte) (s : State) : State :=
  bs.foldl (fun (s : State) (b : Byte) => receiveByte b s) s

end Sys2Proof.Machine
end

