-- ==== Sys2Proof/Machine/EyeEvents.lean ====
section
/-! DEFINITION. The commands of the eyes: edges and INSPECT (R39, R41 to R45, R48, R56, R57). -/
namespace Sys2Proof.Machine

/-- The level of a lane's mark signal (R39). -/
def setDark (n : Lane) (b : Bool) (s : State) : State := s.onPins fun p => { p with eyeDark := p.eyeDark.set n b }

/-- The decoders take edges: the outfeed's hold-back is 0 (R41). -/
def State.edgesTaken (s : State) : Bool := s.web.outfeed.hold == 0

/-- A leading edge; a signal already dark gives none (R39, R43). -/
def leadingEdge (n : Lane) (s : State) : State :=
  if s.pins.eyeDark.get n then s
  else if s.edgesTaken then takeLeading n (setDark n true s) else setDark n true s

/-- A trailing edge; a signal already light gives none (R39, R45). -/
def trailingEdge (n : Lane) (s : State) : State :=
  if s.pins.eyeDark.get n then
    if s.edgesTaken then settleAll s (takeTrailing n (setDark n false s)) else setDark n false s
  else s

/-- A level of INSPECT_n; its assertion is an event for an eye that is not OFF (R39, R40, R56, R57). -/
def inspectChange (n : Lane) (asserted : Bool) (s : State) : State :=
  let old := s.pins.inspect.get n
  let t := s.onPins fun p => { p with inspect := p.inspect.set n asserted }
  if asserted = true ∧ old = false ∧ (s.eyes.get n).decode ≠ .off then takeInspect n t else t

/-- LEADING_EDGE (R43). -/
def execLeadingEdge (n : Lane) (s : State) : Host.Outcome State Fault Refusal := .next (startTx (leadingEdge n s))

/-- TRAILING_EDGE (R45). -/
def execTrailingEdge (n : Lane) (s : State) : Host.Outcome State Fault Refusal := .next (startTx (trailingEdge n s))

/-- INSPECT_ASSERT, with the level INSPECT_n changes to (R56, log entry 6). -/
def execInspectAssert (n : Lane) (asserted : Bool) (s : State) : Host.Outcome State Fault Refusal :=
  .next (startTx (inspectChange n asserted s))

end Sys2Proof.Machine
end

