-- ==== Sys2Proof/Machine/HandoffEvents.lean ====
section
/-! DEFINITION. The commands of the stacker handoff (R172, R173, R175, R176). -/
namespace Sys2Proof.Machine

/-- The delay timer of a channel expires while it runs (R172). -/
def delayExpired (ch : Lane) (s : State) : State :=
  let c := s.hand.channels.get ch
  match c.delay, c.owner with
  | some _, some (n, q) =>
      match c.state with
      | .settling => assertDeliver ch n q .offered none s
      | .pulsing => settleAll s (completeCycle ch s)
      | .idle | .offered | .releasing => s
  | _, _ => s

/-- The channel drops DELIVER and REJECT and waits for ACCEPT to drop (R173). -/
def releaseChannel (ch : Lane) (s : State) : State := s.onChannel ch fun c => { c with state := .releasing }

/-- A channel takes a change of its ACCEPT (R173), also one that follows a timeout and finds the channel OFFERED with the next
context of ganged mode (log entry 41). -/
def acceptTaken (ch : Lane) (asserted : Bool) (before s : State) : State :=
  match (s.hand.channels.get ch).state with
  | .offered =>
      if asserted then
        if s.effMode ch = 3 then releaseChannel ch s else settleAll before (completeCycle ch s)
      else s
  | .releasing => if asserted then s else settleAll before (completeCycle ch s)
  | .idle | .settling | .pulsing => s

/-- The channel watches this lane's ACCEPT (R173, R177). -/
def State.watched (s : State) (n : Lane) : Bool := s.channelOf n == n

/-- A change of the level of ACCEPT_n (R170, R173). -/
def acceptChange (n : Lane) (high : Bool) (s : State) : State :=
  if s.pins.accept.get n = high then s
  else
    let t := s.onPins fun p => { p with accept := p.accept.set n high }
    if t.watched n then acceptTaken n (t.acceptAsserted n) s t else t

/-- The handoff timer of a channel expires while it runs (R175). -/
def handoffExpired (ch : Lane) (s : State) : State :=
  match (s.hand.channels.get ch).timer with
  | some _ => settleAll s (timeoutCycle ch s)
  | none => s

/-- A change of the level of BUSY_n; a deassertion in the mask has the head examined (R170, R176). -/
def busyChange (n : Lane) (high : Bool) (s : State) : State :=
  if s.pins.busy.get n = high then s
  else
    let t := s.onPins fun p => { p with busy := p.busy.set n high }
    if t.busyAsserted n = false ∧ (t.par .handoffInhibit).toNat.testBit (laneNum n) = true
    then settle s (tryTraverse t) else t

/-- DELAY_TIMER_EXPIRY (R172). -/
def execDelayTimerExpiry (ch : Lane) (s : State) : Host.Outcome State Fault Refusal := .next (startTx (delayExpired ch s))

/-- ACCEPT_CHANGE (R173). -/
def execAcceptChange (n : Lane) (high : Bool) (s : State) : Host.Outcome State Fault Refusal :=
  .next (startTx (acceptChange n high s))

/-- HANDOFF_TIMEOUT (R175). -/
def execHandoffTimeout (ch : Lane) (s : State) : Host.Outcome State Fault Refusal := .next (startTx (handoffExpired ch s))

/-- BUSY_CHANGE (R176). -/
def execBusyChange (n : Lane) (high : Bool) (s : State) : Host.Outcome State Fault Refusal :=
  .next (startTx (busyChange n high s))

end Sys2Proof.Machine
end

