-- ==== Sys2Proof/Machine/KnifeEvents.lean ====
section
/-! DEFINITION. The commands of the drive, the knife carriage, their timers, the J7 inputs and the dwell timer (R113 to R117,
R143, R147). -/
namespace Sys2Proof.Machine

/-- IN_POSITION: the outfeed motion state, then the Knife Sequencer (R113, R148). -/
def inPosition (s : State) : State := settle s (sequencerInPosition (outfeedInPosition s))

/-- END; ignored while no entry is CUTTING (R116, R121). -/
def traverseEnd (s : State) : State :=
  match s.headEntry with
  | some e => if e.status = .cutting then settleAll s (takeEnd e s) else s
  | none => s

/-- The index timer expires while it runs (R114). -/
def indexExpired (s : State) : State :=
  match s.cuts.indexTimer with
  | some _ => settle s (raiseTrip .indexTimeout s)
  | none => s

/-- The cut timer expires while it runs (R117). -/
def cutExpired (s : State) : State :=
  match s.cuts.cutTimer with
  | some _ => settle s (raiseTrip .knifeTimeout s)
  | none => s

/-- An input changes; its assertion raises its cause (R143). -/
def tripInput (i : TripInput) (asserted : Bool) (s : State) : State :=
  if s.pins.input i = asserted then s
  else
    let t := s.onPins fun p => p.setInput i asserted
    if asserted then settle s (raiseTrip (inputCause i) t) else t

/-- The dwell timer reaches DWELL_LIMIT while it runs (R147). -/
def dwellExpired (s : State) : State :=
  if s.dwellRunning then settle s (reportDwell (laminatorFailed (openNip s))) else s

/-- IN_POSITION (R113). -/
def execInPosition (s : State) : Host.Outcome State Fault Refusal := .next (startTx (inPosition s))

/-- TRAVERSE_END (R116). -/
def execTraverseEnd (s : State) : Host.Outcome State Fault Refusal := .next (startTx (traverseEnd s))

/-- INDEX_TIMEOUT (R114). -/
def execIndexTimeout (s : State) : Host.Outcome State Fault Refusal := .next (startTx (indexExpired s))

/-- CUT_TIMEOUT (R117). -/
def execCutTimeout (s : State) : Host.Outcome State Fault Refusal := .next (startTx (cutExpired s))

/-- TRIP_INPUT_ASSERTED, with the level the input changes to (R143, log entry 6). -/
def execTripInputAsserted (i : TripInput) (asserted : Bool) (s : State) : Host.Outcome State Fault Refusal :=
  .next (startTx (tripInput i asserted s))

/-- DWELL_EXPIRY (R147). -/
def execDwellExpiry (s : State) : Host.Outcome State Fault Refusal := .next (startTx (dwellExpired s))

end Sys2Proof.Machine
end

