-- ==== Sys2Proof/Machine/LinkCommands.lean ====
section
/-! DEFINITION. The commands of the line link: bytes and frames (R180, R181, R183), and the requests, each the arrival of its
request frame (log entry 2). -/
namespace Sys2Proof.Machine

/-- LINE_FRAME_RECEIVED: the bytes of a frame arrive (R180). -/
def execLineFrameReceived (bytes : List Byte) (s : State) : Host.Outcome State Fault Refusal :=
  .next (startTx (receiveBytes bytes s))

/-- FRAME_GAP_TIMEOUT: the part received is discarded, and the byte that ends the gap is taken as a hunting byte (R180). -/
def execFrameGapTimeout (next : Byte) (s : State) : Host.Outcome State Fault Refusal := .next (startTx (huntByte next s))

/-- FRAME_LENGTH_DISCARD: the length byte arrives (R180). -/
def execFrameLengthDiscard (length : Byte) (s : State) : Host.Outcome State Fault Refusal :=
  .next (startTx (receiveByte length s))

/-- FRAME_SENT: the transmitter is free, and the line link goes on (R183). -/
def execFrameSent (s : State) : Host.Outcome State Fault Refusal := .next (runLink (s.onLink fun l => { l with tx := none }))

/-- A request frame arrives, as its command gives it (R180, R181). -/
def requestArrives (tag : Byte) (r : Request) (s : State) : State := arrive (requestFrame tag r) s

/-- BAD_KIND: a frame of an unknown kind arrives (R181). -/
def execBadKind (kind tag : Byte) (payload : List Byte) (s : State) : Host.Outcome State Fault Refusal :=
  .next (arrive ⟨kind, tag, payload⟩ s)

/-- STATUS (R187). -/
def execStatus (tag : Byte) (s : State) : Host.Outcome State Fault Refusal :=
  .next (requestArrives tag .status s)

/-- SETUP (R185). -/
def execSetup (tag : Byte) (pairs : List (Byte × Word32)) (s : State) : Host.Outcome State Fault Refusal :=
  .next (requestArrives tag (.setup pairs) s)

/-- THREAD (R14). -/
def execThread (tag : Byte) (p : Word32) (s : State) : Host.Outcome State Fault Refusal :=
  .next (requestArrives tag (.thread p) s)

/-- RUN (R136). -/
def execRun (tag : Byte) (s : State) : Host.Outcome State Fault Refusal :=
  .next (requestArrives tag .run s)

/-- HOLD (R137). -/
def execHold (tag : Byte) (s : State) : Host.Outcome State Fault Refusal :=
  .next (requestArrives tag .hold s)

/-- RESUME (R138). -/
def execResume (tag : Byte) (s : State) : Host.Outcome State Fault Refusal :=
  .next (requestArrives tag .resume s)

/-- RECOVER (R139). -/
def execRecover (tag : Byte) (s : State) : Host.Outcome State Fault Refusal :=
  .next (requestArrives tag .recover s)

/-- LINE_RESET (R140). -/
def execLineReset (tag : Byte) (s : State) : Host.Outcome State Fault Refusal :=
  .next (requestArrives tag .lineReset s)

/-- PAGE_LOAD (R21). -/
def execPageLoad (tag page first : Byte) (records : List RawRecord) (s : State) : Host.Outcome State Fault Refusal :=
  .next (requestArrives tag (.pageLoad page first records) s)

/-- PAGE_ARM (R22). -/
def execPageArm (tag page : Byte) (s : State) : Host.Outcome State Fault Refusal :=
  .next (requestArrives tag (.pageArm page) s)

/-- PAGE_CLEAR (R23). -/
def execPageClear (tag page : Byte) (s : State) : Host.Outcome State Fault Refusal :=
  .next (requestArrives tag (.pageClear page) s)

/-- PAGE_QUERY (R24). -/
def execPageQuery (tag page : Byte) (s : State) : Host.Outcome State Fault Refusal :=
  .next (requestArrives tag (.pageQuery page) s)

/-- PANEL_QUERY (R91). -/
def execPanelQuery (tag lane : Byte) (s : State) : Host.Outcome State Fault Refusal :=
  .next (requestArrives tag (.panelQuery lane) s)

/-- FLAG_PANEL (R90). -/
def execFlagPanel (tag lane : Byte) (panelId : Word16) (s : State) : Host.Outcome State Fault Refusal :=
  .next (requestArrives tag (.flagPanel lane panelId) s)

/-- ZONE_ADD (R99). -/
def execZoneAdd (tag : Byte) (offset length : Word32) (s : State) : Host.Outcome State Fault Refusal :=
  .next (requestArrives tag (.zoneAdd offset length) s)

/-- STATION_RELAY (R166). -/
def execStationRelay (tag targetType target direction width : Byte) (index : Word16) (data : List Byte) (s : State) : Host.Outcome State Fault Refusal :=
  .next (requestArrives tag (.stationRelay targetType target direction width index data) s)

end Sys2Proof.Machine
end

