-- ==== Sys2Proof/Machine/PowerAndWeb.lean ====
section
/-! DEFINITION. The commands of power and web: POWER_ON and the encoder events (R2 to R7, R12, R15). -/
namespace Sys2Proof.Machine

/-- What follows an advance of the outfeed coordinate: eyes, registration, locks, zones, the content (log entry 5). -/
def outfeedAdvanced (s : State) : State :=
  judgeContent (removeZones (settleReg (judgeLocks (settleReg (advanceEyes s)))))

/-- The state with one channel's counter replaced. -/
def State.setCounter (s : State) (e : Encoder) (c : Counter) : State := s.onWeb fun w => w.set e c

/-- What a hold-back that has returned to 0 brings: the edges it kept back (R41); the infeed's has no such effect. R41 gives no
order among lanes that owe an edge; the model takes them lowest lane first, and registration does what is due after all four
(DESIGN CHOICE, log entry 44). -/
def holdCleared (before : State) (e : Encoder) (hold : Nat) (s : State) : State :=
  match e with
  | .infeed => s
  | .outfeed => if hold = 0 then settleAll before (forLanes edgeAfterHold s) else s

/-- What an advance of a coordinate brings, judged against its new value (R12). -/
def advanced (before : State) (e : Encoder) (s : State) : State :=
  match e with
  | .infeed => settle before (judgeContent s)
  | .outfeed => settle before (outfeedAdvanced s)

/-- A forward count (R3, R4, R6). -/
def forwardCount (e : Encoder) (s : State) : State :=
  let r := countForward (s.ratio e).1 (s.ratio e).2 (s.web.get e)
  match r.2 with
  | .absorbed => holdCleared s e r.1.hold (s.setCounter e r.1)
  | .counted 0 => s.setCounter e r.1
  | .counted (_ + 1) => advanced s e (s.setCounter e r.1)
  | .discarded => settle s (raiseTrip .coordLimit s)

/-- A reverse count (R5, R7). The eyes remember their levels as the outfeed's hold-back rises from 0 (R41). -/
def reverseCount (e : Encoder) (s : State) : State :=
  let r := countReverse (s.web.get e)
  if r.2 then settle s (raiseTrip .encoderReverse s)
  else
    match e with
    | .infeed => s.setCounter e r.1
    | .outfeed => if (s.web.get e).hold = 0 then holdLevels (s.setCounter e r.1) else s.setCounter e r.1

/-- POWER_ON: every block takes its power-on values; the pins stand, S1 is read (R15, R190, log entry 7). -/
def execPowerOn (s1Fitted : Bool) (s : State) : Host.Outcome State Fault Refusal :=
  .next (State.poweredOn { s.pins with s1Fitted := s1Fitted } s.pending)

/-- FORWARD_COUNT (R3). -/
def execForwardCount (e : Encoder) (s : State) : Host.Outcome State Fault Refusal := .next (startTx (forwardCount e s))

/-- REVERSE_COUNT (R5). -/
def execReverseCount (e : Encoder) (s : State) : Host.Outcome State Fault Refusal := .next (startTx (reverseCount e s))

/-- QUADRATURE_DOUBLE_CHANGE: discarded (R2). -/
def execQuadratureDoubleChange (_ : Encoder) (s : State) : Host.Outcome State Fault Refusal := .next s

end Sys2Proof.Machine
end

