-- ==== Sys2Proof/Machine/StationEvents.lean ====
section
/-! DEFINITION. The commands of the beam timer and the station link (R130, R156, R158). -/
namespace Sys2Proof.Machine

/-- The beam timer expires while it runs (R130). -/
def beamExpired (s : State) : State :=
  match s.beam.timer with
  | some _ => settle s (failChangeover s)
  | none => s

/-- An answer frame; with no transaction in flight its bytes are discarded (R156). -/
def stationAnswered (a : Answer) (s : State) : State :=
  match s.station.inFlight with
  | some t => settleAll s (takeOutcome t (judgeAnswer t a) s)
  | none => s

/-- No complete answer in time (R156). -/
def replyExpired (s : State) : State :=
  match s.station.inFlight with
  | some t => settleAll s (takeOutcome t .noAnswer s)
  | none => s

/-- BEAM_TIMEOUT (R130). -/
def execBeamTimeout (s : State) : Host.Outcome State Fault Refusal := .next (startTx (beamExpired s))

/-- POLL_DUE (R158). -/
def execPollDue (r : Role) (s : State) : Host.Outcome State Fault Refusal := .next (startTx (settle s (fallDue r s)))

/-- STATION_ANSWER; the end of a relay lets the line link go on (R156, R167, R181). -/
def execStationAnswer (a : Answer) (s : State) : Host.Outcome State Fault Refusal := .next (runLink (stationAnswered a s))

/-- REPLY_TIMEOUT (R156, R167, R181). -/
def execReplyTimeout (s : State) : Host.Outcome State Fault Refusal := .next (runLink (replyExpired s))

end Sys2Proof.Machine
end

