-- ==== Sys2Proof/Machine/Dispatch.lean ====
section
/-! DEFINITION. The meaning of every command, one arm for each constructor of Instr. -/
namespace Sys2Proof.Machine

def exec (i : Instr) (s : State) : Host.Outcome State Fault Refusal :=
  match i with
  | .powerOn s1 => Sys2Proof.Machine.execPowerOn s1 s
  | .forwardCount e => Sys2Proof.Machine.execForwardCount e s
  | .reverseCount e => Sys2Proof.Machine.execReverseCount e s
  | .quadratureDoubleChange e => Sys2Proof.Machine.execQuadratureDoubleChange e s
  | .leadingEdge n => Sys2Proof.Machine.execLeadingEdge n s
  | .trailingEdge n => Sys2Proof.Machine.execTrailingEdge n s
  | .inspectAssert n asserted => Sys2Proof.Machine.execInspectAssert n asserted s
  | .inPosition => Sys2Proof.Machine.execInPosition s
  | .traverseEnd => Sys2Proof.Machine.execTraverseEnd s
  | .indexTimeout => Sys2Proof.Machine.execIndexTimeout s
  | .cutTimeout => Sys2Proof.Machine.execCutTimeout s
  | .tripInputAsserted input asserted => Sys2Proof.Machine.execTripInputAsserted input asserted s
  | .dwellExpiry => Sys2Proof.Machine.execDwellExpiry s
  | .beamTimeout => Sys2Proof.Machine.execBeamTimeout s
  | .pollDue r => Sys2Proof.Machine.execPollDue r s
  | .stationAnswer a => Sys2Proof.Machine.execStationAnswer a s
  | .replyTimeout => Sys2Proof.Machine.execReplyTimeout s
  | .delayTimerExpiry ch => Sys2Proof.Machine.execDelayTimerExpiry ch s
  | .acceptChange n high => Sys2Proof.Machine.execAcceptChange n high s
  | .handoffTimeout ch => Sys2Proof.Machine.execHandoffTimeout ch s
  | .busyChange n high => Sys2Proof.Machine.execBusyChange n high s
  | .lineFrameReceived bytes => Sys2Proof.Machine.execLineFrameReceived bytes s
  | .frameGapTimeout next => Sys2Proof.Machine.execFrameGapTimeout next s
  | .frameSent => Sys2Proof.Machine.execFrameSent s
  | .badKind kind tag payload => Sys2Proof.Machine.execBadKind kind tag payload s
  | .status tag => Sys2Proof.Machine.execStatus tag s
  | .setup tag pairs => Sys2Proof.Machine.execSetup tag pairs s
  | .thread tag p => Sys2Proof.Machine.execThread tag p s
  | .run tag => Sys2Proof.Machine.execRun tag s
  | .hold tag => Sys2Proof.Machine.execHold tag s
  | .resume tag => Sys2Proof.Machine.execResume tag s
  | .recover tag => Sys2Proof.Machine.execRecover tag s
  | .lineReset tag => Sys2Proof.Machine.execLineReset tag s
  | .pageLoad tag page first records => Sys2Proof.Machine.execPageLoad tag page first records s
  | .pageArm tag page => Sys2Proof.Machine.execPageArm tag page s
  | .pageClear tag page => Sys2Proof.Machine.execPageClear tag page s
  | .pageQuery tag page => Sys2Proof.Machine.execPageQuery tag page s
  | .panelQuery tag lane => Sys2Proof.Machine.execPanelQuery tag lane s
  | .flagPanel tag lane panelId => Sys2Proof.Machine.execFlagPanel tag lane panelId s
  | .zoneAdd tag offset length => Sys2Proof.Machine.execZoneAdd tag offset length s
  | .stationRelay tag targetType target direction width index data => Sys2Proof.Machine.execStationRelay tag targetType target direction width index data s
  | .frameLengthDiscard length => Sys2Proof.Machine.execFrameLengthDiscard length s

end Sys2Proof.Machine
end

