-- ==== Sys2Proof/Machine/Step.lean ====
section
/-! DEFINITION. One step: the command at the front of the queue is taken and executed. -/
namespace Sys2Proof.Machine

/-- The state with the queue of waiting commands replaced. -/
def State.setPending (s : State) (q : List Instr) : State := { s with pending := q }

/-- The command at the front of the queue is executed on the state with the queue's rest; on an empty queue the block idles
(log entry 1). -/
def step (s : State) : Host.Outcome State Fault Refusal :=
  match s.pending with
  | [] => .next s
  | c :: r => exec c (s.setPending r)

/-- The state with the command a table word spells at the front of its queue; unchanged where it spells none. -/
def State.withFetchWord (s : State) (nbits w : Nat) : State :=
  match decodeTableWord nbits w with
  | some c => s.setPending (c :: s.pending)
  | none => s

end Sys2Proof.Machine
end

