-- ==== Sys2Proof/Safety.lean ====
section
/-! DEFINITION. The laws the rules state of every state the controller can be in, as predicates on a state, and the conditions
under which the statements of Certificates/Slice0 are made. -/
namespace Sys2Proof.Machine

/-! ## Parameters and web -/

/-- Every parameter lies in its range, and the cross-checks of R186 pass (R185). -/
def ParamsLaw (s : State) : Prop :=
  (∀ p, paramLow p ≤ s.par p ∧ s.par p ≤ paramHigh p) ∧ crossCheck s.params = none

/-- The ranges of a channel with denominator d (R1, R9). -/
def CounterLaw (d : Int) (c : Counter) : Prop :=
  c.coord ≤ coordCeiling ∧ (c.rem : Int) < d ∧ c.hold ≤ holdBackMax

/-- Both channels keep their ranges (R1, R9), with parameters that keep theirs. -/
def WebLaw (s : State) : Prop :=
  ParamsLaw s ∧ CounterLaw (s.par .inScaleD) s.web.infeed ∧ CounterLaw (s.par .outScaleD) s.web.outfeed

/-- The stretch estimate of every lane lies within STRETCH_LIMIT (R75). -/
def StretchLaw (s : State) : Prop :=
  ParamsLaw s ∧ ∀ n, -s.par .stretchLimit ≤ (s.reg.get n).f ∧ (s.reg.get n).f ≤ s.par .stretchLimit

/-! ## Line motion -/

/-- The laminator speed commanded is the one the line state and the band ask for (R146). -/
def SpeedLaw (s : State) : Prop := s.motion.speed = s.wantedSpeed

/-- The trip set is empty and the first cause absent but in TRIPPED, where the first cause is in the set; no hold reason stands
in RUNNING and IDLE; the job-end flag is set in HOLDING and TRIPPED alone (R134, R136, R140, R141, R143, R152). -/
def SetsLaw (s : State) : Prop :=
  (s.motion.line ≠ .tripped → s.motion.trips = TripSet.empty ∧ s.motion.firstCause = none)
  ∧ (s.motion.line = .tripped → ∃ c, s.motion.firstCause = some c ∧ s.motion.trips.has c = true)
  ∧ (s.motion.line = .running ∨ s.motion.line = .idle → s.motion.holds = HoldSet.empty)
  ∧ (s.motion.jobEnd = true → s.motion.line = .holding ∨ s.motion.line = .tripped)

/-! ## Bounded tables -/

/-- The tables and queues hold no more than the rules allow (R80, R93, R157, R180, R183). -/
def BoundsLaw (s : State) : Prop :=
  (∀ n, (s.lists.get n).length ≤ listMax) ∧ s.zones.length ≤ zoneMax ∧ s.station.actions.length ≤ actionMax
  ∧ s.link.requests.length ≤ requestMax ∧ s.link.events.length ≤ eventMax

/-- The zones stand in order of start and do not overlap one another (R93). -/
def ZonesOrdered : List Zone → Prop
  | [] => True
  | [a] => a.lo < a.hi
  | a :: b :: r => a.lo < a.hi ∧ a.hi < b.lo ∧ ZonesOrdered (b :: r)

/-- The Zone List's two laws (R93), with parameters that keep their ranges. -/
def ZonesLaw (s : State) : Prop := ParamsLaw s ∧ s.zones.length ≤ zoneMax ∧ ZonesOrdered s.zones

/-! ## Plan Store -/

/-- The page the Reader is at, if any (R26). -/
def readerPage : Reader → Option (Fin 8)
  | .reading p _ _ | .stalled p _ _ | .layoutStop p _ => some p
  | .inactive | .waiting | .finished => none

/-- A page is OPEN exactly when the Reader is at it, so at most one is (R17, R26); the job-end flag is set after END has been
read, in HOLDING or TRIPPED (R37, R152); in IDLE the Reader is INACTIVE or FINISHED (R26, R38). -/
def PagesLaw (s : State) : Prop :=
  (∀ p : Fin 8, s.store.pages[p].state = .opened ↔ readerPage s.reader = some p)
  ∧ (s.motion.jobEnd = true → s.reader = .finished ∧ (s.motion.line = .holding ∨ s.motion.line = .tripped))
  ∧ (s.motion.line = .idle → s.reader = .inactive ∨ s.reader = .finished)

/-- The record count of every page is the number of its slots that are not VOID (R16). -/
def CountsLaw (s : State) : Prop := ∀ p : Fin 8, s.store.pages[p].count = slotCount s.store.pages[p].slots

/-! ## Cut Queue -/

/-- The entries stand in order of coordinate, then of lowest lane, then of order number (R102); an entry that has left PROVISIONAL
stands below every PROVISIONAL one, and only the head is executing (R106, R111). -/
def QueueOrdered : List Entry → Prop
  | [] => True
  | [_] => True
  | a :: b :: r =>
      (a.coord < b.coord
        ∨ a.coord = b.coord ∧ (lowestLane a < lowestLane b ∨ lowestLane a = lowestLane b ∧ a.order < b.order))
      ∧ (a.status = .provisional → b.status = .provisional)
      ∧ (a.status ≠ .provisional → b.status = .provisional → a.coord < b.coord)
      ∧ executing b.status = false ∧ QueueOrdered (b :: r)

/-- The laws of the Cut Queue (R101, R102, R111): its order, and an order number of its own for each entry. -/
def QueueLaw (s : State) : Prop :=
  ParamsLaw s ∧ QueueOrdered s.cuts.entries ∧ (s.cuts.entries.map Entry.order).Nodup
  ∧ ∀ e ∈ s.cuts.entries, e.order < s.cuts.nextOrder

/-! ## Line link -/

/-- With the transmitter free, nothing waits to be sent (R183); with no reply waiting and no relay in progress, no request
waits to be taken (R181). -/
def LinkLaw (s : State) : Prop :=
  (s.link.tx = none → s.link.reply = none ∧ s.link.events = [])
  ∧ (s.link.reply = none → s.station.relay = none → s.link.requests = [])

/-- Every law holds. -/
def AllLaws (s : State) : Prop :=
  WebLaw s ∧ StretchLaw s ∧ SpeedLaw s ∧ SetsLaw s ∧ BoundsLaw s ∧ ZonesLaw s ∧ PagesLaw s ∧ CountsLaw s ∧ QueueLaw s ∧ LinkLaw s

/-! ## Runs -/

/-- A state some commands lead to from power-on. -/
inductive Reached : State → Prop where
  | reset : Reached State.reset
  | command (c : Instr) (s t : State) : Reached s → exec c s = .next t → Reached t

/-- The number of ACTIVE contexts in all lane lists (R102). -/
def State.activeCount (s : State) : Nat := ((s.lists.toList.map fun l => l.countP fun c => c.state == .active)).sum

/-! ## Conditions and relations of the statements -/

/-- A request frame that arrives is taken at once: no reply waits, no relay is in progress and no request waits before it, and
a free transmitter has nothing to send (R181, R183). -/
def State.linkReady (s : State) : Prop :=
  s.link.reply = none ∧ s.link.requests = [] ∧ s.station.relay = none ∧ (s.link.tx = none → s.link.events = [])

/-- The Line Link after a reply is made: its transmission begins if the transmitter is free, and it waits otherwise (R183). -/
def linkReplied (l : LineLink) (f : Frame) : LineLink :=
  if l.tx = none then { l with tx := some f } else { l with reply := some f }

/-- The Line Link after an event is queued (R183). -/
def linkEvent (l : LineLink) (e : Event) : LineLink :=
  if l.events.length < eventMax then { l with events := l.events ++ [e] } else { l with eventsLost := true }

/-- A reply made on the way from s to t has begun or waits (R181, R183). -/
def Replied (s t : State) (f : Frame) : Prop :=
  (s.link.tx = none → t.link.tx = some f ∧ t.link.reply = none)
  ∧ (s.link.tx ≠ none → t.link.tx = s.link.tx ∧ t.link.reply = some f)

/-- The Cut Queue with its head entry's status and its timers as a trip leaves them (R118). -/
def cutsAtTrip (c : Cuts) : Cuts :=
  match c.entries with
  | [] => c
  | e :: r =>
      if e.status = .indexing then { c with entries := { e with status := .locked } :: r, indexTimer := none }
      else if e.status = .cutting then
        { c with entries := { e with status := .interrupted } :: r, cutTimer := none, knifeStart := false,
                 knifeLanes := ⟨false, false, false, false⟩ }
      else c

/-- The trip cause a command raises: the expiry of a running timer, the assertion of an input that was not asserted (R114, R117,
R143). -/
def State.tripRaised (s : State) : Instr → Option TripCause
  | .indexTimeout => if s.cuts.indexTimer.isSome then some .indexTimeout else none
  | .cutTimeout => if s.cuts.cutTimer.isSome then some .knifeTimeout else none
  | .tripInputAsserted i asserted => if asserted = true ∧ s.pins.input i = false then some (inputCause i) else none
  | _ => none

/-- An input that trips the line is asserted (R143). -/
def State.tripInputStands (s : State) : Prop := ∃ i : TripInput, s.pins.input i = true

/-- From s to t nothing has changed but the line's motion, the Cut Queue, the changeover with what it blinds, the station link and
the events. -/
def MotionOnly (s t : State) : Prop :=
  t.web = s.web ∧ t.params = s.params ∧ t.store = s.store ∧ t.reader = s.reader ∧ t.zones = s.zones ∧ t.hand = s.hand
  ∧ t.pending = s.pending

/-- The tag and the request of a request command (R181). -/
def requestOf : Instr → Option (Byte × Request)
  | .status tag => some (tag, .status)
  | .setup tag pairs => some (tag, .setup pairs)
  | .thread tag p => some (tag, .thread p)
  | .run tag => some (tag, .run)
  | .hold tag => some (tag, .hold)
  | .resume tag => some (tag, .resume)
  | .recover tag => some (tag, .recover)
  | .lineReset tag => some (tag, .lineReset)
  | .pageLoad tag page first records => some (tag, .pageLoad page first records)
  | .pageArm tag page => some (tag, .pageArm page)
  | .pageClear tag page => some (tag, .pageClear page)
  | .pageQuery tag page => some (tag, .pageQuery page)
  | .panelQuery tag lane => some (tag, .panelQuery lane)
  | .flagPanel tag lane panelId => some (tag, .flagPanel lane panelId)
  | .zoneAdd tag offset length => some (tag, .zoneAdd offset length)
  | .stationRelay tag tt t d w i data => some (tag, .stationRelay tt t d w i data)
  | _ => none

/-- The frame a request command, or a BAD_KIND command, stands for (R181). -/
def frameOf : Instr → Option Frame
  | .badKind kind tag payload => some ⟨kind, tag, payload⟩
  | i => (requestOf i).map fun q => requestFrame q.1 q.2

/-- The value the last pair of a SETUP gives a parameter, if any (R185 step 2). -/
def lastValue (pairs : List (Byte × Word32)) (p : Param) : Option Int :=
  (pairs.reverse.find? fun q => q.1.toNat == paramNumber p).map fun q => q.2.toInt

/-- The four settle delays, which the PULSE clamp may change (R171). -/
def isDelay : Param → Bool
  | .handoffTd0 | .handoffTd1 | .handoffTd2 | .handoffTd3 => true
  | _ => false

end Sys2Proof.Machine
end

