-- ==== Sys2Proof/WellFormed.lean ====
section
/-! DEFINITION. Which commands can come about at all: what the rules say of the data each carries. The machine gives
every command a meaning, well-formed or not; these checks say which of them the outside can produce. -/
namespace Sys2Proof

/-- The request kinds of section 11.2 (R181). -/
def knownKinds : List Byte :=
  [0x01, 0x02, 0x03, 0x04, 0x05, 0x06, 0x07, 0x08, 0x10, 0x11, 0x12, 0x13, 0x14, 0x15, 0x16, 0x20]

/-- A station has one of the addresses 1 to 15 (R154), and no answer carries more than 16 bytes (R156). -/
def Answer.wf (a : Answer) : Bool := decide (1 ≤ a.addr.toNat ∧ a.addr.toNat ≤ 15) && decide (a.payload.length ≤ 16)

/-- The well-formed commands: a request's payload fits the table of R181, a BAD_KIND frame has a kind outside it, a
FRAME_LENGTH_DISCARD byte is above 240 (R180), a station answer comes from a station's address (R156). -/
def Instr.wf : Instr → Bool
  | .setup _ pairs => decide (1 ≤ pairs.length ∧ pairs.length ≤ 48)
  | .pageLoad _ _ _ records => decide (1 ≤ records.length ∧ records.length ≤ 14)
  | .stationRelay _ _ _ direction _ _ data =>
      if direction = 0 then data.length == 1 else decide (1 ≤ data.length ∧ data.length ≤ 64)
  | .badKind kind _ payload => !knownKinds.contains kind && decide (payload.length ≤ 240)
  | .frameLengthDiscard length => decide (240 < length.toNat)
  | .stationAnswer a => a.wf
  | .powerOn _ | .forwardCount _ | .reverseCount _ | .quadratureDoubleChange _ | .leadingEdge _ | .trailingEdge _
  | .inspectAssert _ _ | .inPosition | .traverseEnd | .indexTimeout | .cutTimeout | .tripInputAsserted _ _
  | .dwellExpiry | .beamTimeout | .pollDue _ | .replyTimeout | .delayTimerExpiry _ | .acceptChange _ _
  | .handoffTimeout _ | .busyChange _ _ | .lineFrameReceived _ | .frameGapTimeout _ | .frameSent | .status _
  | .thread _ _ | .run _ | .hold _ | .resume _ | .recover _ | .lineReset _ | .pageArm _ _ | .pageClear _ _
  | .pageQuery _ _ | .panelQuery _ _ | .flagPanel _ _ _ | .zoneAdd _ _ _ => true

end Sys2Proof
end

