-- ==== Sys2Proof/Certificates/Slice0/Obligations.lean ====
section
/-! DEFINITION. The statements for the provers: what the rules say the commands do, and the laws every step keeps. -/
open Sys2Proof Sys2Proof.Machine

/-! ## The queue, power-on and reset -/

/-- Step takes the command at the front of the queue and executes it on the state with the queue's rest; on an empty queue the
block idles (log entry 1: the queue and its idle step are the model's). -/
def Obligations.StepExecutesFrontCommand : Prop :=
  (∀ (c : Instr) (r : List Instr) (s : State), s.pending = c :: r → step s = exec c (s.setPending r))
  ∧ (∀ s : State, s.pending = [] → step s = .next s)

/-- The power-on values of every block: coordinates, remainders and hold-backs 0, parameters at their defaults, pages EMPTY with
VOID slots and counts 0, Reader INACTIVE, decoders OFF with no interval, lanes UNUSED with F 0, lists, zones and queues empty,
IDLE with empty sets, speed 0, nip OPEN, parked layout, every role UNKNOWN with count 0 and no status, channels IDLE, receiver
hunting. That the transmitter is free is the model's choice (log entry 27), and so is the empty queue of commands (log entry
1). POWER_ON gives every block the values of State.reset, with the model's where the spec gives none (log entry 27: no drive
command sent yet, the transmitter free, the moves counted from 0; log entry 38: the level an eye held before H rose is light); the
pins stand (log entry 7), and strap S1 gives the baud rate. -/
def Obligations.PowerOnGivesPowerOnValues : Prop :=
  (let s := State.reset
   (∀ e, s.web.get e = ⟨0, 0, 0⟩) ∧ (∀ p, s.par p = paramDefault p)
   ∧ (∀ p : Fin 8, s.store.pages[p].state = .empty ∧ (∀ i : Fin 16, s.store.pages[p].slots[i] = none)
       ∧ s.store.pages[p].count = 0 ∧ s.store.pages[p].openPanels = 0)
   ∧ s.store.next = 0 ∧ s.reader = .inactive
   ∧ (∀ n, (s.eyes.get n).decode = .off ∧ (s.eyes.get n).startInterval = none ∧ (s.eyes.get n).pitchInterval = none
       ∧ s.reg.get n = ⟨.unused, none, 0, 0, none, none, none, none, none⟩ ∧ s.lists.get n = []
       ∧ s.hand.channels.get n = ⟨.idle, none, none, none, false⟩)
   ∧ s.zones = [] ∧ s.cuts.entries = [] ∧ s.cuts.indexTimer = none ∧ s.cuts.cutTimer = none ∧ s.cuts.knifeStart = false
   ∧ s.motion.line = .idle ∧ s.motion.holds = HoldSet.empty ∧ s.motion.trips = TripSet.empty ∧ s.motion.firstCause = none
   ∧ s.motion.jobEnd = false ∧ s.motion.band = .normal ∧ s.motion.speed = 0 ∧ s.motion.nip = .opened
   ∧ s.motion.starve = false ∧ s.motion.outfeed = .stopped
   ∧ s.beam.current = ⟨1, 0, 0, 0, 0, 0, 0, 0⟩ ∧ s.beam.changeover = .none ∧ s.beam.timer = none
   ∧ (∀ r, s.station.records.get r = ⟨.unknown, 0⟩) ∧ s.station.laminator = none ∧ s.station.beam = none
   ∧ s.station.unwind = none ∧ s.station.trim = none ∧ s.station.spliceRecord = none ∧ s.station.rollLow = false
   ∧ s.station.actions = [] ∧ s.station.due = [] ∧ s.station.relay = none ∧ s.station.inFlight = none
   ∧ s.hand.waiting = [] ∧ s.link.rx = [] ∧ s.link.requests = [] ∧ s.link.reply = none ∧ s.link.tx = none
   ∧ s.link.events = [] ∧ s.link.eventsLost = false ∧ s.pending = [])
  ∧ (∀ (b : Bool) (s : State), exec (.powerOn b) s = .next
     { State.reset with
       pins := { s.pins with s1Fitted := b },
       link := { State.reset.link with baud := if b then 460800 else 115200 },
       pending := s.pending })

/-! ## The Web Counter -/

/-- R3: with no hold-back, a forward count advances the coordinate by (r + N) / D and leaves the remainder of that division,
unless it would pass the ceiling, where coordinate and remainder stand (R6); one count advances by at most 16 wu; after k counts
from a remainder of 0 the advance is k × N / D and the remainder that of k × N. The other channel is unchanged. -/
def Obligations.ForwardCountScalesExactly : Prop :=
  (∀ (e : Encoder) (s : State), (s.web.get e).hold = 0 →
    let n := (s.ratio e).1
    let d := (s.ratio e).2
    let c := s.web.get e
    (((c.rem + n) / d = 0 ∨ c.coord + (c.rem + n) / d ≤ 4000000000) →
      ∃ t, exec (.forwardCount e) s = .next t
        ∧ t.web = s.web.set e ⟨c.coord + (c.rem + n) / d, (c.rem + n) % d, 0⟩)
    ∧ (0 < (c.rem + n) / d → 4000000000 < c.coord + (c.rem + n) / d →
      ∃ t, exec (.forwardCount e) s = .next t ∧ t.web = s.web))
  ∧ (∀ (e : Encoder) (s : State), WebLaw s → ((s.web.get e).rem + (s.ratio e).1) / (s.ratio e).2 ≤ 16)
  ∧ (∀ (n d x k : Nat), 0 < d → x + k * n / d ≤ 4000000000 →
      (fun c => (countForward n d c).1)^[k] ⟨x, 0, 0⟩ = ⟨x + k * n / d, k * n % d, 0⟩)

/-- R4: with hold-back outstanding, a forward count lowers it by 1 and changes neither coordinate nor remainder; the first forward
count after it has returned to 0 goes on from that remainder. R41: as the outfeed's hold-back returns to 0, an eye whose signal
stands at the level held before it rose takes no edge; one at another level takes one edge of the new sense, at the beam
coordinate then standing, as its decode state takes it: a dark one starts a decode (R43), a light one ends a bar as PITCH, START
or malformed (R45, R47), judges a start bar (R48) or ends CLEARING (R42). The lanes take theirs lowest first (log entry 44). R6: a
forward count whose advance would pass 4,000,000,000 is discarded and raises COORD_LIMIT, which in IDLE is no trip; one that comes
to exactly the ceiling is taken. -/
def Obligations.HoldBackAndCeilingStopCounts : Prop :=
  ((∀ (e : Encoder) (s : State), 0 < (s.web.get e).hold →
     ∃ t, exec (.forwardCount e) s = .next t ∧ t.web = s.web.set e { s.web.get e with hold := (s.web.get e).hold - 1 }
       ∧ ((s.web.get e).hold = 1 →
           (s.web.get e).coord + ((s.web.get e).rem + (s.ratio e).1) / (s.ratio e).2 ≤ 4000000000 →
           ∃ u, exec (.forwardCount e) t = .next u
             ∧ u.web.get e = ⟨(s.web.get e).coord + ((s.web.get e).rem + (s.ratio e).1) / (s.ratio e).2,
                 ((s.web.get e).rem + (s.ratio e).1) % (s.ratio e).2, 0⟩))
   ∧ (∀ s : State, s.web.outfeed.hold = 1 →
     let edge := fun (n : Lane) (t : State) =>
       let dark := t.pins.eyeDark.get n
       let put := fun (d : Decode) => { t with eyes := t.eyes.set n { t.eyes.get n with decode := d } }
       if dark = (t.eyes.get n).held then t
       else if dark = true then
         match (t.eyes.get n).decode with
         | .watching => put (if t.codedFormat n t.beamPos then .inCode t.beamPos false [] (t.pins.inspect.get n)
                            else .inBar t.beamPos (t.pins.inspect.get n))
         | .off | .clearing | .inBar _ _ | .inCode _ _ _ _ => t
       else
         match (t.eyes.get n).decode with
         | .off | .watching => t
         | .clearing => put .watching
         | .inBar m i =>
             if t.beamPos - m ≤ t.par .barShortMax then placeMark n ⟨m, false, .pitch, none, i⟩ (put .watching)
             else if t.par .barLongMin ≤ t.beamPos - m then placeMark n ⟨m, false, .start, none, i⟩ (put .watching)
             else { put .watching with link := linkEvent t.link (.markNotice .malformed n m) }
         | .inCode m g cells i => if g = false ∧ t.beamPos ≤ m + t.par .barShortMax then put (.inCode m true cells i) else t
     exec (.forwardCount .outfeed) s = .next (startTx (settleAll s (edge .lane3 (edge .lane2 (edge .lane1 (edge .lane0
       { s with web := s.web.set .outfeed { s.web.outfeed with hold := 0 } }))))))))
  ∧ (∀ (e : Encoder) (s : State), (s.web.get e).hold = 0 →
     0 < ((s.web.get e).rem + (s.ratio e).1) / (s.ratio e).2 →
     (4000000000 < (s.web.get e).coord + ((s.web.get e).rem + (s.ratio e).1) / (s.ratio e).2 →
       ∃ t, exec (.forwardCount e) s = .next t ∧ t.web = s.web
         ∧ (s.motion.line = .idle → t.motion.line = .idle ∧ t.motion.trips = s.motion.trips)
         ∧ (s.motion.line ≠ .idle → t.motion.line = .tripped ∧ t.motion.trips.coordLimit = true))
     ∧ ((s.web.get e).coord + ((s.web.get e).rem + (s.ratio e).1) / (s.ratio e).2 = 4000000000 →
       ∃ t, exec (.forwardCount e) s = .next t ∧ (t.web.get e).coord = 4000000000))

/-- R5: a reverse count raises the hold-back by 1, and at 65,535 it is discarded and raises ENCODER_REVERSE; coordinate and
remainder stand, and so does the other channel. R41: as the outfeed's hold-back rises from 0, each eye keeps the level its signal
stands at, against which the level is held when the hold-back has returned to 0; a later reverse count, and the infeed's, leave
every eye as it stands. A count that is taken changes nothing else. -/
def Obligations.ReverseCountRaisesHoldBack : Prop :=
  ∀ (e : Encoder) (s : State),
    let h := (s.web.get e).hold
    let held := fun (n : Lane) => { s.eyes.get n with held := s.pins.eyeDark.get n }
    let u : State := { s with
      web := s.web.set e { s.web.get e with hold := h + 1 }
      eyes := if e = .outfeed ∧ h = 0 then ⟨held .lane0, held .lane1, held .lane2, held .lane3⟩ else s.eyes }
    (h < 65535 → exec (.reverseCount e) s = .next (startTx u) ∧ (LinkLaw s → startTx u = u))
    ∧ (h = 65535 →
      ∃ t, exec (.reverseCount e) s = .next t ∧ MotionOnly s t ∧ t.pins = s.pins
        ∧ (s.motion.line = .idle → t.motion.line = .idle ∧ t.motion.trips = s.motion.trips)
        ∧ (s.motion.line ≠ .idle → t.motion.line = .tripped ∧ t.motion.trips.encoderReverse = true))

/-- R145, R146, R149: at an advance of either coordinate in a line state other than IDLE, the accumulator band changes at most
once: NORMAL to SLOWED with the new content at C_HIGH or above, SLOWED to NORMAL at C_LOW or below and otherwise to STOPPED at
C_MAX or above, STOPPED to SLOWED at C_HIGH or below; the starve flag is set at C_MIN or below and cleared at C_LOW or above; the
commanded speed is the one the line state and the band ask for. When it changes, a speed action with the new value joins the line
actions, behind a nip-close action when the value is not 0 and the nip command is OPEN, which becomes CLOSED; where the list of
16 has no room for one of them it fails, and STATION is raised, which takes a RUNNING line to HOLDING (R157, R165). That such an
action, never sent, feeds no watchdog, so that every station record stands, is the model's reading (log entry 17). An advance of
the infeed brings this judgement alone and what every command is followed by (`settle`). -/
def Obligations.AdvanceJudgesContent : Prop :=
  (∀ (e : Encoder) (s : State), s.motion.line ≠ .idle → (s.web.get e).hold = 0 →
    let a := ((s.web.get e).rem + (s.ratio e).1) / (s.ratio e).2
    let c : Int := match e with | .infeed => s.content + a | .outfeed => s.content - a
    0 < a → (s.web.get e).coord + a ≤ 4000000000 →
    ∃ t, exec (.forwardCount e) s = .next t
      ∧ t.content = c
      ∧ (s.motion.band = .normal → t.motion.band = if s.par .cHigh ≤ c then .slowed else .normal)
      ∧ (s.motion.band = .slowed →
          t.motion.band = if c ≤ s.par .cLow then .normal else if s.par .cMax ≤ c then .stopped else .slowed)
      ∧ (s.motion.band = .stopped → t.motion.band = if c ≤ s.par .cHigh then .slowed else .stopped)
      ∧ t.motion.starve = (if c ≤ s.par .cMin then true else if s.par .cLow ≤ c then false else s.motion.starve)
      ∧ t.motion.speed = (if t.motion.line = .running then
          match t.motion.band with | .normal => s.par .runSpeed | .slowed => s.par .slowSpeed | .stopped => 0
        else 0))
  ∧ (∀ s : State, s.web.infeed.hold = 0 →
    let c := s.web.infeed
    let a := (c.rem + (s.ratio .infeed).1) / (s.ratio .infeed).2
    0 < a → c.coord + a ≤ 4000000000 →
    exec (.forwardCount .infeed) s = .next (startTx (settle s (judgeContent
      { s with web := s.web.set .infeed ⟨c.coord + a, (c.rem + (s.ratio .infeed).1) % (s.ratio .infeed).2, 0⟩ }))))
  ∧ (∀ s : State, s.motion.line ≠ .idle → s.station.actions.length ≤ 16 →
    let t := judgeContent s
    let w : Int := if s.motion.line = .running then
        match t.motion.band with | .normal => s.par .runSpeed | .slowed => s.par .slowSpeed | .stopped => 0
      else 0
    let closes := w ≠ 0 ∧ w ≠ s.motion.speed ∧ s.motion.nip = .opened
    let raised := (if closes then [Action.nip .closed] else []) ++ (if w ≠ s.motion.speed then [.speed w] else [])
    let nip : Nip := if closes then .closed else s.motion.nip
    (s.station.actions.length + raised.length ≤ 16 → t = { s with
      motion := { s.motion with band := t.motion.band, starve := t.motion.starve, speed := w, nip := nip }
      station := { s.station with actions := s.station.actions ++ raised } })
    ∧ (16 < s.station.actions.length + raised.length → t.motion.holds.station = true ∧ t.motion.speed = 0 ∧ t.motion.nip = nip
      ∧ t.motion.line = (if s.motion.line = .running then .holding else s.motion.line)
      ∧ t.station = { s.station with actions := (s.station.actions ++ raised).take 16 }))

/-- R12, R46, R48 to R50, R98, R107: a count that advances the outfeed coordinate is followed by the decoders, what is due in
registration, the locks and what they make due, the removal of zones and the judgement of the content, in this order (log entry
5), and then by what every command is followed by, with the trigger first (`settle`). Afterwards no decode stands past its limit,
nothing PROVISIONAL at or below the lock point, no zone behind the outfeed. A decoder closes a PLAIN bar that reaches m + 10,000
as a START and enters CLEARING, fails a start bar not judged good by m + BAR_SHORT_MAX, samples every cell whose point m + (i + 1)
× CELL_PITCH + CELL_PITCH/2 has come, and hands over the record of ten cells; in any other decode state it stands. The lanes go
lowest first, each its intervals before its decode (log entry 5). R57: an interval ends as x + MARK_WIN is passed, whether or not
its pitch expectation still stands (log entry 14), and begins as x - MARK_WIN is reached, and INSPECT standing asserted then, and
not before it begins (log entry 24), gives INSPECTION to the panel that owns it, EXPECTED or ACTIVE (log entry 52). -/
def Obligations.OutfeedAdvanceJudgesWeb : Prop :=
  (∀ s : State, s.web.outfeed.hold = 0 →
    let c := s.web.outfeed
    let a := (c.rem + (s.ratio .outfeed).1) / (s.ratio .outfeed).2
    let u : State := { s with web := s.web.set .outfeed ⟨c.coord + a, (c.rem + (s.ratio .outfeed).1) % (s.ratio .outfeed).2, 0⟩ }
    0 < a → c.coord + a ≤ 4000000000 →
    ∃ t, exec (.forwardCount .outfeed) s = .next t
      ∧ t = startTx (settle s (judgeContent (removeZones (settleReg (judgeLocks (settleReg (advanceEyes u)))))))
      ∧ (∀ z ∈ t.zones, t.outPos ≤ z.hi)
      ∧ (∀ e ∈ t.cuts.entries, e.status = .provisional → t.lockPoint < e.coord)
      ∧ (∀ n m i, (t.eyes.get n).decode = .inBar m i → t.beamPos < m + 10000)
      ∧ (∀ n m cells i, (t.eyes.get n).decode = .inCode m false cells i → t.beamPos ≤ m + t.par .barShortMax))
  ∧ (∀ (n : Lane) (m : Int) (i : Bool) (s : State), (s.eyes.get n).decode = .inBar m i →
      advanceDecode n s = if m + 10000 ≤ s.beamPos then
        placeMark n ⟨m, false, .start, none, i⟩
          { s with eyes := s.eyes.set n { s.eyes.get n with decode := .clearing } }
      else s)
  ∧ (∀ (n : Lane) (m : Int) (g : Bool) (cells : List Bool) (i : Bool) (s : State),
      (s.eyes.get n).decode = .inCode m g cells i → cells.length < 10 → 0 < s.par .cellPitch →
      (g = false → m + s.par .barShortMax < s.beamPos → advanceDecode n s = { s with
        eyes := s.eyes.set n { s.eyes.get n with decode := .clearing }
        link := linkEvent s.link (.markNotice .malformed n m) })
      ∧ (g = true ∨ s.beamPos ≤ m + s.par .barShortMax →
        ∃ k, cells.length + k ≤ 10
          ∧ (∀ j, cells.length ≤ j → j < 10 →
              (j < cells.length + k ↔ m + (j + 1) * s.par .cellPitch + (s.par .cellPitch).tdiv 2 ≤ s.beamPos))
          ∧ let new := cells ++ List.replicate k (s.pins.eyeDark.get n)
            (cells.length + k < 10 →
              advanceDecode n s = { s with eyes := s.eyes.set n { s.eyes.get n with decode := .inCode m g new i } })
            ∧ (cells.length + k = 10 →
              advanceDecode n s = placeMark n (codedRecord (s.par .parityMode) m new i) { s with
                eyes := s.eyes.set n { s.eyes.get n with
                  decode := if s.pins.eyeDark.get n = true then .clearing else .watching } })))
  ∧ (∀ (n : Lane) (s : State), (s.eyes.get n).decode = .off ∨ (s.eyes.get n).decode = .clearing
      ∨ (s.eyes.get n).decode = .watching → advanceDecode n s = s)
  ∧ (∀ (n : Lane) (s : State),
      let e := s.eyes.get n
      let w := s.par .markWin
      let kept := fun (i : Interval) =>
        if i.x + w < s.beamPos then none else some { i with begun := i.begun || decide (i.x - w ≤ s.beamPos) }
      let given := fun (c : Ctx) => (c.state = .expected ∨ c.state = .active) ∧ s.pins.inspect.get n = true
        ∧ ∃ i : Interval, (e.startInterval = some i ∨ e.pitchInterval = some i) ∧ i.owner = c.src
          ∧ i.begun = false ∧ i.x - w ≤ s.beamPos ∧ s.beamPos ≤ i.x + w
      ∃ f : Ctx → Ctx,
        advanceIntervals n s = { s with
          eyes := s.eyes.set n { e with startInterval := e.startInterval.bind kept, pitchInterval := e.pitchInterval.bind kept }
          lists := s.lists.set n ((s.lists.get n).map f) }
        ∧ ∀ c, (given c → f c = { c with reasons := { c.reasons with inspection := true } }) ∧ (¬given c → f c = c))
  ∧ (∀ s : State,
      let each := fun (n : Lane) (t : State) => advanceDecode n (advanceIntervals n t)
      advanceEyes s = each .lane3 (each .lane2 (each .lane1 (each .lane0 s))))

/-! ## The Eye Interface -/

/-- R39, R41, R42, R43: a leading edge taken in WATCHING starts a decode at the beam coordinate, PLAIN or CODED by the panel next
expected there, with the inspected flag as INSPECT stands, and changes nothing else but the signal level. In any other decode
state, or while hold-back is outstanding, it changes the level alone; a signal already dark gives no edge. R66: the panel next
expected is the head EXPECTED context of a SEEKING lane; in a lane that follows marks the panel of the open window that contains
m, of two the nearer, the start expectation's when both are equally near, and of no window the panel of the expectation with the
lower x, the start expectation's at equal x (log entry 13); elsewhere there is none. -/
def Obligations.LeadingEdgeStartsDecode : Prop :=
  (∀ (n : Lane) (s : State),
     let dark := { s.pins with eyeDark := s.pins.eyeDark.set n true }
     (s.pins.eyeDark.get n = false → s.web.outfeed.hold = 0 → (s.eyes.get n).decode = .watching →
       exec (.leadingEdge n) s = .next (startTx { s with
         pins := dark
         eyes := s.eyes.set n { s.eyes.get n with
           decode := if s.codedFormat n s.beamPos then .inCode s.beamPos false [] (s.pins.inspect.get n)
                     else .inBar s.beamPos (s.pins.inspect.get n) } }))
     ∧ (s.pins.eyeDark.get n = false → 0 < s.web.outfeed.hold ∨ (s.eyes.get n).decode ≠ .watching →
         exec (.leadingEdge n) s = .next (startTx { s with pins := dark }))
     ∧ (s.pins.eyeDark.get n = true → exec (.leadingEdge n) s = .next (startTx s)))
  ∧ (∀ (n : Lane) (m : Int) (s : State), s.codedFormat n m = true ↔
      ∃ q p, s.nextPanel n m = some q ∧ s.ctx? n q = some p ∧ p.coded = true ∧ p.synth = false)
  ∧ (∀ (n : Lane) (m : Int) (s : State),
      let r := s.reg.get n
      let half := if r.state = .lost then s.par .searchWin else s.par .markWin
      let inStart := fun (x : StartExpect) => |x.x - m| ≤ half ∧ ∀ p, s.ctx? n x.panel = some p → p.synth = false
      let inPitch := fun (y : PitchExpect) => |y.x - m| ≤ s.par .markWin ∧ r.state ≠ .lost
        ∧ ∀ q p, r.current = some q → s.ctx? n q = some p → p.synth = false
      (r.state = .seeking → s.nextPanel n m = (s.headExpected n).map Ctx.src)
      ∧ (r.state = .unused ∨ r.state = .blind → s.nextPanel n m = none)
      ∧ (r.state = .tracking ∨ r.state = .coasting ∨ r.state = .lost →
        (r.start = none → r.pitch = none → s.nextPanel n m = none)
        ∧ (∀ x, r.start = some x → r.pitch = none → s.nextPanel n m = some x.panel)
        ∧ (∀ y, r.start = none → r.pitch = some y → s.nextPanel n m = r.current)
        ∧ (∀ x y, r.start = some x → r.pitch = some y →
          (inStart x → (inPitch y → |x.x - m| ≤ |y.x - m|) → s.nextPanel n m = some x.panel)
          ∧ (inPitch y → (inStart x → |y.x - m| < |x.x - m|) → s.nextPanel n m = r.current)
          ∧ (¬inStart x → ¬inPitch y → s.nextPanel n m = if x.x ≤ y.x then some x.panel else r.current))))

/-- R42, R45, R47: a trailing edge in CLEARING leads to WATCHING; in IN_BAR the length b - m makes the bar a PITCH up to
BAR_SHORT_MAX and a START from BAR_LONG_MIN on, handed over as a PLAIN mark record, and malformed between the two, with
MARK_NOTICE(malformed) alone; the decoder is WATCHING either way. R48: in IN_CODE, the start bar is judged good by a trailing
edge at or below m + BAR_SHORT_MAX. R41, R42: in the other cases the level changes alone, and a signal already light gives no
edge. What every command is followed by (`settleAll`) comes after an edge that is taken. -/
def Obligations.TrailingEdgeEndsBar : Prop :=
  ∀ (n : Lane) (s : State),
    let light := { s.pins with eyeDark := s.pins.eyeDark.set n false }
    let u : State := { s with pins := light, eyes := s.eyes.set n { s.eyes.get n with decode := .watching } }
    (s.pins.eyeDark.get n = false → exec (.trailingEdge n) s = .next (startTx s))
    ∧ (s.pins.eyeDark.get n = true → 0 < s.web.outfeed.hold →
        exec (.trailingEdge n) s = .next (startTx { s with pins := light }))
    ∧ (s.pins.eyeDark.get n = true → s.web.outfeed.hold = 0 →
        ((s.eyes.get n).decode = .clearing → exec (.trailingEdge n) s = .next (startTx (settleAll s u)))
        ∧ (∀ (m : Int) (i : Bool), (s.eyes.get n).decode = .inBar m i →
            (s.beamPos - m ≤ s.par .barShortMax →
              exec (.trailingEdge n) s = .next (startTx (settleAll s (placeMark n ⟨m, false, .pitch, none, i⟩ u))))
            ∧ (s.par .barShortMax < s.beamPos - m → s.par .barLongMin ≤ s.beamPos - m →
              exec (.trailingEdge n) s = .next (startTx (settleAll s (placeMark n ⟨m, false, .start, none, i⟩ u))))
            ∧ (s.par .barShortMax < s.beamPos - m → s.beamPos - m < s.par .barLongMin →
              exec (.trailingEdge n) s
                = .next (startTx (settleAll s { u with link := linkEvent s.link (.markNotice .malformed n m) }))))
        ∧ (∀ (m : Int) (g : Bool) (cells : List Bool) (i : Bool), (s.eyes.get n).decode = .inCode m g cells i →
            exec (.trailingEdge n) s = .next (startTx (settleAll s { s with
              pins := light
              eyes := if g = false ∧ s.beamPos ≤ m + s.par .barShortMax
                      then s.eyes.set n { s.eyes.get n with decode := .inCode m true cells i } else s.eyes })))
        ∧ ((s.eyes.get n).decode = .off ∨ (s.eyes.get n).decode = .watching →
            exec (.trailingEdge n) s = .next (startTx (settleAll s { s with pins := light }))))

/-- R50, R51, R52: ten cells give the mark record: START with a dark cell 0 and PITCH with a light one, the tag of cells 1 to 8
most significant bit first, or UNDECODED without a tag when parity fails. Parity counts the dark cells among cells 1 to 9 in
modes 0 and 1 and among all ten in modes 2 and 3, and asks for an even count in modes 0 and 2 and an odd one in 1 and 3. -/
def Obligations.TenCellsGiveMarkRecord : Prop :=
  ∀ (mode m : Int) (i : Bool) (c0 c1 c2 c3 c4 c5 c6 c7 c8 c9 : Bool),
    let cells := [c0, c1, c2, c3, c4, c5, c6, c7, c8, c9]
    let count := (if mode = 0 ∨ mode = 1 then 0 else c0.toNat) + c1.toNat + c2.toNat + c3.toNat + c4.toNat + c5.toNat + c6.toNat
      + c7.toNat + c8.toNat + c9.toNat
    codedRecord mode m cells i
      = if (if mode = 0 ∨ mode = 2 then count % 2 = 0 else count % 2 = 1) then
          ⟨m, true, if c0 then .start else .pitch,
            some (128 * c1.toNat + 64 * c2.toNat + 32 * c3.toNat + 16 * c4.toNat + 8 * c5.toNat + 4 * c6.toNat + 2 * c7.toNat
              + c8.toNat), i⟩
        else ⟨m, true, .undecoded, none, i⟩

/-- R56, R57: an assertion of INSPECT_n flags the decode in progress, and in the lane's begun inspection intervals gives
INSPECTION to the panel that owns each. That only an interval already begun gives it, and one armed but not begun leaves its panel
as it stands, is the model's reading of R57 (log entry 24). R86: it reaches EXPECTED and ACTIVE panels alone (log entry 52), and
every other context of the lane, every other lane and the rest of the state stand. A deassertion, a repeated level (log entry 6)
and an inactive eye change the level alone. -/
def Obligations.InspectAssertFlagsDecode : Prop :=
  ∀ (n : Lane) (a : Bool) (s : State),
    let level := { s.pins with inspect := s.pins.inspect.set n a }
    let e := s.eyes.get n
    let flagged : Decode := match e.decode with
      | .inBar m _ => .inBar m true
      | .inCode m g c _ => .inCode m g c true
      | .off => .off | .clearing => .clearing | .watching => .watching
    let given := fun (c : Ctx) => (c.state = .expected ∨ c.state = .active)
      ∧ ∃ i : Interval, (e.startInterval = some i ∨ e.pitchInterval = some i) ∧ i.owner = c.src ∧ i.begun = true
    (a = false ∨ s.pins.inspect.get n = true ∨ e.decode = .off →
      exec (.inspectAssert n a) s = .next (startTx { s with pins := level }))
    ∧ (a = true → s.pins.inspect.get n = false → e.decode ≠ .off →
      ∃ f : Ctx → Ctx,
        exec (.inspectAssert n a) s = .next (startTx { s with
          pins := level
          eyes := s.eyes.set n { e with decode := flagged }
          lists := s.lists.set n ((s.lists.get n).map f) })
        ∧ ∀ c, (given c → f c = { c with reasons := { c.reasons with inspection := true } }) ∧ (¬given c → f c = c))

/-! ## Registration and stretch correction -/

/-- R62: a point at nominal distance d beyond a coordinate is predicted at the coordinate plus d plus d × F / 1,000,000 rounded to
nearest, a half away from zero. R63: the pitch expectation after an anchor. R57, R64: the start expectation at E plus lead,
formed, or the lane SEEKING when its window has passed, with the interval of a SYNTH position, none when the beam has passed its
end (log entry 28); the half-width for a SYNTH panel is that of R65 (log entry 32). While a SYNTH start is pending no start
expectation is formed or due to be formed (log entry 12). R65, R72, R73, R76: an expectation passed by the beam is missed, left
open while a decode that began in its window is in progress, or synthesised where it has no window. A pitch expectation whose
panel has been cut and has left its list ends so too, its miss counted (log entry 48). One that is withdrawn as a lane becomes
SEEKING leaves the interval of its position as it stands (log entry 14). R70: a SEEKING lane with a SYNTH head becomes TRACKING
with its START pending at the beam coordinate. R57: an interval is begun as it is armed when the beam has reached x - MARK_WIN,
and INSPECT standing asserted then gives INSPECTION; an armed one that has not begun gives nothing (log entry 24). INSPECTION
reaches EXPECTED and ACTIVE panels alone (log entry 52). What is due is done one after another, the first of the lowest lane
first, in the order: a SYNTH head of a SEEKING lane, a pending SYNTH start, a start expectation to be formed, the pitch
expectation, the start expectation, until nothing is due, at most 64 of them, more than a step brings (log entry 5); what every
command is followed by comes after it (`settleAll`). -/
def Obligations.PredictionsAndExpectations : Prop :=
  (∀ base d f : Int, ∃ corr : Int, predict base d f = base + d + corr
    ∧ 2 * |1000000 * corr - d * f| ≤ 1000000
    ∧ (2 * |1000000 * corr - d * f| = 1000000 → |d * f| < |1000000 * corr|))
  ∧ (∀ (n : Lane) (a : Anchor) (q : Source) (p : Ctx) (s : State),
      (s.reg.get n).anchor = some a → (s.reg.get n).current = some q → s.ctx? n q = some p →
      let r := s.reg.get n
      let x := predict a.pos p.pitch r.f
      let there := p.pitch ≠ 0 ∧ a.offset + p.pitch < p.nominal
      let formed := { s with
        reg := s.reg.set n { r with pitch := if there then some ⟨a.offset / p.pitch + 1, x⟩ else none } }
      (p.synth = false ∨ ¬there → formPitch n s = formed)
      ∧ (p.synth = true → there → formPitch n s = armPitch n p.src x formed))
  ∧ (∀ (n : Lane) (s : State),
      ((s.reg.get n).anchor = none ∨ ∀ q, (s.reg.get n).current = some q → s.ctx? n q = none) →
      formPitch n s = { s with reg := s.reg.set n { s.reg.get n with pitch := none } })
  ∧ (∀ (n : Lane) (q : Source) (x : Int) (s : State),
      let w := s.par .markWin
      let armed : Option Interval := if x + w < s.beamPos then none else some ⟨q, x, decide (x - w ≤ s.beamPos)⟩
      let given := fun (c : Ctx) => c.src = q ∧ (c.state = .expected ∨ c.state = .active) ∧ s.pins.inspect.get n = true
        ∧ x - w ≤ s.beamPos ∧ s.beamPos ≤ x + w
      ∃ f : Ctx → Ctx,
        let lists := s.lists.set n ((s.lists.get n).map f)
        armStart n q x s = { s with eyes := s.eyes.set n { s.eyes.get n with startInterval := armed }, lists := lists }
        ∧ armPitch n q x s = { s with eyes := s.eyes.set n { s.eyes.get n with pitchInterval := armed }, lists := lists }
        ∧ ∀ c, (given c → f c = { c with reasons := { c.reasons with inspection := true } }) ∧ (¬given c → f c = c))
  ∧ (∀ (n : Lane) (e : Int) (p : Ctx) (s : State),
      let r := s.reg.get n
      (r.state = .tracking ∨ r.state = .coasting ∨ r.state = .lost) → r.start = none → r.synth = none → r.lastEnd = some e →
      s.headExpected n = some p →
      let half := if r.state = .lost then s.par .searchWin else s.par .markWin
      let x := predict e p.lead r.f
      let seeking := { r with state := .seeking, pitch := none, start := none, anchor := none, current := none, miss := 0 }
      let formed := { s with reg := s.reg.set n { r with start := some ⟨p.src, x⟩ } }
      dueForm n s = some (formStart n s)
      ∧ (x + half < s.beamPos → formStart n s = { s with reg := s.reg.set n seeking })
      ∧ (s.beamPos ≤ x + half →
          (p.synth = false → formStart n s = formed) ∧ (p.synth = true → formStart n s = armStart n p.src x formed)))
  ∧ (∀ (n : Lane) (s : State),
      let r := s.reg.get n
      (r.state = .unused ∨ r.state = .seeking ∨ r.state = .blind ∨ r.start ≠ none ∨ r.synth ≠ none ∨ r.lastEnd = none
        ∨ s.headExpected n = none → formStart n s = s ∧ dueForm n s = none)
      ∧ (r.state = .unused ∨ r.state = .seeking ∨ r.state = .blind → duePitch n s = none ∧ dueStart n s = none)
      ∧ (r.pitch = none → duePitch n s = none)
      ∧ ((∀ x, r.start = some x → s.ctx? n x.panel = none) → dueStart n s = none)
      ∧ (r.state ≠ .seeking ∨ (∀ p, s.headExpected n = some p → p.synth = false) → seekSynth n s = none)
      ∧ ((∀ x, r.synth = some x → s.ctx? n x.panel = none) → dueSynth n s = none))
  ∧ (∀ (n : Lane) (x : PitchExpect) (q : Source) (p : Ctx) (s : State),
      let r := s.reg.get n
      (r.state = .tracking ∨ r.state = .coasting ∨ r.state = .lost) → r.pitch = some x → r.current = some q →
      s.ctx? n q = some p →
      let w := s.par .markWin
      let open_ := ∃ m, decodeMark (s.eyes.get n).decode = some m ∧ |x.x - m| ≤ w
      (s.beamPos ≤ x.x + w → duePitch n s = none)
      ∧ (x.x + w < s.beamPos →
          (r.state = .lost ∨ p.synth = true → duePitch n s = some (takePitch n p x.k x.x .synthesised s))
          ∧ (r.state ≠ .lost → p.synth = false →
              (open_ → duePitch n s = none) ∧ (¬open_ → duePitch n s = some (takePitch n p x.k x.x .missed s)))))
  ∧ (∀ (n : Lane) (x : PitchExpect) (s : State),
      let r := s.reg.get n
      (r.state = .tracking ∨ r.state = .coasting ∨ r.state = .lost) → r.pitch = some x →
      (∀ q, r.current = some q → s.ctx? n q = none) →
      let w := s.par .markWin
      let open_ := ∃ m, decodeMark (s.eyes.get n).decode = some m ∧ |x.x - m| ≤ w
      let ended := fun (t : State) => { t with reg := t.reg.set n { t.reg.get n with pitch := none } }
      (s.beamPos ≤ x.x + w → duePitch n s = none)
      ∧ (x.x + w < s.beamPos →
          (r.state = .lost → duePitch n s = some (ended s))
          ∧ (r.state ≠ .lost →
              (open_ → duePitch n s = none) ∧ (¬open_ → duePitch n s = some (ended (countMiss n x.x s))))))
  ∧ (∀ (n : Lane) (x : StartExpect) (p : Ctx) (s : State),
      let r := s.reg.get n
      (r.state = .tracking ∨ r.state = .coasting ∨ r.state = .lost) → r.start = some x → s.ctx? n x.panel = some p →
      let half := if r.state = .lost ∧ p.synth = false then s.par .searchWin else s.par .markWin
      let open_ := ∃ m, decodeMark (s.eyes.get n).decode = some m ∧ |x.x - m| ≤ half
      (s.beamPos ≤ x.x + half → dueStart n s = none)
      ∧ (x.x + half < s.beamPos →
          (p.synth = true → dueStart n s = some (startPanel n p x.x .synthesised false s))
          ∧ (p.synth = false →
              (open_ → dueStart n s = none) ∧ (¬open_ → dueStart n s = some (startPanel n p x.x .missed false s)))))
  ∧ (∀ (n : Lane) (p : Ctx) (s : State), (s.reg.get n).state = .seeking → s.headExpected n = some p → p.synth = true →
      seekSynth n s = some (armStart n p.src s.beamPos { s with
        reg := s.reg.set n { s.reg.get n with state := .tracking, synth := some ⟨p.src, s.beamPos⟩ } }))
  ∧ (∀ (n : Lane) (x : StartExpect) (p : Ctx) (s : State), (s.reg.get n).synth = some x → s.ctx? n x.panel = some p →
      dueSynth n s = if x.x + s.par .markWin < s.beamPos then some (startPanel n p x.x .synthesised true s) else none)
  ∧ (∀ (n : Lane) (s : State), dueInLane n s
      = [seekSynth n s, dueSynth n s, dueForm n s, duePitch n s, dueStart n s].findSome? fun t => t)
  ∧ (∀ s : State, dueNext s = [Lane.lane0, .lane1, .lane2, .lane3].findSome? fun n => dueInLane n s)
  ∧ (∀ (k : Nat) (s : State), regDue 0 s = s ∧ (∀ t, dueNext s = some t → regDue (k + 1) s = regDue k t)
      ∧ (dueNext s = none → regDue k s = s))
  ∧ (∀ b s : State, settleReg s = regDue 64 s ∧ settleAll b s = settle b (settleReg s))

/-- R67, R70: in a lane that follows marks, a record is accepted into the open window that contains it and that its kind can fill,
of two into the nearer, the start window of two equally near; in a SEEKING lane a START is accepted for a PRINTED head. R68, R69,
R72, R73: the panel started becomes ACTIVE and current with its targets, the mark is the anchor, miss count and state follow how
the mark came about, the tag, inspection and UNVERIFIED effects are given, and the expectations are formed anew; a pitch also
folds a sample from an anchor read in the same panel. R55: a tag that differs raises TAG_MISMATCH under TAG_POLICY 1 alone, which
takes a RUNNING line to HOLDING. That a pitch of a panel already cut is still accepted for it and its steps run is the model's
choice (log entry 48). R86: TAG reaches an ACTIVE panel alone and INSPECTION an EXPECTED or ACTIVE one, so that such a pitch gives
its panel no reason (log entry 52), while the hold is raised (log entry 53). As another panel becomes current the START interval
goes, and a PITCH interval still armed stands (log entry 14). R62, R77: a panel started reports its START at the mark and then its
END its nominal length beyond, a pitch the END what is left of it beyond, each predicted with F as it stands after the sample.
Before the reports the cut queue, the zones, the other lanes and, but for what a miss does, the other panels of the lane stand.
The small steps are taken in the model's order (log entry 15). -/
def Obligations.AcceptedMarksMovePanels : Prop :=
  let differs := fun (p : Ctx) (rec : MarkRecord) => rec.coded = true ∧ p.coded = true ∧ ∃ t, rec.tag = some t ∧ t ≠ p.tag
  let before := fun (v s : State) (n : Lane) (p : Ctx) (how : How) =>
    v.web = s.web ∧ v.params = s.params ∧ v.pins = s.pins ∧ v.store = s.store ∧ v.reader = s.reader ∧ v.zones = s.zones
    ∧ v.cuts = s.cuts ∧ v.beam = s.beam ∧ v.hand = s.hand ∧ v.pending = s.pending ∧ v.reg = s.reg.set n (v.reg.get n)
    ∧ (∀ k, k ≠ n → v.lists.get k = s.lists.get k)
    ∧ ((∀ rec, how = .observed rec → ¬differs p rec ∨ s.par .tagPolicy ≠ 1) → v.motion = s.motion ∧ v.station = s.station)
  (∀ (n : Lane) (rec : MarkRecord) (s : State),
    let r := s.reg.get n
    let half := if r.state = .lost then s.par .searchWin else s.par .markWin
    let openStart := fun (x : StartExpect) => r.start = some x ∧ (∀ p, s.ctx? n x.panel = some p → p.synth = false)
      ∧ rec.kind ≠ .pitch ∧ |x.x - rec.m| ≤ half
    let openPitch := fun (y : PitchExpect) => r.state ≠ .lost ∧ r.pitch = some y
      ∧ (∀ q p, r.current = some q → s.ctx? n q = some p → p.synth = false) ∧ rec.kind ≠ .start
      ∧ |y.x - rec.m| ≤ s.par .markWin
    (r.state = .tracking ∨ r.state = .coasting ∨ r.state = .lost →
      (∀ x p, openStart x → s.ctx? n x.panel = some p → (∀ y, openPitch y → |x.x - rec.m| ≤ |y.x - rec.m|) →
        placeMark n rec s = startPanel n p rec.m (.observed rec) false s)
      ∧ (∀ y q p, openPitch y → r.current = some q → s.ctx? n q = some p →
        (∀ x, openStart x → |y.x - rec.m| < |x.x - rec.m|) →
        placeMark n rec s = takePitch n p y.k rec.m (.observed rec) s))
    ∧ (∀ p, r.state = .seeking → s.headExpected n = some p → p.synth = false → rec.kind = .start →
        placeMark n rec s = startPanel n p rec.m (.observed rec) true s))
  ∧ (∀ (n : Lane) (p : Ctx) (m : Int) (how : How) (first : Bool) (s : State), s.ctx? n p.src = some p →
      p.endEntry = none → (∀ e, s.sharedEntry n p.src = some e → e.parts.get n ≠ none) → (s.reg.get n).miss ≤ 7 →
      let r := s.reg.get n
      ∃ v u c, startPanel n p m how first s = formStart n (formPitch n u)
        ∧ u = endReport n p.src (predict m p.nominal r.f) (startReport n p m first v)
        ∧ before v s n p how ∧ v.eyes = s.eyes.set n { s.eyes.get n with startInterval := none }
        ∧ (∀ q, q ≠ p.src → v.ctx? n q = if how = .missed then (countMiss n m s).ctx? n q else s.ctx? n q)
        ∧ u.ctx? n p.src = some c ∧ c.state = .active ∧ c.startTarget ≠ none ∧ c.endTarget ≠ none
        ∧ (u.reg.get n).current = some p.src ∧ (u.reg.get n).anchor = some ⟨m, 0, how.isObserved, p.src⟩
        ∧ (u.reg.get n).f = r.f ∧ (u.reg.get n).lastEnd = c.endTarget
        ∧ (u.reg.get n).pitch = none ∧ (u.reg.get n).start = none ∧ (u.reg.get n).synth = none
        ∧ (∀ rec, how = .observed rec → (u.reg.get n).miss = 0 ∧ (u.reg.get n).state = .tracking
            ∧ c.notes.unverified = (p.notes.unverified || (p.coded && !rec.coded) || rec.kind == .undecoded)
            ∧ (c.reasons.tag = true ↔ p.reasons.tag = true ∨ differs p rec)
            ∧ c.reasons.inspection = (p.reasons.inspection || rec.inspected)
            ∧ (differs p rec → s.par .tagPolicy = 1 → s.motion.line ≠ .idle → u.motion.holds.tagMismatch = true
                ∧ (s.motion.line = .running → u.motion.line = .holding))
            ∧ (¬differs p rec ∨ s.par .tagPolicy ≠ 1 → u.motion.holds.tagMismatch = s.motion.holds.tagMismatch))
        ∧ (how = .missed → (u.reg.get n).miss = min (r.miss + 1) 7
            ∧ (u.reg.get n).state = (if r.state = .tracking ∨ r.state = .coasting then
                if ((min (r.miss + 1) 7 : Nat) : Int) < s.par .missLimit then .coasting else .lost else r.state)
            ∧ c.notes.unverified = (p.notes.unverified || p.coded)
            ∧ (r.state = .lost → c.notes.unregistered = true))
        ∧ (how = .synthesised → (u.reg.get n).miss = r.miss ∧ (u.reg.get n).state = r.state
            ∧ (r.state = .lost → c.notes.unregistered = true)))
  ∧ (∀ (n : Lane) (p : Ctx) (k m : Int) (how : How) (s : State), s.ctx? n p.src = some p → p.endTarget ≠ none →
      (∀ x, (s.reg.get n).start = some x → x.panel ≠ p.src) → (s.reg.get n).miss ≤ 7 →
      let r := s.reg.get n
      ∃ v u c, takePitch n p k m how s = formPitch n u
        ∧ u = endReport n p.src (predict m (p.nominal - k * p.pitch) (v.reg.get n).f) v
        ∧ (u.reg.get n).f = (v.reg.get n).f ∧ before v s n p how ∧ v.eyes = s.eyes
        ∧ (∀ q, q ≠ p.src → v.ctx? n q = if how = .missed then (countMiss n m s).ctx? n q else s.ctx? n q)
        ∧ u.ctx? n p.src = some c ∧ c.endTarget ≠ none
        ∧ (u.reg.get n).current = r.current ∧ (u.reg.get n).anchor = some ⟨m, k * p.pitch, how.isObserved, p.src⟩
        ∧ (u.reg.get n).lastEnd = c.endTarget
        ∧ (∀ rec, how = .observed rec → (u.reg.get n).miss = 0 ∧ (u.reg.get n).state = .tracking
            ∧ (∀ a, r.anchor = some a → a.observed = true → a.panel = p.src →
                (u.reg.get n).f = ((takeSample n m (m - a.pos) p.pitch s).reg.get n).f)
            ∧ ((∀ a, r.anchor = some a → a.observed = false ∨ a.panel ≠ p.src) → (u.reg.get n).f = r.f)
            ∧ (c.reasons.tag = true ↔ p.reasons.tag = true ∨ differs p rec ∧ p.state = .active)
            ∧ (c.reasons.inspection = true ↔
                p.reasons.inspection = true ∨ rec.inspected = true ∧ (p.state = .expected ∨ p.state = .active))
            ∧ (differs p rec → s.par .tagPolicy = 1 → s.motion.line ≠ .idle → u.motion.holds.tagMismatch = true
                ∧ (s.motion.line = .running → u.motion.line = .holding))
            ∧ (¬differs p rec ∨ s.par .tagPolicy ≠ 1 → u.motion.holds.tagMismatch = s.motion.holds.tagMismatch))
        ∧ (how = .missed → (u.reg.get n).f = r.f ∧ (u.reg.get n).miss = min (r.miss + 1) 7
            ∧ (u.reg.get n).state = (if r.state = .tracking ∨ r.state = .coasting then
                if ((min (r.miss + 1) 7 : Nat) : Int) < s.par .missLimit then .coasting else .lost else r.state))
        ∧ (how = .synthesised → (u.reg.get n).f = r.f ∧ (u.reg.get n).miss = r.miss ∧ (u.reg.get n).state = r.state))

/-- R74, R75: a sample is clamped to the stretch limit and folded into F, which moves by the difference to the clamped sample
divided by 2^STRETCH_WEIGHT, truncated toward zero; it then lies between its old value and the clamped sample, both included, and
within the limit. A clamped sample sends MARK_NOTICE(stretch limit) with the sample before clamping. No other field of the lane,
and no other lane, changes. -/
def Obligations.StretchSampleFoldsIntoF : Prop :=
  ∀ (n : Lane) (m measured nominal : Int) (s : State), StretchLaw s →
    let lim := s.par .stretchLimit
    let raw := roundDiv ((measured - nominal) * 1000000) nominal
    let v := if raw < -lim then -lim else if lim < raw then lim else raw
    let f := (s.reg.get n).f + (v - (s.reg.get n).f).tdiv (2 ^ (s.par .stretchWeight).toNat)
    let t := takeSample n m measured nominal s
    t.reg = s.reg.set n { s.reg.get n with f := f }
      ∧ (min (s.reg.get n).f v ≤ f ∧ f ≤ max (s.reg.get n).f v) ∧ |f| ≤ lim
      ∧ (s.par .stretchWeight = 0 → f = v)
      ∧ t.link = (if v = raw then s.link else linkEvent s.link (.markNotice (.stretchLimit raw) n m))
      ∧ t.lists = s.lists ∧ t.cuts = s.cuts ∧ t.motion = s.motion ∧ t.eyes = s.eyes

/-- R71: a mark record that fits no open window of a following lane, or is no START in a SEEKING lane, or meets no EXPECTED
context there, is stray: MARK_NOTICE(stray) is sent and nothing else changes. So is one in the pitch window of a panel that has
been cut and has left its list (log entry 48). R72, R73: a miss raises the miss count, at most to 7; a TRACKING or COASTING lane
is COASTING below MISS_LIMIT, and at MISS_LIMIT it becomes LOST with its notice, every ACTIVE context of the lane receiving
UNREGISTERED and no other context changing. -/
def Obligations.StrayAndMissedMarks : Prop :=
  (∀ (n : Lane) (rec : MarkRecord) (s : State),
    ((s.reg.get n).state = .seeking ∧ (rec.kind ≠ .start ∨ s.headExpected n = none)
      ∨ following (s.reg.get n).state = true ∧ s.startEligible n rec = false
        ∧ (s.pitchEligible n rec = false ∨ ∀ q, (s.reg.get n).current = some q → s.ctx? n q = none)) →
    placeMark n rec s = { s with link := linkEvent s.link (.markNotice (.stray rec.kind) n rec.m) })
  ∧ (∀ (n : Lane) (x : Int) (s : State), (s.reg.get n).state = .tracking ∨ (s.reg.get n).state = .coasting →
      (s.reg.get n).miss ≤ 7 →
      let k := min ((s.reg.get n).miss + 1) 7
      ((k : Int) < s.par .missLimit →
        countMiss n x s = { s with reg := s.reg.set n { s.reg.get n with miss := k, state := .coasting } })
      ∧ (s.par .missLimit ≤ (k : Int) →
        countMiss n x s = { s with
          reg := s.reg.set n { s.reg.get n with miss := k, state := .lost }
          lists := s.lists.set n ((s.lists.get n).map fun c =>
            if c.state = .active then { c with notes := { c.notes with unregistered := true } } else c)
          link := linkEvent s.link (.markNotice .lost n x) }))

/-! ## Panels and zones -/

/-- R87: a context with any reject reason is REJECT; without one it is OUT_OF_TOL when a target and an actual differ by more than
CUT_TOL or it carries UNREGISTERED, and GOOD otherwise. R97: a zone gives its reason to a context exactly when the zone and the
span from start target to end target overlap, each starting below the other's end; nothing else of the context changes. R98: the
zones whose end the outfeed has passed leave the list, after each ACTIVE context whose start entry has left PROVISIONAL or the
queue and whose end entry is PROVISIONAL has been compared with each of them. R86: the reason INSPECTION reaches an EXPECTED or
ACTIVE panel alone, and TAG, on a tag that differs, an ACTIVE one alone, so that neither reaches a panel CUT or DELIVERING (R85,
R174; log entry 52); the hold TAG_MISMATCH is raised in whatever state it stands (R55; log entry 53). -/
def Obligations.PanelReasonsAndResult : Prop :=
  (∀ (tol : Int) (c : Ctx) (a b x y : Int), c.startTarget = some a → c.startActual = some x → c.endTarget = some b →
    c.endActual = some y →
    (panelResult tol c = .reject ↔
      c.reasons.inspection = true ∨ c.reasons.tag = true ∨ c.reasons.splice = true ∨ c.reasons.dwell = true
      ∨ c.reasons.operator = true ∨ c.reasons.host = true)
    ∧ (panelResult tol c = .outOfTol ↔
      c.reasons = Reasons.empty ∧ (tol < |a - x| ∨ tol < |b - y| ∨ c.notes.unregistered = true)))
  ∧ (∀ (z : Zone) (c : Ctx) (a b : Int), c.startTarget = some a → c.endTarget = some b →
    (a < z.hi ∧ z.lo < b → zoneOnCtx z c = { c with reasons := match z.cause with
      | .splice => { c.reasons with splice := true }
      | .dwell => { c.reasons with dwell := true }
      | .operator => { c.reasons with operator := true } })
    ∧ (z.hi ≤ a ∨ b ≤ z.lo → zoneOnCtx z c = c))
  ∧ (∀ s : State, ∃ f : Ctx → Ctx,
      let at_ := fun o => s.cuts.entries.find? (fun e => e.order == o)
      let openPanel := fun (c : Ctx) => c.state = .active
        ∧ (∀ o e, c.startEntry = some o → at_ o = some e → e.status ≠ .provisional)
        ∧ ∃ o e, c.endEntry = some o ∧ at_ o = some e ∧ e.status = .provisional
      removeZones s = { s with
          zones := s.zones.filter (fun z => decide (s.outPos ≤ z.hi))
          lists := ⟨s.lists.l0.map f, s.lists.l1.map f, s.lists.l2.map f, s.lists.l3.map f⟩ }
      ∧ ∀ c, (openPanel c → f c = (s.zones.filter fun z => decide (z.hi < s.outPos)).foldl (fun c z => zoneOnCtx z c) c)
          ∧ (¬openPanel c → f c = c))
  ∧ (∀ (n : Lane) (q : Source) (s : State), giveInspection n q s = { s with
      lists := s.lists.set n ((s.lists.get n).map fun c =>
        if c.src = q ∧ (c.state = .expected ∨ c.state = .active) then
          { c with reasons := { c.reasons with inspection := true } } else c) })
  ∧ (∀ (n : Lane) (p : Ctx) (rec : MarkRecord) (s : State),
      let differs := rec.coded = true ∧ p.coded = true ∧ ∃ t, rec.tag = some t ∧ t ≠ p.tag
      let lists := s.lists.set n ((s.lists.get n).map fun c =>
        if c.src = p.src ∧ c.state = .active then { c with reasons := { c.reasons with tag := true } } else c)
      (¬differs → compareTag n p rec s = s)
      ∧ (differs → s.par .tagPolicy ≠ 1 → compareTag n p rec s = { s with lists := lists })
      ∧ (differs → s.par .tagPolicy = 1 → compareTag n p rec s = raiseHold .tagMismatch { s with lists := lists }
          ∧ (compareTag n p rec s).lists = lists))

/-- R94: each new splice is reported FILM_PATH less SPLICE_LEADBACK beyond the infeed coordinate, with SPLICE_ZONE_LEN, one after
another. R94, R95: a dwell or splice of some length reported in a line that is not IDLE joins the Zone List with a start below the
lock point raised to it, or sends ZONE_NOTICE(late) with its start and end as computed when its end lies at or below the lock
point; in IDLE, or with length 0, nothing happens. R99: ZONE_ADD is refused with WRONG_STATE in IDLE, with BAD_VALUE for a length
outside 1 to 2,000,000 or an offset beyond 4,000,000 either way, and with LATE when its zone comes too late; otherwise the zone
joins the same way, and the reply is OK, or CLAMPED with a raised start, and carries the zone as placed, its start and end as
their low 32 bits (log entry 45). -/
def Obligations.ZonesJoinOrAreLate : Prop :=
  (∀ (lo len : Int) (cause : ZoneCause) (s : State),
    (s.motion.line = .idle ∨ len = 0 → reportZone lo len cause s = s)
    ∧ (s.motion.line ≠ .idle → len ≠ 0 →
      (lo + len ≤ s.outPos + s.par .lockDist →
        reportZone lo len cause s = { s with link := linkEvent s.link (.zoneNotice .late cause lo (lo + len)) })
      ∧ (s.outPos + s.par .lockDist < lo + len →
        reportZone lo len cause s = addPlaced ⟨max lo (s.outPos + s.par .lockDist), lo + len, cause⟩ s)))
  ∧ (∀ s : State, reportSplices 0 s = s
      ∧ ∀ k, reportSplices (k + 1) s = reportSplices k
          (reportZone (s.inPos + s.par .filmPath - s.par .spliceLeadback) (s.par .spliceZoneLen) .splice s))
  ∧ (∀ (tag : Byte) (offset length : Word32) (s : State), s.linkReady →
      let bad := length.toNat < 1 ∨ 2000000 < length.toNat ∨ offset.toInt < -4000000 ∨ 4000000 < offset.toInt
      let lock := s.outPos + s.par .lockDist
      let lo := s.inPos + offset.toInt
      let hi := lo + length.toNat
      (s.motion.line = .idle →
        exec (.zoneAdd tag offset length) s = .next { s with link := linkReplied s.link ⟨0x96, tag, [0x20]⟩ })
      ∧ (s.motion.line ≠ .idle → bad →
        exec (.zoneAdd tag offset length) s = .next { s with link := linkReplied s.link ⟨0x96, tag, [0x30, 0]⟩ })
      ∧ (s.motion.line ≠ .idle → ¬bad → hi ≤ lock →
        exec (.zoneAdd tag offset length) s = .next { s with link := linkReplied s.link ⟨0x96, tag, [0x22]⟩ })
      ∧ (s.motion.line ≠ .idle → ¬bad → lock < hi →
        ∃ t, exec (.zoneAdd tag offset length) s = .next t
          ∧ t = { s with zones := (addPlaced ⟨max lo lock, hi, .operator⟩ s).zones, link := t.link }
          ∧ Replied s t ⟨0x96, tag, (if lock ≤ lo then 0x00 else 0x01) :: (be32 (max lo lock) ++ be32 hi)⟩))

/-- R96: in a Zone List that keeps its laws, a placed zone that overlaps or touches none joins in order of start while fewer than
8 stand: the zones before it end below its start, those behind it start above its end. One that overlaps or touches some becomes
one zone with them, from the lowest start to the highest end, with the cause of the first of them. With 8 standing and none
touched, it becomes one with the zone of nearest start, the lower of two equally near, and ZONE_NOTICE(merged) is sent. -/
def Obligations.PlacedZoneMerges : Prop :=
  ∀ (z : Zone) (s : State), ZonesLaw s → z.lo < z.hi →
    let hit := s.zones.filter (fun a => decide (z.lo ≤ a.hi ∧ a.lo ≤ z.hi))
    (hit = [] → s.zones.length < 8 →
      ∃ before after, s.zones = before ++ after ∧ addPlaced z s = { s with zones := before ++ z :: after }
        ∧ (∀ b ∈ before, b.hi < z.lo) ∧ (∀ b ∈ after, z.hi < b.lo))
    ∧ (∀ a r, hit = a :: r →
      ∃ m before after, addPlaced z s = { s with zones := before ++ m :: after }
        ∧ s.zones = before ++ hit ++ after
        ∧ (∀ b ∈ before, b.hi < z.lo) ∧ (∀ b ∈ after, z.hi < b.lo)
        ∧ m.cause = a.cause ∧ m.lo = min z.lo a.lo
        ∧ m.hi = max z.hi ((a :: r).getLast (by simp)).hi)
    ∧ (hit = [] → s.zones.length = 8 →
      ∃ a ∈ s.zones,
        (∀ b ∈ s.zones, |a.lo - z.lo| < |b.lo - z.lo| ∨ |a.lo - z.lo| = |b.lo - z.lo| ∧ a.lo ≤ b.lo)
        ∧ addPlaced z s = { s with
            zones := s.zones.map (fun b => if b = a then ⟨min a.lo z.lo, max a.hi z.hi, a.cause⟩ else b)
            link := linkEvent s.link (.zoneNotice .merged a.cause (min a.lo z.lo) (max a.hi z.hi)) })

/-! ## The Cut Queue -/

/-- R103: a START report at m cuts at m + START_OFFSET: it creates a START entry for a panel with a lead, for a lane's first panel
and for one behind no panel with an END entry in the queue; with lead 0 it moves the PROVISIONAL END entry of the panel ahead,
which gains the panel it starts, and only joins one that has left PROVISIONAL. R104: an END report creates the END entry of an
ACTIVE panel, moves a PROVISIONAL one, and leaves a fixed one; for a panel already CUT it creates none (log entry 47); the panel's
end target becomes the lane's E (R64), from which its start expectation is formed anew. Every entry created or moved is placed and
its lock judged (R106, R107); a report adds at most one entry (R101). -/
def Obligations.ReportsPlaceEntries : Prop :=
  (∀ (n : Lane) (p : Ctx) (m : Int) (first : Bool) (s : State),
    let x := m + s.par .startOffset
    let gains := fun (parts : Lanes (Option LanePart)) =>
      parts.set n ((parts.get n).map fun a => { a with starts := some p.src })
    (0 < p.lead ∨ first = true ∨ s.sharedEntry n p.src = none →
      startReport n p m first s
        = judgeLocks (placeEntry ⟨x, (⟨none, none, none, none⟩ : Lanes (Option LanePart)).set n (some ⟨none, some p.src⟩),
              .provisional, 0, s.cuts.nextOrder⟩
            { s with cuts := { s.cuts with nextOrder := s.cuts.nextOrder + 1 } }))
    ∧ (∀ e, p.lead = 0 → first = false → s.sharedEntry n p.src = some e →
      (e.status = .provisional → startReport n p m first s
        = judgeLocks (placeEntry { e with coord := x, parts := gains e.parts }
            { s with cuts := { s.cuts with entries := s.cuts.entries.filter fun a => a.order != e.order } }))
      ∧ (e.status ≠ .provisional → startReport n p m first s = { s with
          cuts := { s.cuts with entries := s.cuts.entries.map fun a =>
            if a.order = e.order then { a with parts := gains a.parts } else a }
          lists := s.lists.set n ((s.lists.get n).map fun c =>
            if c.src = p.src then { c with startEntry := some e.order, startTarget := some e.coord } else c) })))
  ∧ (∀ (n : Lane) (q : Source) (s : State),
      (∀ before a c after, s.lists.get n = before ++ a :: c :: after → c.src = q →
        (∀ d ∈ (before ++ [a]).drop 1, d.src ≠ q) →
        s.sharedEntry n q = match a.endEntry with
          | some o => s.cuts.entries.find? (fun e => e.order == o)
          | none => none)
      ∧ ((∀ c ∈ (s.lists.get n).drop 1, c.src ≠ q) → s.sharedEntry n q = none))
  ∧ (∀ (n : Lane) (q : Source) (c : Ctx) (y : Int) (s : State), s.ctx? n q = some c →
      ∃ u, (endReport n q y s = match (u.ctx? n q).bind Ctx.endTarget with | some t => setEnd n t u | none => u)
        ∧ ((∀ o, c.endEntry = some o → s.cuts.entries.find? (fun e => e.order == o) = none) →
          (c.state = .active → u = judgeLocks (placeEntry
            ⟨y, (⟨none, none, none, none⟩ : Lanes (Option LanePart)).set n (some ⟨some q, none⟩), .provisional, 0, s.cuts.nextOrder⟩
            { s with cuts := { s.cuts with nextOrder := s.cuts.nextOrder + 1 } }))
          ∧ (c.state ≠ .active → u = s))
        ∧ (∀ o e, c.endEntry = some o → s.cuts.entries.find? (fun e => e.order == o) = some e →
          (e.status = .provisional → u = judgeLocks (placeEntry { e with coord := y }
            { s with cuts := { s.cuts with entries := s.cuts.entries.filter fun a => a.order != e.order } }))
          ∧ (e.status ≠ .provisional → u = s)))
  ∧ (∀ (n : Lane) (e : Int) (s : State), ((setEnd n e s).reg.get n).lastEnd = some e
      ∧ ∀ x p, (s.reg.get n).start = some x → s.ctx? n x.panel = some p →
        ((setEnd n e s).reg.get n).start = some ⟨x.panel, predict e p.lead (s.reg.get n).f⟩)
  ∧ (∀ (n : Lane) (p : Ctx) (m : Int) (first : Bool) (s : State),
      (startReport n p m first s).cuts.entries.length ≤ s.cuts.entries.length + 1
      ∧ (endReport n p.src m s).cuts.entries.length ≤ s.cuts.entries.length + 1)

/-- R107, R108: once the lock condition has been judged, no PROVISIONAL entry stands at or below the lock point: the head-most one
that does is locked, and then the next is looked for in the queue as that lock left it; without one nothing changes. In a queue
that keeps its laws, the lock of an entry leaves it LOCKED at its coordinate and merges into it every PROVISIONAL entry up to
MERGE_WIN beyond: in each lane it ends and starts the panels that either of them ended and started, and the merged entry's panels
refer to it and take its coordinate, with MERGED where that changed their target; every other entry stands as it was. R109, R97:
each panel it then ends takes its lane's F and the reasons of the zones its span overlaps. R36: with the Reader WAITING and no
EXPECTED context in a lane in which it ends a panel, PLAN_STARVED is raised. -/
def Obligations.EntriesLockAndMerge : Prop :=
  (∀ s : State, (judgeLocks s).lockPoint = s.lockPoint
    ∧ (∀ e ∈ (judgeLocks s).cuts.entries, e.status = .provisional → s.lockPoint < e.coord)
    ∧ ((∀ e ∈ s.cuts.entries, e.status = .provisional → s.lockPoint < e.coord) → judgeLocks s = s)
    ∧ (∀ (ahead behind : List Entry) (x : Entry), s.cuts.entries = ahead ++ x :: behind →
        x.status = .provisional → x.coord ≤ s.lockPoint →
        (∀ e ∈ ahead, e.status = .provisional → s.lockPoint < e.coord) → judgeLocks s = judgeLocks (lockEntry x s)))
  ∧ (∀ (x : Entry) (s : State), QueueLaw s → x ∈ s.cuts.entries → x.status = .provisional →
      let t := lockEntry x s
      let join := fun (a b : Option LanePart) => match a, b with
        | none, b => b
        | a, none => a
        | some a, some b => some ⟨a.ends <|> b.ends, a.starts <|> b.starts⟩
      let goes := fun (e : Entry) =>
        decide (e.order ≠ x.order ∧ e.status = .provisional ∧ e.coord ≤ x.coord + s.par .mergeWin)
      let gone := s.cuts.entries.filter goes
      let parts := gone.foldl (fun (p : Lanes (Option LanePart)) (e : Entry) =>
        ⟨join p.l0 e.parts.l0, join p.l1 e.parts.l1, join p.l2 e.parts.l2, join p.l3 e.parts.l3⟩) x.parts
      let starved := s.reader = .waiting
        ∧ ∃ n p, parts.get n = some p ∧ p.ends ≠ none ∧ ∀ c ∈ s.lists.get n, c.state ≠ .expected
      t.cuts = { s.cuts with entries := (s.cuts.entries.filter fun e => !goes e).map fun e =>
          if e.order = x.order then { x with parts := parts, status := .locked } else e }
      ∧ (∀ e ∈ gone, ∀ n p q c, e.parts.get n = some p → s.ctx? n q = some c →
          (p.starts = some q → ∃ c', t.ctx? n q = some c' ∧ c'.startEntry = some x.order ∧ c'.startTarget = some x.coord
            ∧ (e.coord ≠ x.coord → c'.notes.merged = true))
          ∧ (p.ends = some q → ∃ c', t.ctx? n q = some c' ∧ c'.endEntry = some x.order ∧ c'.endTarget = some x.coord
            ∧ (e.coord ≠ x.coord → c'.notes.merged = true)))
      ∧ (∀ n p q c, parts.get n = some p → p.ends = some q → s.ctx? n q = some c →
          ∃ c', t.ctx? n q = some c' ∧ c'.fEndLock = some (s.reg.get n).f
            ∧ ∀ a b, c'.startTarget = some a → c'.endTarget = some b →
              ∀ z ∈ s.zones, a < z.hi → z.lo < b → match z.cause with
                | .splice => c'.reasons.splice = true
                | .dwell => c'.reasons.dwell = true
                | .operator => c'.reasons.operator = true)
      ∧ (starved → s.motion.line ≠ .idle → t.motion.holds.planStarved = true
          ∧ (s.motion.line = .running → t.motion.line = .holding))
      ∧ (¬starved ∨ s.motion.line = .idle → t.motion = s.motion))

/-- R102, R106: in a queue that keeps its laws, a PROVISIONAL entry that is placed stands one above the last entry that has left
PROVISIONAL when it would lie at or below it, and at its coordinate otherwise; it stands behind every fixed entry and among the
PROVISIONAL ones in order of coordinate, lowest lane and order number, and the entries that stood in the queue stand unchanged and
in their order. R83, R105: the panels it starts and ends refer to it and take its coordinate as their target, with MERGED when it
was raised; the current panel's end target becomes E. -/
def Obligations.PlacedEntryStandsBehindFixed : Prop :=
  ∀ (e : Entry) (s : State), QueueLaw s → e.status = .provisional → (∀ a ∈ s.cuts.entries, a.order ≠ e.order) →
    let t := placeEntry e s
    let ahead := fun (a b : Entry) => a.coord < b.coord
      ∨ a.coord = b.coord ∧ (lowestLane a < lowestLane b ∨ lowestLane a = lowestLane b ∧ a.order < b.order)
    ∃ before after x, s.cuts.entries = before ++ after
      ∧ t.cuts.entries = before ++ { e with coord := x } :: after
      ∧ (∀ a ∈ before, ahead a { e with coord := x })
      ∧ (∀ a ∈ after, a.status = .provisional ∧ ahead { e with coord := x } a)
      ∧ (∀ a ∈ s.cuts.entries, a.status ≠ .provisional → a.coord < x)
      ∧ ((∀ a ∈ s.cuts.entries, a.status ≠ .provisional → a.coord < e.coord) → x = e.coord)
      ∧ ((∃ a ∈ s.cuts.entries, a.status ≠ .provisional ∧ e.coord ≤ a.coord) →
          ∃ a ∈ s.cuts.entries, a.status ≠ .provisional ∧ x = a.coord + 1)
      ∧ (∀ n p q c, e.parts.get n = some p → s.ctx? n q = some c →
          (p.starts = some q → ∃ c', t.ctx? n q = some c' ∧ c'.startEntry = some e.order ∧ c'.startTarget = some x
            ∧ (x ≠ e.coord → c'.notes.merged = true))
          ∧ (p.ends = some q → ∃ c', t.ctx? n q = some c' ∧ c'.endEntry = some e.order ∧ c'.endTarget = some x
            ∧ (x ≠ e.coord → c'.notes.merged = true)
            ∧ ((s.reg.get n).current = some q → (t.reg.get n).lastEnd = some x)))

/-! ## The Knife Sequencer -/

/-- R113, R115: IN_POSITION for an INDEXING head. A stop short by more than CUT_TOL with creep attempts left makes a further
STOP_AT over the missing distance, with the attempts raised, the timer started again and CREPT on each panel of the entry. Any
other stop makes the entry POSITIONED with the timer stopped, and it is cut at once when the line is RUNNING and in every lane in
which it ends a panel the table is free and not inhibited. R121, R148: with no INDEXING head it changes the outfeed motion state
alone: INDEXED, BOUNDED and HALTING become STOPPED, FREE and STOPPED stand; what every command is followed by (`settle`) comes
after. -/
def Obligations.InPositionCreepsOrPositions : Prop :=
  (∀ (e : Entry) (r : List Entry) (s : State), s.cuts.entries = e :: r → e.status = .indexing →
    (s.outPos < e.coord - s.par .cutTol → (e.creeps : Int) < s.par .creepMax →
      ∃ t, exec .inPosition s = .next t
        ∧ t.cuts = { s.cuts with entries := { e with creeps := e.creeps + 1 } :: r,
                                 indexTimer := some (s.par .indexTimeout).toNat }
        ∧ t.motion.drive = some (.stopAt (e.coord - s.outPos)) ∧ t.motion.outfeed = .indexed
        ∧ (∀ n p q c, e.parts.get n = some p → (p.ends = some q ∨ p.starts = some q) → t.ctx? n q = some c →
            c.notes.crept = true)
        ∧ MotionOnly s t)
    ∧ (e.coord - s.par .cutTol ≤ s.outPos ∨ s.par .creepMax ≤ (e.creeps : Int) → s.motion.outfeed ≠ .free →
      ∃ t, exec .inPosition s = .next t ∧ t.motion.outfeed = .stopped
        ∧ t.cuts = (if s.motion.line = .running ∧ s.lanesClear e = true then
            { s.cuts with entries := { e with status := .cutting } :: r, indexTimer := none,
                          cutTimer := some (s.par .cutTimeout).toNat, knifeStart := true,
                          knifeLanes := ⟨e.parts.l0.isSome, e.parts.l1.isSome, e.parts.l2.isSome, e.parts.l3.isSome⟩ }
          else { s.cuts with entries := { e with status := .positioned } :: r, indexTimer := none })
        ∧ MotionOnly s t))
  ∧ (∀ s : State, (∀ e r, s.cuts.entries = e :: r → e.status ≠ .indexing) →
      exec .inPosition s = .next (startTx (settle s { s with motion := { s.motion with
        outfeed := if s.motion.outfeed = .free then .free else .stopped } })))

/-- R127, R148, R150: the judgement of the outfeed. With an executing head nothing is sent. Under the starve flag an outfeed FREE
or BOUNDED gets HALT. R112: a LOCKED head is indexed when the guard permits it, its coordinate at or below the guard stop point,
or the outfeed at or beyond both: STOP_AT over the distance to it, 0 at or beyond it, the index timer at INDEX_TIMEOUT, INDEXING.
Otherwise, under a guard, an outfeed short of its stop point gets STOP_AT to it unless it is BOUNDED to it, and one at or beyond
it HALT when FREE, or BOUNDED to another point (log entry 43); without a guard it gets RUN(OUT_SPEED) unless it is FREE. It is
judged in RUNNING when the line enters RUNNING, when starve flag, head, head status or guard change, and when the outfeed comes to
STOPPED (log entry 40). R120, R142: in HOLDING a LOCKED head is indexed so at the entry and when the head changes, while the
outfeed is in motion; otherwise an outfeed FREE or BOUNDED gets HALT at the entry; a HALTING one is no exception (log entry 30).
What every command is followed by is the trigger, these judgements, the arbiter, and these again for what the arbiter brings (log
entries 4, 5). -/
def Obligations.OutfeedIsJudged : Prop :=
  (∀ s : State,
    let x := s.outPos
    let point : Option Int := match s.beam.changeover with
      | .moving _ g | .failed _ g => some (g - s.par .beamDist)
      | .none | .pending _ => none
    let sent := fun (d : DriveCommand) (o : Outfeed) => { s with motion := { s.motion with drive := some d, outfeed := o } }
    let indexed := fun (e : Entry) (r : List Entry) => { s with
      motion := { s.motion with drive := some (.stopAt (max 0 (e.coord - x))), outfeed := .indexed }
      cuts := { s.cuts with
        entries := { e with status := .indexing } :: r, indexTimer := some (s.par .indexTimeout).toNat } }
    let permitted := fun (e : Entry) => e.status = .locked ∧ ∀ p, point = some p → e.coord ≤ p ∨ p ≤ x ∧ e.coord ≤ x
    let runs := s.motion.outfeed = .free ∨ ∃ p, s.motion.outfeed = .bounded p
    let executes := ∃ e r, s.cuts.entries = e :: r
      ∧ (e.status = .indexing ∨ e.status = .positioned ∨ e.status = .cutting ∨ e.status = .interrupted)
    let waits := ∀ e r, s.cuts.entries = e :: r → ¬permitted e
    (executes → judgeOutfeed s = s)
    ∧ (¬executes → s.motion.starve = true →
        (runs → judgeOutfeed s = sent .halt .halting) ∧ (¬runs → judgeOutfeed s = s))
    ∧ (∀ e r, s.cuts.entries = e :: r → permitted e → s.motion.starve = false → judgeOutfeed s = indexed e r)
    ∧ (∀ p, ¬executes → waits → s.motion.starve = false → point = some p →
        (x < p → s.motion.outfeed ≠ .bounded p → judgeOutfeed s = sent (.stopAt (p - x)) (.bounded p))
        ∧ (s.motion.outfeed = .bounded p → judgeOutfeed s = s)
        ∧ (p ≤ x → runs → s.motion.outfeed ≠ .bounded p → judgeOutfeed s = sent .halt .halting)
        ∧ (p ≤ x → ¬runs → judgeOutfeed s = s))
    ∧ (¬executes → waits → s.motion.starve = false → point = none →
        judgeOutfeed s = if s.motion.outfeed = .free then s else sent (.run (s.par .outSpeed)) .free)
    ∧ (∀ entered changed : Bool,
        (∀ e r, s.cuts.entries = e :: r → permitted e → s.motion.starve = false → s.motion.outfeed ≠ .stopped →
          entered = true ∨ changed = true → judgeHolding entered changed s = indexed e r)
        ∧ (waits ∨ s.motion.starve = true ∨ s.motion.outfeed = .stopped ∨ entered = false ∧ changed = false →
          (entered = true ∧ runs → judgeHolding entered changed s = sent .halt .halting)
          ∧ (¬(entered = true ∧ runs) → judgeHolding entered changed s = s))))
  ∧ (∀ before s : State,
      let head := fun (t : State) => t.cuts.entries.head?.map fun e => (e.order, e.status)
      let event := before.motion.line ≠ .running ∨ before.motion.starve ≠ s.motion.starve ∨ head before ≠ head s
        ∨ before.guardAt ≠ s.guardAt ∨ before.motion.outfeed ≠ .stopped ∧ s.motion.outfeed = .stopped
      (s.motion.line = .running → (event → reactMotion before s = judgeOutfeed s) ∧ (¬event → reactMotion before s = s))
      ∧ (s.motion.line = .holding → reactMotion before s
          = endHolding (judgeHolding (decide (before.motion.line ≠ .holding)) (decide (head before ≠ head s)) s))
      ∧ (s.motion.line ≠ .running → s.motion.line ≠ .holding → reactMotion before s = s)
      ∧ settle before s = (let u := reactMotion before (judgeTrigger s)
          runArbiter (reactMotion u (runArbiter u))))

/-- R84, R116: END for a CUTTING head is taken in every line state. The cut timer stops and the start line drops, the entry leaves
the queue, and each panel it starts and each panel it ends takes the outfeed coordinate as its actual; an ended one becomes CUT,
or, in a lane whose effective handoff mode is NONE, is DONE at once and leaves its list; PAUSE_AFTER of an ended panel raises
PLAN_PAUSE. R172, R174, R177: in another mode its handoff begins. Its lane's channel takes it: PULSING with DELIVER, REJECT for a
panel with any reject reason, the settle delay and the handoff timer running, in PULSE; OFFERED, with the same lines and the
handoff timer, without a settle delay; SETTLING with the delay running otherwise. In ganged mode lane 0's channel takes it if it
is IDLE with no context waiting, and otherwise it joins the wait list at the tail; panels cut together join in lane order. No
other channel changes. The contents of the lists are stated where no STALLED Reader can add to them meanwhile. What every command
is followed by (`settleAll`) comes after. -/
def Obligations.TraverseEndRecordsCut : Prop :=
  (∀ (e : Entry) (r : List Entry) (s : State), QueueLaw s → s.cuts.entries = e :: r → e.status = .cutting →
    ∃ u, exec .traverseEnd s = .next (startTx (settleAll s u))
      ∧ u.cuts = { s.cuts with entries := r, cutTimer := none, knifeStart := false, knifeLanes := ⟨false, false, false, false⟩ }
      ∧ (s.motion.line ≠ .idle → s.pauses e = true → u.motion.holds.planPause = true)
      ∧ u.web = s.web ∧ u.params = s.params ∧ u.pins = s.pins ∧ u.zones = s.zones ∧ u.pending = s.pending
      ∧ ((∀ n, s.effMode n ≠ 0) ∨ (∀ p i k, s.reader ≠ .stalled p i k) → ∀ n p, e.parts.get n = some p →
          (∀ q c, p.starts = some q → u.ctx? n q = some c → c.startActual = some s.outPos ∧ c.startEntry = none)
          ∧ (∀ q c, p.ends = some q → u.ctx? n q = some c →
              c.endActual = some s.outPos ∧ c.endEntry = none ∧ (c.state = .cut ∨ c.state = .delivering))
          ∧ (∀ q, p.ends = some q → s.effMode n = 0 → u.ctx? n q = none))
      ∧ let begun := fun (ch n : Lane) (q : Source) (reject : Bool) =>
          let code := (s.par (match ch with
            | .lane0 => .handoffTd0 | .lane1 => .handoffTd1 | .lane2 => .handoffTd2 | .lane3 => .handoffTd3)).toNat
          let td := 10 ^ (code / 16) * (code % 16)
          let ends := some (s.par .handoffTimeout).toNat
          if s.effMode n = 1 then (⟨.pulsing, some (n, q), some td, ends, reject⟩ : Channel)
          else if td = 0 then ⟨.offered, some (n, q), none, ends, reject⟩
          else ⟨.settling, some (n, q), some td, none, false⟩
        let ended := laneList.filterMap fun n => ((e.parts.get n).bind LanePart.ends).map fun q => (n, q)
        (s.par .handoffGanged ≠ 1 → u.hand.waiting = s.hand.waiting ∧ ∀ n,
          (∀ q c, (n, q) ∈ ended → s.effMode n ≠ 0 → s.ctx? n q = some c →
              u.hand.channels.get n = begun n n q c.reasons.any)
          ∧ ((∀ q, (n, q) ∉ ended) ∨ s.effMode n = 0 → u.hand.channels.get n = s.hand.channels.get n))
        ∧ (s.par .handoffGanged = 1 → s.effMode .lane0 = 0 ∨ ended = [] → u.hand = s.hand)
        ∧ (s.par .handoffGanged = 1 → s.effMode .lane0 ≠ 0 →
          ((s.hand.channels.get .lane0).state ≠ .idle ∨ s.hand.waiting ≠ [] →
            u.hand = { s.hand with waiting := s.hand.waiting ++ ended })
          ∧ (∀ n q c w, (s.hand.channels.get .lane0).state = .idle → s.hand.waiting = [] → ended = (n, q) :: w →
              s.ctx? n q = some c →
              u.hand = ⟨s.hand.channels.set .lane0 (begun .lane0 n q c.reasons.any), w⟩)))
  ∧ (∀ (x : Int) (parts : Lanes (Option LanePart)) (n : Lane) (p : LanePart) (q : Source) (s : State),
      parts.get n = some p → p.ends = some q → s.effMode n = 0 →
      recordCut x parts n s = makeDone n q { s with lists := s.lists.set n ((s.lists.get n).map fun c =>
        let c := if p.starts = some c.src then { c with startActual := some x, startEntry := none } else c
        if c.src = q then { c with endActual := some x, endEntry := none, state := .cut } else c) })

/-- R2, R121, R143, R156: a change of both quadrature signals together, an END while no entry is CUTTING, a trip input that keeps
its level, and an answer or a reply timeout with no transaction in flight change nothing; an input that becomes deasserted changes
its level alone (log entry 6). An expiry named for a timer that does not run changes nothing either (log entry 8; R114, R117,
R130, R147, R172, R175). -/
def Obligations.UnaskedEventsChangeNothing : Prop :=
  ∀ s : State,
    (∀ e, exec (.quadratureDoubleChange e) s = .next s)
    ∧ (∀ i, exec (.tripInputAsserted i false) s = .next (startTx { s with pins := s.pins.setInput i false }))
    ∧ (∀ i, s.pins.input i = true → exec (.tripInputAsserted i true) s = .next (startTx s))
    ∧ (s.station.inFlight = none → exec .replyTimeout s = .next (runLink s)
        ∧ ∀ a, exec (.stationAnswer a) s = .next (runLink s)) ∧
    ((∀ e r, s.cuts.entries = e :: r → e.status ≠ .cutting) → exec .traverseEnd s = .next (startTx s))
    ∧ (s.cuts.indexTimer = none → exec .indexTimeout s = .next (startTx s))
    ∧ (s.cuts.cutTimer = none → exec .cutTimeout s = .next (startTx s))
    ∧ (s.beam.timer = none → exec .beamTimeout s = .next (startTx s))
    ∧ (s.dwellRunning = false → exec .dwellExpiry s = .next (startTx s))
    ∧ (∀ ch, (s.hand.channels.get ch).delay = none → exec (.delayTimerExpiry ch) s = .next (startTx s))
    ∧ (∀ ch, (s.hand.channels.get ch).timer = none → exec (.handoffTimeout ch) s = .next (startTx s))

/-! ## Line motion -/

/-- R114, R117, R118, R143, R144: an expiry of the index or cut timer, the E-stop chain, a dancer limit and the drive FAULT trip a
line that is neither IDLE nor TRIPPED: the cause stands in the set and first, HALT is sent and the outfeed is STOPPED, the
commanded speed is 0, with its speed action behind the waiting ones when it was not (R146) and there is room, and the head entry
and its timers are as R118 gives, the knife lines dropped with a CUTTING head (log entry 49). A TRIPPED line takes the cause into
its set alone; an IDLE line ignores it. -/
def Obligations.TripCausesTripTheLine : Prop :=
  ∀ (i : Instr) (c : TripCause) (s : State), s.tripRaised i = some c →
    ∃ t, exec i s = .next t ∧ MotionOnly s t
      ∧ (s.motion.line = .idle → t.motion.line = .idle ∧ t.motion.trips = s.motion.trips ∧ t.cuts = s.cuts)
      ∧ (s.motion.line = .tripped → t.motion.line = .tripped ∧ t.motion.trips = s.motion.trips.add c
          ∧ t.motion.firstCause = s.motion.firstCause ∧ t.motion.drive = s.motion.drive ∧ t.cuts = s.cuts)
      ∧ (s.motion.line ≠ .idle → s.motion.line ≠ .tripped →
          t.motion.line = .tripped ∧ t.motion.trips = s.motion.trips.add c ∧ t.motion.firstCause = some c
          ∧ t.motion.drive = some .halt ∧ t.motion.outfeed = .stopped ∧ t.motion.speed = 0
          ∧ t.motion.jobEnd = s.motion.jobEnd ∧ t.cuts = cutsAtTrip s.cuts
          ∧ (s.station.inFlight ≠ none → s.motion.speed ≠ 0 → s.station.actions.length < 16 →
              ∃ more, t.station.actions = s.station.actions ++ .speed 0 :: more))

/-- R94, R147: a dwell expiry while the dwell timer runs commands the nip open, with a nip-open action behind the waiting ones
when there is room, and reports a dwell zone of DWELL_ZONE_LEN about the infeed coordinate. -/
def Obligations.DwellExpiryOpensNip : Prop :=
  ∀ s : State, s.dwellRunning = true →
    ∃ t, exec .dwellExpiry s = .next t ∧ t.motion.nip = .opened
      ∧ t.zones = (reportZone (s.inPos - (s.par .dwellZoneLen).tdiv 2) (s.par .dwellZoneLen) .dwell s).zones
      ∧ (s.station.inFlight.isSome = true → s.station.actions.length < 16 →
          ∃ more, t.station.actions = s.station.actions ++ .nip .opened :: more)
      ∧ t.web = s.web ∧ t.params = s.params ∧ t.pins = s.pins ∧ t.store = s.store ∧ t.reader = s.reader
      ∧ t.lists = s.lists ∧ t.hand = s.hand ∧ t.pending = s.pending

/-- R137, R141, R142: HOLD is refused with WRONG_STATE in IDLE and READY. In the other states the reply is OK and HOST joins the
hold set; a RUNNING line enters HOLDING with the commanded speed 0, its action behind the waiting ones (R146), and may have come
to HELD at once; HELD and TRIPPED stay.
R139: RECOVER outside TRIPPED is refused with WRONG_STATE, and with CAUSE_ACTIVE while the E-stop chain is open or a dancer
limit asserted. Otherwise the trip set and the first cause are cleared and the reply is OK; the line is HELD with the hold set and
the Cut Queue kept, or with the job-end flag set HOLDING, whence its stop may have completed to IDLE. -/
def Obligations.HoldAndRecoverChangeTheSets : Prop :=
  (∀ (tag : Byte) (s : State), s.linkReady →
     (s.motion.line = .idle ∨ s.motion.line = .ready →
       exec (.hold tag) s = .next { s with link := linkReplied s.link ⟨0x85, tag, [0x20]⟩ })
     ∧ (s.motion.line ≠ .idle → s.motion.line ≠ .ready →
       ∃ t, exec (.hold tag) s = .next t ∧ Replied s t ⟨0x85, tag, [0x00]⟩ ∧ MotionOnly s t
         ∧ (t.motion.line ≠ .idle → t.motion.holds.host = true)
         ∧ (s.motion.line = .running → t.motion.speed = 0
             ∧ (t.motion.line = .holding ∨ t.motion.line = .held ∨ s.motion.jobEnd = true ∧ t.motion.line = .idle)
             ∧ (s.station.inFlight ≠ none → s.motion.speed ≠ 0 → s.station.actions.length < 16 →
                 ∃ more, t.station.actions = s.station.actions ++ .speed 0 :: more))
         ∧ (s.motion.line = .held ∨ s.motion.line = .tripped → t.motion.line = s.motion.line)))
  ∧ (∀ (tag : Byte) (s : State), s.linkReady →
     let cause := s.pins.estopOpen = true ∨ s.pins.dancerTop = true ∨ s.pins.dancerBottom = true
     (s.motion.line ≠ .tripped → exec (.recover tag) s = .next { s with link := linkReplied s.link ⟨0x87, tag, [0x20]⟩ })
     ∧ (s.motion.line = .tripped → cause →
         exec (.recover tag) s = .next { s with link := linkReplied s.link ⟨0x87, tag, [0x23]⟩ })
     ∧ (s.motion.line = .tripped → ¬cause →
         ∃ t, exec (.recover tag) s = .next t ∧ Replied s t ⟨0x87, tag, [0x00]⟩ ∧ MotionOnly s t
           ∧ t.motion.trips = TripSet.empty ∧ t.motion.firstCause = none
           ∧ (s.motion.jobEnd = false → t.motion.line = .held ∧ t.cuts = s.cuts
               ∧ (∀ r, s.motion.holds.has r = true → t.motion.holds.has r = true))
           ∧ (s.motion.jobEnd = true → t.motion.line = .holding ∨ t.motion.line = .idle)))

/-- R152: the job-end signal sets the flag; a line READY, RUNNING or HELD enters HOLDING by it, with LINE_STATE(state) and the
commanded speed 0, its action behind the waiting ones or, where 16 wait, STATION raised. An action that so fails without being
sent, here and at job end, feeds no watchdog, so that the station link stands as it was (log entry 17). R142, R152: HOLDING ends
when the outfeed is STOPPED, no entry is CUTTING, the commanded speed is 0 and the LAMINATOR is not PRESENT or reports speed 0 in
its last answer: the line is HELD, with LINE_STATE(state); with the job-end flag set it is IDLE, the nip commanded OPEN with its
action, the sets, the first cause and the flag cleared, with LINE_STATE(job end), every eye OFF (R58) and every lane UNUSED with F
kept (R79). Without the three conditions nothing changes. An IN_POSITION that stops the outfeed of a HOLDING line under the other
two conditions so brings the line to HELD, or to IDLE. -/
def Obligations.HoldingEndsInHeldOrIdle : Prop :=
  (∀ s : State,
    let stopped := s.motion.outfeed = .stopped ∧ (∀ e ∈ s.cuts.entries, e.status ≠ .cutting) ∧ s.motion.speed = 0
      ∧ (s.station.records.laminator.state ≠ .present ∨ ∃ a, s.station.laminator = some a ∧ a.speed = 0)
    let t := endHolding s
    (¬stopped → t = s)
    ∧ (stopped → s.motion.jobEnd = false → t = { s with
        motion := { s.motion with line := .held }
        link := linkEvent s.link (.lineState .state .held s.motion.holds s.motion.trips s.motion.firstCause) })
    ∧ (stopped → s.motion.jobEnd = true →
        t.motion = { s.motion with line := .idle, holds := HoldSet.empty, trips := TripSet.empty, firstCause := none,
                                   jobEnd := false, nip := .opened }
        ∧ (s.station.actions.length < 16 →
            t.station = { s.station with actions := s.station.actions ++ [.nip .opened] }
            ∧ t.link = linkEvent s.link (.lineState .jobEnd .idle HoldSet.empty TripSet.empty none))
        ∧ (16 ≤ s.station.actions.length → t.station = s.station)
        ∧ (∀ n, (t.eyes.get n).decode = .off
            ∧ ((s.eyes.get n).decode ≠ .off → (t.eyes.get n).startInterval = none ∧ (t.eyes.get n).pitchInterval = none)
            ∧ t.reg.get n = ⟨.unused, none, (s.reg.get n).f, 0, none, none, none, none, none⟩)
        ∧ t.web = s.web ∧ t.params = s.params ∧ t.pins = s.pins ∧ t.store = s.store ∧ t.reader = s.reader
        ∧ t.lists = s.lists ∧ t.zones = s.zones ∧ t.cuts = s.cuts ∧ t.beam = s.beam ∧ t.hand = s.hand
        ∧ t.pending = s.pending))
  ∧ (∀ s : State, s.motion.line = .holding → s.motion.outfeed ≠ .free →
      (∀ e ∈ s.cuts.entries, e.status ≠ .cutting ∧ e.status ≠ .indexing) → s.motion.speed = 0 →
      (s.station.records.laminator.state ≠ .present ∨ ∃ a, s.station.laminator = some a ∧ a.speed = 0) →
      ∃ t, exec .inPosition s = .next t ∧ t.motion.line = if s.motion.jobEnd = true then .idle else .held)
  ∧ (∀ s : State,
      let t := signalJobEnd s
      (s.motion.line = .idle → t = s)
      ∧ (s.motion.line = .holding ∨ s.motion.line = .tripped → t = { s with motion := { s.motion with jobEnd := true } })
      ∧ (s.motion.line = .ready ∨ s.motion.line = .running ∨ s.motion.line = .held →
        let motion := { s.motion with line := .holding, jobEnd := true, speed := 0 }
        (s.motion.speed = 0 ∨ s.station.actions.length < 16 → t = { s with
            motion := motion
            station := { s.station with
              actions := s.station.actions ++ if s.motion.speed = 0 then [] else [.speed 0] }
            link := linkEvent s.link (.lineState .state .holding s.motion.holds s.motion.trips s.motion.firstCause) })
        ∧ (s.motion.speed ≠ 0 → 16 ≤ s.station.actions.length →
            t.motion = { motion with holds := s.motion.holds.add .station } ∧ t.station = s.station)))

/-- R136, R138: RUN outside READY and RESUME outside HELD are refused with WRONG_STATE; in their state they are refused with
NOT_READY unless the LAMINATOR is PRESENT with heat ready and no fault in its last answer and, for RUN, the BEAM is PRESENT. A
refused one changes nothing. R143: an accepted RUN or RESUME is answered OK and takes the line into RUNNING with the hold set
empty and the commanded speed that of its band, with its nip and speed actions behind the waiting ones (R146); an input asserted
then trips it, and a LAMINATOR or BEAM action that fails at once holds it with STATION or BEAM. R119: in a line that is RUNNING
then, an INTERRUPTED head is cut again, CUTTING with the cut timer and the knife lines and RECUT on each of its panels, and a
POSITIONED head is cut if its lanes are clear. R131: a FAILED changeover is MOVING again with its guard kept and a new positions
action, with the number of the move (log entry 11), behind the waiting ones. The effects come in the model's order (log entry 19):
speed with the nip and speed actions, head entry, positions action, and the inputs last. -/
def Obligations.RunAndResumeEnterRunning : Prop :=
  (∀ (tag : Byte) (s : State), s.linkReady →
    let ready := s.station.records.laminator.state = .present
      ∧ ∃ a, s.station.laminator = some a ∧ a.heatReady = true ∧ a.fault = false
    (s.motion.line ≠ .ready → exec (.run tag) s = .next { s with link := linkReplied s.link ⟨0x84, tag, [0x20]⟩ })
    ∧ (s.motion.line = .ready → ¬(ready ∧ s.station.records.beam.state = .present) →
        exec (.run tag) s = .next { s with link := linkReplied s.link ⟨0x84, tag, [0x24]⟩ })
    ∧ (s.motion.line ≠ .held → exec (.resume tag) s = .next { s with link := linkReplied s.link ⟨0x86, tag, [0x20]⟩ })
    ∧ (s.motion.line = .held → ¬ready →
        exec (.resume tag) s = .next { s with link := linkReplied s.link ⟨0x86, tag, [0x24]⟩ }))
  ∧ (∀ (i : Instr) (k tag : Byte) (s : State), s.linkReady →
    (i = .run tag ∧ k = 0x84 ∧ s.motion.line = .ready ∧ s.station.records.beam.state = .present
      ∨ i = .resume tag ∧ k = 0x86 ∧ s.motion.line = .held) →
    s.station.records.laminator.state = .present →
    (∃ a, s.station.laminator = some a ∧ a.heatReady = true ∧ a.fault = false) → s.motion.jobEnd = false →
    ∃ t, exec i s = .next t ∧ Replied s t ⟨k, tag, [0x00]⟩
      ∧ t.web = s.web ∧ t.params = s.params ∧ t.pins = s.pins ∧ t.store = s.store ∧ t.reader = s.reader ∧ t.zones = s.zones
      ∧ t.hand = s.hand ∧ t.pending = s.pending
      ∧ ((∀ e r, s.cuts.entries = e :: r → e.status ≠ .interrupted) → t.lists = s.lists)
      ∧ (t.motion.line = .running →
        let cutting := fun (e : Entry) (r : List Entry) => { s.cuts with
          entries := { e with status := .cutting } :: r, cutTimer := some (s.par .cutTimeout).toNat, knifeStart := true,
          knifeLanes := ⟨e.parts.l0.isSome, e.parts.l1.isSome, e.parts.l2.isSome, e.parts.l3.isSome⟩ }
        (∀ e r, s.cuts.entries = e :: r → e.status = .interrupted → t.cuts = cutting e r
          ∧ ∀ n p q c, e.parts.get n = some p → (p.ends = some q ∨ p.starts = some q) → t.ctx? n q = some c →
            c.notes.recut = true)
        ∧ (∀ e r, s.cuts.entries = e :: r → e.status = .positioned →
            t.cuts = if s.lanesClear e = true then cutting e r else s.cuts)
        ∧ (s.station.inFlight ≠ none → s.station.actions.length ≤ 13 →
            let v := t.motion.speed
            let raised := (if v ≠ s.motion.speed ∧ v ≠ 0 ∧ s.motion.nip = .opened then [Action.nip .closed] else [])
              ++ if v ≠ s.motion.speed then [.speed v] else []
            ∃ more, t.station.actions = s.station.actions ++ raised ++ more)
        ∧ (∀ l g, s.beam.changeover = .failed l g → s.station.inFlight ≠ none → s.station.actions.length ≤ 13 →
            t.beam.changeover = .moving l g ∧ t.beam.timer = none
            ∧ ∃ before, t.station.actions = before ++ [.positions t.beam.move l]))
      ∧ (s.tripInputStands → t.motion.line = .tripped)
      ∧ (¬s.tripInputStands →
          t.motion.line = .running ∧ t.motion.holds = HoldSet.empty ∧ t.motion.speed = t.wantedSpeed
          ∨ (t.motion.line = .holding ∨ t.motion.line = .held)
            ∧ (t.motion.holds.station = true ∨ t.motion.holds.beam = true)))

/-- R15, R38, R58, R79, R92, R100, R122, R133, R140, R178: LINE_RESET in any line state is answered OK, halts the outfeed and
clears the job's state in every block, with LINE_STATE(state) queued; parameters, pins, station records and statuses stand. That
the knife's lane lines drop with its start line is the model's choice (log entry 49). R157, R165: the actions of speed 0 and nip
open take the place of the waiting ones; on a free link the first is sent, its index width as one byte (log entry 50), or, with
the LAMINATOR ABSENT, both fail, unsent and so with no effect on a station record (log entry 17), and the next due poll is sent.
-/
def Obligations.LineResetClearsTheJob : Prop :=
  ∀ (tag : Byte) (s : State), s.linkReady →
    ∃ t, exec (.lineReset tag) s = .next t
      ∧ t.link = linkEvent (linkReplied s.link ⟨0x88, tag, [0x00]⟩) (.lineState .state .idle HoldSet.empty TripSet.empty none)
      ∧ t.web = ⟨⟨0, 0, 0⟩, ⟨0, 0, 0⟩⟩ ∧ t.store = State.reset.store ∧ t.reader = .inactive
      ∧ (∀ n, (t.eyes.get n).decode = .off ∧ (t.eyes.get n).startInterval = none ∧ (t.eyes.get n).pitchInterval = none)
      ∧ t.reg = State.reset.reg ∧ t.lists = ⟨[], [], [], []⟩ ∧ t.zones = [] ∧ t.cuts = State.reset.cuts
      ∧ t.motion = { State.reset.motion with drive := some .halt }
      ∧ t.beam.current = ⟨1, 0, 0, 0, 0, 0, 0, 0⟩ ∧ t.beam.changeover = .none ∧ t.beam.timer = none
      ∧ t.hand = State.reset.hand
      ∧ t.params = s.params ∧ t.pins = s.pins ∧ t.station.records = s.station.records
      ∧ t.station.laminator = s.station.laminator ∧ t.station.beam = s.station.beam ∧ t.station.unwind = s.station.unwind
      ∧ t.station.trim = s.station.trim ∧ t.pending = s.pending
      ∧ (s.station.inFlight.isSome = true →
          t.station = { s.station with actions := [.speed 0, .nip .opened] })
      ∧ (s.station.inFlight = none →
          let ms := (s.par .replyTimeout).toNat
          (s.roleAddr .laminator ≠ 0 →
            t.station = { s.station with
              actions := [.nip .opened]
              inFlight := some ⟨s.roleAddr .laminator, .action (.speed 0), .write, [1, 16, 0, 0], 0, ms⟩ })
          ∧ (s.roleAddr .laminator = 0 → s.station.due = [] → t.station = { s.station with actions := [] })
          ∧ (∀ r rs, s.roleAddr .laminator = 0 → s.station.due = r :: rs → t.station = { s.station with
              actions := [], due := rs, inFlight := some ⟨s.roleAddr r, .poll r, .poll, [], 0, ms⟩ }))

/-- R14: THREAD outside IDLE is refused with WRONG_STATE, and in IDLE with BAD_VALUE for a path length outside C_MIN to C_MAX.
R14, R38, R79, R92, R100, R122, R145, R149, R153: an accepted one is answered OK; the infeed stands at P and the outfeed at 0,
with no remainder and no hold-back, the lists, the zones and the Cut Queue are empty, each used lane is SEEKING and each other
UNUSED with F 0, the next page is page 0, the line READY with band and starve flag from P. The eyes, the trip inputs and the
Reader follow (log entry 20). -/
def Obligations.ThreadStartsTheJob : Prop :=
  ∀ (tag : Byte) (p : Word32) (s : State), s.linkReady →
    (s.motion.line ≠ .idle → exec (.thread tag p) s = .next { s with link := linkReplied s.link ⟨0x83, tag, [0x20]⟩ })
    ∧ (s.motion.line = .idle → (p.toNat : Int) < s.par .cMin ∨ s.par .cMax < (p.toNat : Int) →
        exec (.thread tag p) s = .next { s with link := linkReplied s.link ⟨0x83, tag, [0x30, 0]⟩ })
    ∧ (s.motion.line = .idle → s.par .cMin ≤ (p.toNat : Int) → (p.toNat : Int) ≤ s.par .cMax →
        (∃ t, exec (.thread tag p) s = .next t ∧ Replied s t ⟨0x83, tag, [0x00]⟩
          ∧ t.web = ⟨⟨p.toNat, 0, 0⟩, ⟨0, 0, 0⟩⟩ ∧ t.zones = [] ∧ t.hand = s.hand ∧ t.params = s.params ∧ t.pins = s.pins
          ∧ t.motion.band = (if (p.toNat : Int) < s.par .cHigh then .normal
              else if (p.toNat : Int) < s.par .cMax then .slowed else .stopped)
          ∧ (t.motion.starve = true ↔ (p.toNat : Int) = s.par .cMin)
          ∧ (s.tripInputStands → t.motion.line = .tripped))
        ∧ ∃ u, exec (.thread tag p) s
              = .next (startTx (settleAll s (takePage (tripAsserted (syncEyes (queueLine .state u))))))
            ∧ u.motion.line = .ready ∧ u.lists = ⟨[], [], [], []⟩ ∧ u.cuts = State.reset.cuts ∧ u.store.next = 0
            ∧ u.store.pages = s.store.pages ∧ u.eyes = s.eyes ∧ u.beam = s.beam ∧ u.station = s.station
            ∧ (∀ n, u.reg.get n = { State.reset.reg.get n with state := if s.used n then .seeking else .unused }))

/-- R126: the trigger of a PENDING changeover is met when no lane's list holds an EXPECTED context, no E lies beyond the beam
coordinate and the line is not TRIPPED. The guard is then the largest E, or the beam coordinate where no lane has one, plus the
gap less 2 × MARK_WIN, and not below the beam coordinate; every eye is OFF, every lane not UNUSED is BLIND with F and E kept, and
the positions action is raised with the number of the move (log entry 11), in MOVING; with 16 actions waiting it fails at once
(R130, R157). Otherwise nothing changes. R130: the expiry of the beam timer in MOVING makes the changeover FAILED with its guard
kept, and raises BEAM in a line that is not IDLE; the current layout stands. -/
def Obligations.ChangeoverTriggersAndFails : Prop :=
  (∀ (l : Layout) (s : State), s.beam.changeover = .pending l →
    let met := (∀ n, ∀ c ∈ s.lists.get n, c.state ≠ .expected) ∧ (∀ n e, (s.reg.get n).lastEnd = some e → e ≤ s.beamPos)
      ∧ s.motion.line ≠ .tripped
    let t := judgeTrigger s
    (¬met → t = s)
    ∧ (met → ∃ base, ((∀ n, (s.reg.get n).lastEnd = none) ∧ base = s.beamPos
          ∨ (∃ n, (s.reg.get n).lastEnd = some base) ∧ ∀ n e, (s.reg.get n).lastEnd = some e → e ≤ base)
        ∧ let g := max (base + l.gap - 2 * s.par .markWin) s.beamPos
        (∀ n, (t.eyes.get n).decode = .off
          ∧ ((s.eyes.get n).decode ≠ .off → (t.eyes.get n).startInterval = none ∧ (t.eyes.get n).pitchInterval = none)
          ∧ t.reg.get n = if (s.reg.get n).state = .unused then s.reg.get n else
              ⟨.blind, none, (s.reg.get n).f, 0, none, (s.reg.get n).lastEnd, none, none, none⟩)
        ∧ t.beam.current = s.beam.current ∧ t.beam.timer = none ∧ t.lists = s.lists ∧ t.cuts = s.cuts ∧ t.store = s.store
        ∧ (s.station.actions.length < 16 → t.beam.changeover = .moving l g ∧ t.motion = s.motion
          ∧ t.station = { s.station with actions := s.station.actions ++ [.positions (s.beam.move + 1) l] })
        ∧ (16 ≤ s.station.actions.length → t.beam.changeover = .failed l g
          ∧ (s.motion.line ≠ .idle → t.motion.holds.beam = true))))
  ∧ (∀ s : State, (∀ l, s.beam.changeover ≠ .pending l) → judgeTrigger s = s)
  ∧ (∀ (l : Layout) (g : Int) (s : State), s.beam.timer ≠ none → s.beam.changeover = .moving l g →
    ∃ t, exec .beamTimeout s = .next t ∧ t.beam.changeover = .failed l g ∧ t.beam.timer = none
      ∧ t.beam.current = s.beam.current ∧ (s.motion.line ≠ .idle → t.motion.line ≠ .idle → t.motion.holds.beam = true)
      ∧ MotionOnly s t ∧ t.pins = s.pins)

/-! ## The station link -/

/-- R158, R159: a POLL_DUE. For an ABSENT role nothing joins. While a transaction is in flight the poll joins the due polls at
their tail, and one for the same role still waiting there is removed and counts as a failure of that role; the station records
change in nothing else. On a free link with nothing waiting the poll is sent at once, unless what the command brings, the end of
HOLDING or the trigger, raises an action that goes before it (R157); an action that fails unsent changes no station record (log
entry 17). A role whose count reaches STATION_WATCHDOG is LOST with that count (log entry 10). -/
def Obligations.PollFallsDue : Prop :=
  ∀ (r : Role) (s : State),
    let x := s.station.records.get r
    let w := (s.par .stationWatchdog).toNat
    let poll : Txn := ⟨s.roleAddr r, .poll r, .poll, [], 0, (s.par .replyTimeout).toNat⟩
    (s.roleAddr r = 0 → exec (.pollDue r) s = .next (startTx (settle s s)))
    ∧ (s.roleAddr r = 0 → s.station.inFlight ≠ none →
      ∃ t, exec (.pollDue r) s = .next t ∧ t.station.due = s.station.due ∧ t.station.records = s.station.records)
    ∧ (s.roleAddr r ≠ 0 → s.station.inFlight ≠ none →
      ∃ t, exec (.pollDue r) s = .next t
        ∧ t.station.due = s.station.due.filter (fun a => a != r) ++ [r] ∧ t.station.inFlight = s.station.inFlight
        ∧ t.station.records = (if r ∈ s.station.due then s.station.records.set r
            (match x.state with
             | .unknown | .present => if w ≤ x.failures + 1 then ⟨.lost, w⟩ else ⟨x.state, x.failures + 1⟩
             | .lost => ⟨.lost, w⟩
             | .absent => x) else s.station.records))
    ∧ (s.roleAddr r ≠ 0 → s.station.inFlight = none → s.station.actions = [] → s.station.due = [] →
      ∃ t, exec (.pollDue r) s = .next t ∧ t.station.records = s.station.records
        ∧ (s.motion.line ≠ .holding → (∀ l, s.beam.changeover ≠ .pending l) →
            t.station.inFlight = some poll ∧ t.station.due = [])
        ∧ (t.station.inFlight = some poll ∧ t.station.due = []
          ∨ t.station.due = [r] ∧ ∃ y a, t.station.inFlight = some y ∧ y.owner = .action a ∧ y.addr ≠ 0))

/-- R155, R156, R159: with no request waiting, the outcome of a transaction sent to a role's address. An answer with the right
check, the CRC-16 over its address, kind and payload, address and kind as one byte each (log entry 51), and from the address of
the request: with the kind of the request and a payload of its length, or a NAK with one code byte to a WRITE or READ, it makes
the role PRESENT with failure count 0. Any other answer, one of another kind included (log entry 9), and none in time, raises the
count of an UNKNOWN or PRESENT role, which is LOST when the count reaches STATION_WATCHDOG (log entry 10). No other role's record
changes. R164: a role that becomes LOST sends STATION_NOTICE(lost); a LAMINATOR or TRIM takes a RUNNING line to HOLDING with
STATION, a BEAM fails a changeover in MOVING, an UNWIND's splice record becomes absent. The watchdog comes first, then the owner
of the transaction takes its outcome (log entry 16). -/
def Obligations.StationOutcomeFeedsWatchdog : Prop :=
  (∀ (x : Txn) (r : Role) (s : State), s.station.inFlight = some x → s.roleAt x.addr = some r →
    (s.station.records.get r).state ≠ .absent →
    let w := (s.par .stationWatchdog).toNat
    let failed := s.station.records.set r
      (if (s.station.records.get r).state = .lost ∨ w ≤ (s.station.records.get r).failures + 1 then ⟨.lost, w⟩
       else { s.station.records.get r with failures := (s.station.records.get r).failures + 1 })
    let v := failedOutcome r { s with station := { s.station with inFlight := none } }
    exec .replyTimeout s = .next (runLink (settleAll s (ownerOutcome x (s.lostAt x.addr) .noAnswer v)))
    ∧ (s.link.requests = [] → ∃ t, exec .replyTimeout s = .next t ∧ t.station.records = failed ∧ t.params = s.params
        ∧ t.web = s.web ∧ t.pins = s.pins)
    ∧ ∀ a : Answer,
        let sound := a.check = crc16 (a.addr :: a.kind :: a.payload) ∧ a.addr.toNat = x.addr
        let acked := a.kind = kindCode x.kind ∧ ackPayloadOk x a.payload = true
        let naked := a.kind = kindCode x.kind + 0x80 ∧ a.payload.length = 1 ∧ x.kind ≠ .poll
        (¬(sound ∧ (acked ∨ naked)) → ∃ o, (o = .badAnswer ∨ ∃ c, o = .nak c)
          ∧ exec (.stationAnswer a) s = .next (runLink (settleAll s (ownerOutcome x (s.lostAt x.addr) o v))))
        ∧ (s.link.requests = [] → ∃ t, exec (.stationAnswer a) s = .next t
          ∧ t.params = s.params ∧ t.web = s.web ∧ t.pins = s.pins
          ∧ (sound ∧ (acked ∨ naked) → t.station.records = s.station.records.set r ⟨.present, 0⟩)
          ∧ (¬(sound ∧ (acked ∨ naked)) → t.station.records = failed)))
  ∧ (∀ (r : Role) (s : State),
    (s.station.records.get r).state = .unknown ∨ (s.station.records.get r).state = .present →
    (s.par .stationWatchdog).toNat ≤ (s.station.records.get r).failures + 1 →
    let lost := { s with
      station := { s.station with records := s.station.records.set r ⟨.lost, (s.par .stationWatchdog).toNat⟩ }
      link := linkEvent s.link (.stationNotice .lost r) }
    let t := failedOutcome r s
    (r = .laminator ∨ r = .trim →
      (s.motion.line = .running → t = raiseHold .station lost ∧ t.motion.line = .holding ∧ t.motion.holds.station = true)
      ∧ (s.motion.line ≠ .running → t = lost))
    ∧ (r = .beam →
      (∀ l g, s.beam.changeover = .moving l g → t = raiseHold .beam
          { lost with beam := { s.beam with changeover := .failed l g, timer := none } }
        ∧ (s.motion.line ≠ .idle → t.motion.holds.beam = true))
      ∧ ((∀ l g, s.beam.changeover ≠ .moving l g) → t = lost))
    ∧ (r = .unwind → t = { lost with station := { lost.station with spliceRecord := none } }))

/-- R128, R129, R130, R160 to R163: a good poll answer replaces its role's status. A LAMINATOR without heat or with a fault holds
a RUNNING line with LAMINATOR_NOT_READY, and so does one that reports the nip OPEN under a nip command CLOSED with no nip action
waiting. In MOVING with the beam timer running, that is after the move action's ACK (log entry 26), the BEAM's FAULT fails the
changeover and DONE completes it: the pending layout is the current one, guard and timer are gone, each lane it uses is SEEKING
with its F and each other UNUSED, its eyes are active, LINE_STATE(layout) is queued, and the LAYOUT record counts as read; at any
other time, and for IDLE and MOVING, the Beam Controller takes nothing. The UNWIND's splice count is recorded, and each new splice
reported when one was recorded before (R94, as ZonesJoinOrAreLate states); after LOST, splices unknown is noticed behind present,
and roll low when it is newly set. A TRIM that is broken or full raises STATION. The code of a POLL is the model's free value (log
entry 9). The check is taken over address and kind as one byte each (log entry 51). -/
def Obligations.PollAnswersUpdateStatus : Prop :=
  ∀ (r : Role) (ms : Nat) (a : Answer) (s : State),
    s.station.inFlight = some ⟨s.roleAddr r, .poll r, .poll, [], 0, ms⟩ → s.roleAt (s.roleAddr r) = some r →
    s.link.requests = [] → a.addr.toNat = s.roleAddr r → a.kind = kindCode .poll →
    a.check = crc16 (a.addr :: a.kind :: a.payload) →
    ∃ t, exec (.stationAnswer a) s = .next t
      ∧ (∀ v, r = .laminator → parseLaminator a.payload = some v → t.station.laminator = some v
          ∧ (s.motion.line = .running → (v.heatReady = false ∨ v.fault = true) →
              t.motion.line = .idle ∨ t.motion.holds.laminatorNotReady = true)
          ∧ (s.motion.line = .running → s.motion.nip = .closed → (∀ x, Action.nip x ∉ s.station.actions) → v.nip = .opened →
              t.motion.line = .idle ∨ t.motion.holds.laminatorNotReady = true))
      ∧ (∀ v, r = .beam → parseBeam a.payload = some v → t.station.beam = some v
          ∧ (∀ l g, s.beam.changeover = .moving l g → s.beam.timer ≠ none →
              (v = .fault → t.beam.changeover = .failed l g)
              ∧ (v = .done → t.beam.current = l ∧ ∃ u, exec (.stationAnswer a) s = .next (runLink (settleAll s (layoutRead u)))
                ∧ u.beam = { s.beam with current := l, changeover := .none, timer := none }
                ∧ (∀ n, u.reg.get n = if laneNum n < l.laneCount then { s.reg.get n with state := .seeking }
                    else ⟨.unused, none, 0, 0, none, none, none, none, none⟩)
                ∧ (∀ n, (s.motion.line = .idle ∨ l.laneCount ≤ laneNum n → (u.eyes.get n).decode = .off)
                    ∧ (s.motion.line ≠ .idle → laneNum n < l.laneCount → (s.eyes.get n).decode = .off →
                        (u.eyes.get n).decode = if s.pins.eyeDark.get n = true then .clearing else .watching))
                ∧ (s.link.events.length < 31 → ∃ before, u.link.events = before ++ [.lineState (.layout l.laneCount l.label)
                    s.motion.line s.motion.holds s.motion.trips s.motion.firstCause])
                ∧ u.motion = s.motion ∧ u.cuts = s.cuts ∧ u.lists = s.lists ∧ u.store = s.store ∧ u.reader = s.reader))
          ∧ ((∀ l g, s.beam.changeover ≠ .moving l g) ∨ s.beam.timer = none ∨ v = .idle ∨ v = .moving →
              ∃ u, exec (.stationAnswer a) s = .next (runLink (settleAll s u)) ∧ u.beam = s.beam ∧ u.motion = s.motion
                ∧ u.reg = s.reg ∧ u.eyes = s.eyes ∧ u.cuts = s.cuts ∧ u.lists = s.lists))
      ∧ (∀ v, r = .unwind → parseUnwind a.payload = some v → t.station.unwind = some v
          ∧ t.station.spliceRecord = some v.splices ∧ t.station.rollLow = v.rollLow
          ∧ (s.station.spliceRecord = none → t.zones = s.zones)
          ∧ (∀ k, s.station.spliceRecord = some k →
              t.zones = (reportSplices ((v.splices + 256 - k) % 256) s).zones)
          ∧ ∃ u, exec (.stationAnswer a) s = .next (runLink (settleAll s u))
            ∧ (v.rollLow = true → s.station.rollLow = false →
                ∃ l, u.link = linkEvent l (.stationNotice .rollLow .unwind))
            ∧ (s.station.spliceRecord = none → s.link.events.length < 30 →
              let was := s.station.records.unwind.state
              u.link.events = s.link.events
                ++ (if was = .unknown ∨ was = .lost then [.stationNotice .present .unwind] else [])
                ++ (if was = .lost then [.stationNotice .splicesUnknown .unwind] else [])
                ++ (if v.rollLow = true ∧ s.station.rollLow = false then [.stationNotice .rollLow .unwind] else [])))
      ∧ (∀ v, r = .trim → parseTrim a.payload = some v → t.station.trim = some v
          ∧ (v ≠ .ok → s.motion.line ≠ .idle → t.motion.line = .idle ∨ t.motion.holds.station = true))

/-- R157, R165: on a free link the oldest line action is sent as a WRITE of index width 1, the width as one byte (log entry 50),
to the address of its role: speed at index 16, nip at 18, the five positions at 32, move at 42; that of an ABSENT role fails and
leaves the list, feeding no watchdog (log entry 17). R128: the ACK of the positions action of the move in hand (log entry 11)
raises its move action, or fails the changeover with 16 waiting; that of its move action starts the beam timer; any other ACK
changes nothing. R130, R165: a NAK, an answer that is not sound, one of another kind (log entry 9) and none in time fail the
action: a LAMINATOR action raises STATION, with nip as commanded; a BEAM action of the move in hand fails the changeover, with its
guard kept, and raises BEAM. The check of an answer is taken over address and kind as one byte each (log entry 51). -/
def Obligations.LineActionsAreCarriedOut : Prop :=
  (∀ (a : Action) (r : List Action) (s : State), s.station.inFlight = none → s.station.actions = a :: r →
    let role : Role := match a with | .speed _ | .nip _ => .laminator | .positions _ _ | .move _ => .beam
    let bytes : List Byte := match a with
      | .speed v => 16 :: be16 v
      | .nip .opened => [18, 0]
      | .nip .closed => [18, 1]
      | .positions _ l => 32 :: (word16Bytes l.leftTrim ++ word16Bytes l.slit1 ++ word16Bytes l.slit2 ++ word16Bytes l.slit3
          ++ word16Bytes l.rightTrim)
      | .move _ => [42, 1]
    let left := { s with station := { s.station with actions := r } }
    (s.roleAddr role ≠ 0 → runArbiter s = { s with station := { s.station with
      actions := r
      inFlight := some ⟨s.roleAddr role, .action a, .write, 1 :: bytes, 0, (s.par .replyTimeout).toNat⟩ } })
    ∧ (∀ k, s.roleAddr role = 0 → arbiter (k + 1) s = arbiter k (match a with
        | .speed _ | .nip _ => raiseHold .station left
        | .positions m _ | .move m => if m = s.beam.move then failChangeover left else left)))
  ∧ (∀ (act : Action) (x : Txn) (s : State), s.station.inFlight = some x → x.owner = .action act → x.kind = .write →
      let hand := fun (m : Nat) (l : Layout) (g : Int) => s.beam.changeover = .moving l g ∧ m = s.beam.move
      let fails := fun (i : Instr) => ∃ u, exec i s = .next (runLink (settleAll s u))
        ∧ ((∃ v, act = .speed v) ∨ (∃ n, act = .nip n) →
            u.motion.nip = s.motion.nip ∧ (s.motion.line ≠ .idle → u.motion.holds.station = true)
            ∧ (s.motion.line = .running → u.motion.line = .holding))
        ∧ (∀ m, act = .move m ∨ (∃ l, act = .positions m l) →
            (∀ l g, hand m l g → u.beam = { s.beam with changeover := .failed l g, timer := none }
              ∧ (s.motion.line ≠ .idle → u.motion.holds.beam = true))
            ∧ ((∀ l g, s.beam.changeover ≠ .moving l g) → u.beam = s.beam))
      fails .replyTimeout
      ∧ ∀ a : Answer,
        let acked := a.check = crc16 (a.addr :: a.kind :: a.payload) ∧ a.addr.toNat = x.addr ∧ a.kind = kindCode .write
          ∧ a.payload = []
        (¬acked → fails (.stationAnswer a))
        ∧ (acked → ∃ u, exec (.stationAnswer a) s = .next (runLink (settleAll s u))
          ∧ (∀ v, act = .speed v → u.beam = s.beam ∧ u.station.actions = s.station.actions ∧ u.motion = s.motion)
          ∧ (∀ n, act = .nip n → u.beam = s.beam ∧ u.station.actions = s.station.actions ∧ u.motion = s.motion)
          ∧ (∀ m l', act = .positions m l' →
            (∀ l g, hand m l g →
              (s.station.actions.length < 16 → u.beam = s.beam ∧ u.station.actions = s.station.actions ++ [.move m])
              ∧ (16 ≤ s.station.actions.length → u.beam = { s.beam with changeover := .failed l g, timer := none }))
            ∧ ((∀ l g, ¬hand m l g) → u.beam = s.beam ∧ u.station.actions = s.station.actions))
          ∧ (∀ m, act = .move m → u.station.actions = s.station.actions
            ∧ (∀ l g, hand m l g → u.beam = { s.beam with timer := some (s.par .beamTimeout).toNat })
            ∧ ((∀ l g, ¬hand m l g) → u.beam = s.beam))))

/-- R167: the outcome of a relay chunk. An ACK of the last chunk ends the relay with OK, the number of bytes carried and the data
read; of an earlier one it lets the relay go on behind its bytes. Any other outcome ends it with STATION_FAIL, the number of bytes
in the chunks answered ACK, the kind of failure, the NAK code or 0, and the data of those chunks. On a free link with no action
and no due poll the relay's next chunk is sent: its index width, its index, and up to 16 less the width bytes of a write, or the
count of a read, up to 16, width and count as one byte each (log entry 50). R157: with no action waiting a due poll goes before
the relay's next chunk, the first in the list; while a transaction is in flight, or with nothing to send, nothing is sent. R156:
the outcome of an answer to a chunk, or of none in time, is taken so after the watchdog (log entry 16); an answer of another kind
is a failure (log entry 9). The check of an answer is taken over address and kind as one byte each (log entry 51). -/
def Obligations.RelayChunksCarryTheData : Prop :=
  (∀ (r : Relay) (s : State), s.station.relay = some r →
     (∀ p : List Byte,
       let k := if r.write then min (16 - r.width) r.toWrite.length else p.length
       let last := if r.write then r.toWrite.length ≤ 16 - r.width else r.toRead ≤ p.length
       (last → chunkOutcome (.ack p) s = { s with
           station := { s.station with relay := none }
           link := { s.link with reply := some ⟨0xA0, r.tag, 0x00 :: (be32 (r.carried + k : Nat) ++ (r.got ++ p))⟩ } })
       ∧ (¬last → chunkOutcome (.ack p) s = { s with station := { s.station with
           relay := some { r with index := r.index + k, toWrite := r.toWrite.drop k, toRead := r.toRead - k,
                                  carried := r.carried + k, got := r.got ++ p } } }))
     ∧ (∀ (o : TxnOutcome) (kind code : Byte),
         (o = .nak code ∧ kind = 0 ∨ o = .noAnswer ∧ kind = 1 ∧ code = 0 ∨ o = .badAnswer ∧ kind = 2 ∧ code = 0) →
         chunkOutcome o s = { s with
           station := { s.station with relay := none }
           link := { s.link with reply := some ⟨0xA0, r.tag, 0x40 :: (be32 r.carried ++ [kind, code] ++ r.got)⟩ } }))
  ∧ (∀ (r : Relay) (s : State), s.station.inFlight = none → s.station.actions = [] → s.station.due = [] →
      s.station.relay = some r →
      let index := if r.width = 1 then [byteOf r.index] else [byteOf (r.index / 256 : Nat), byteOf r.index]
      let ms := (s.par .replyTimeout).toNat
      runArbiter s = { s with station := { s.station with inFlight := some (
        if r.write then
          ⟨r.addr, .relay, .write, byteOf r.width :: (index ++ r.toWrite.take (16 - r.width)), 0, ms⟩
        else ⟨r.addr, .relay, .read, byteOf r.width :: (index ++ [byteOf (min r.toRead 16 : Nat)]), min r.toRead 16, ms⟩) } })
  ∧ (∀ (r : Role) (rs : List Role) (s : State), s.station.inFlight = none → s.station.actions = [] → s.station.due = r :: rs →
      runArbiter s = { s with station := { s.station with
        due := rs, inFlight := some ⟨s.roleAddr r, .poll r, .poll, [], 0, (s.par .replyTimeout).toNat⟩ } })
  ∧ (∀ s : State, s.station.inFlight ≠ none
      ∨ (s.station.actions = [] ∧ s.station.due = [] ∧ s.station.relay = none) → runArbiter s = s)
  ∧ (∀ (x : Txn) (s : State), s.station.inFlight = some x → x.owner = .relay →
      let z := { s with station := { s.station with inFlight := none } }
      (exec .replyTimeout s = .next (runLink (settleAll s (chunkOutcome .noAnswer (watchdog x .noAnswer z))))
        ∧ (watchdog x .noAnswer z).station.relay = s.station.relay ∧ (watchdog x .noAnswer z).link.reply = s.link.reply)
      ∧ ∀ a : Answer, ∃ o, exec (.stationAnswer a) s = .next (runLink (settleAll s (chunkOutcome o (watchdog x o z))))
        ∧ (watchdog x o z).station.relay = s.station.relay ∧ (watchdog x o z).link.reply = s.link.reply
        ∧ let sound := a.check = crc16 (a.addr :: a.kind :: a.payload) ∧ a.addr.toNat = x.addr
          let fits := x.kind = .write ∧ a.payload = [] ∨ x.kind = .read ∧ a.payload.length = x.count
          (sound → a.kind = kindCode x.kind → fits → o = .ack a.payload)
          ∧ (∀ c, sound → a.kind = kindCode x.kind + 0x80 → a.payload = [c] → o = .nak c)
          ∧ (¬sound ∨ (a.kind = kindCode x.kind ∧ ¬fits) ∨ (a.kind = kindCode x.kind + 0x80 ∧ a.payload.length ≠ 1)
              ∨ (a.kind ≠ kindCode x.kind ∧ a.kind ≠ kindCode x.kind + 0x80) → o = .badAnswer))

/-! ## The outfeed handoff -/

/-- R172, R173, R174: the steps of a cycle that do not complete it. The delay timer's expiry in SETTLING asserts DELIVER, and
REJECT for a context with any reject reason; the context is DELIVERING, the handoff timer starts, the channel is OFFERED. ACCEPT
becoming asserted for an OFFERED channel in mode FULL makes it RELEASING, also when it follows a timeout and the offer is that of
the next ganged context (log entry 41). R170: LINE_INVERT decides which level is asserted. Every other change of ACCEPT, but those
that complete a cycle, changes the level alone. -/
def Obligations.HandoffStepsBeforeCompletion : Prop :=
  (∀ (ch n : Lane) (q : Source) (d : Nat) (s : State),
    (s.hand.channels.get ch).state = .settling → (s.hand.channels.get ch).owner = some (n, q) →
    (s.hand.channels.get ch).delay = some d →
    exec (.delayTimerExpiry ch) s = .next (startTx { s with
      lists := s.lists.set n ((s.lists.get n).map fun c => if c.src = q then { c with state := .delivering } else c)
      hand := { s.hand with channels := (s.hand.channels.set ch
          ⟨.offered, some (n, q), none, some (s.par .handoffTimeout).toNat,
            match (s.lists.get n).find? (fun c => c.src = q) with | some c => c.reasons.any | none => false⟩) } }))
  ∧ (∀ (n : Lane) (high : Bool) (s : State), s.pins.accept.get n ≠ high →
      let level := { s.pins with accept := s.pins.accept.set n high }
      let asserted : Bool := high != s.inverted (8 + laneNum n)
      let c := s.hand.channels.get n
      (c.state = .offered → s.channelOf n = n → asserted = true → s.effMode n = 3 →
        exec (.acceptChange n high) s = .next (startTx { s with
          pins := level, hand := { s.hand with channels := s.hand.channels.set n { c with state := .releasing } } }))
      ∧ (s.channelOf n ≠ n ∨ c.state = .idle ∨ c.state = .settling ∨ c.state = .pulsing
          ∨ (c.state = .offered ∧ asserted = false) ∨ (c.state = .releasing ∧ asserted = true) →
        exec (.acceptChange n high) s = .next (startTx { s with pins := level })))
  ∧ (∀ (n : Lane) (s : State), exec (.acceptChange n (s.pins.accept.get n)) s = .next (startTx s))

/-- R88, R35: a context that becomes DONE is reported and leaves its list, and its page's open panel count falls by 1; a SPENT
page whose count is then 0 is released: EMPTY, with its notice. A STALLED Reader goes on, and the job-end condition is examined.
R89, R172, R173, R175: a cycle completes when the delay timer expires in PULSING, when ACCEPT becomes asserted for an OFFERED
channel in a mode other than FULL (log entry 41 for one that follows a timeout in ganged mode), and when it becomes deasserted in
RELEASING; it ends also when the handoff timer expires, with UNCONFIRMED and then the hold reason HANDOFF_TIMEOUT, which a job end
that the last panel brings does not forestall (log entry 42). The channel is IDLE with its timers stopped; in ganged mode (R177)
it takes the context at the head of the wait list and begins its cycle by its mode and delay. R115, R175: before that a POSITIONED
head is examined, in the line and with the tables that the finished panel leaves: it is cut when the line is RUNNING and its lanes
are clear, and otherwise the Cut Queue stands. What every command is followed by (`settleAll`) comes after. -/
def Obligations.HandoffCycleEnds : Prop :=
  (∀ (n : Lane) (q : Source) (c : Ctx) (s : State), s.ctx? n q = some c →
    let a := s.store.pages[q.page]
    let released := a.state = .spent ∧ a.openPanels - 1 = 0
    let page : Page :=
      if released then ⟨.empty, Vector.replicate 16 none, 0, 0⟩ else { a with openPanels := a.openPanels - 1 }
    let done := linkEvent s.link (.panelDone (panelReport (s.par .cutTol) n c))
    makeDone n q s = examineJobEnd (resumeStalled { s with
      lists := s.lists.set n ((s.lists.get n).filter fun d => d.src != q)
      store := { s.store with pages := s.store.pages.set q.page page }
      link := if released then linkEvent done (.pageNotice .released q.page) else done }))
  ∧ (∀ (i : Instr) (ch n : Lane) (q : Source) (c : Ctx) (s : State),
    (s.hand.channels.get ch).owner = some (n, q) → s.ctx? n q = some c → (s.hand.waiting = [] ∨ ch = .lane0) →
    let x := s.hand.channels.get ch
    (i = .delayTimerExpiry ch ∧ x.state = .pulsing ∧ x.delay ≠ none
      ∨ (∃ high, i = .acceptChange ch high ∧ s.pins.accept.get ch ≠ high ∧ s.channelOf ch = ch
          ∧ (x.state = .offered ∧ (high != s.inverted (8 + laneNum ch)) = true ∧ s.effMode ch ≠ 3
              ∨ x.state = .releasing ∧ (high != s.inverted (8 + laneNum ch)) = false))
      ∨ i = .handoffTimeout ch ∧ x.timer ≠ none) →
    let c' := if i = .handoffTimeout ch then { c with notes := { c.notes with unconfirmed := true } } else c
    let pins := match i with
      | .acceptChange k high => { s.pins with accept := s.pins.accept.set k high }
      | _ => s.pins
    let done := makeDone n q { s with
      pins := pins
      lists := s.lists.set n ((s.lists.get n).map fun d => if d.src = q ∧ i = .handoffTimeout ch then
        { d with notes := { d.notes with unconfirmed := true } } else d)
      hand := { s.hand with channels := s.hand.channels.set ch ⟨.idle, none, none, none, false⟩ } }
    let cuttable := fun (e : Entry) => e.status = .positioned ∧ done.motion.line = .running ∧ done.lanesClear e = true
    ∃ u, exec i s = .next (startTx (settleAll s u))
      ∧ (s.link.events.length < 32 →
          ∃ more, u.link.events = s.link.events ++ .panelDone (panelReport (s.par .cutTol) n c') :: more)
      ∧ ((∀ p j k, s.reader ≠ .stalled p j k) → u.ctx? n q = none)
      ∧ (i = .handoffTimeout ch → s.motion.line ≠ .idle → u.motion.holds.handoffTimeout = true)
      ∧ u.pins = pins
      ∧ (∀ e r, s.cuts.entries = e :: r → cuttable e → u.cuts = { s.cuts with
          entries := { e with status := .cutting } :: r, cutTimer := some (s.par .cutTimeout).toNat, knifeStart := true,
          knifeLanes := ⟨e.parts.l0.isSome, e.parts.l1.isSome, e.parts.l2.isSome, e.parts.l3.isSome⟩ })
      ∧ ((∀ e r, s.cuts.entries = e :: r → ¬cuttable e) → u.cuts = s.cuts)
      ∧ ((∀ p j k, s.reader ≠ .stalled p j k) → s.cuts.entries ≠ [] → done.motion = s.motion)
      ∧ u.web = s.web ∧ u.params = s.params ∧ u.zones = s.zones ∧ u.pending = s.pending
      ∧ (s.hand.waiting = [] →
          u.hand = { s.hand with channels := s.hand.channels.set ch ⟨.idle, none, none, none, false⟩ })
      ∧ (∀ m p w, s.hand.waiting = (m, p) :: w → (m, p) ≠ (n, q) →
          let code := (s.par .handoffTd0).toNat
          let td := 10 ^ (code / 16) * (code % 16)
          let ends := some (s.par .handoffTimeout).toNat
          let reject := match s.ctx? m p with | some d => d.reasons.any | none => false
          u.hand = ⟨s.hand.channels.set .lane0
            (if s.effMode m = 1 then ⟨.pulsing, some (m, p), some td, ends, reject⟩
             else if td = 0 then ⟨.offered, some (m, p), none, ends, reject⟩
             else ⟨.settling, some (m, p), some td, none, false⟩), w⟩))

/-- R115, R176: a deassertion of BUSY_n in the inhibit mask has a POSITIONED head examined; it is cut when the line is RUNNING and
its lanes are clear: in every lane in which it ends a panel no context is CUT or DELIVERING, and the lane is not in the mask with
BUSY asserted. With no POSITIONED head it changes the level, and what every command is followed by (`settle`) comes after. An
assertion, and a change outside the mask, changes the level alone. -/
def Obligations.BusyReleaseLetsTraverseStart : Prop :=
  (∀ (e : Entry) (s : State), s.lanesClear e = true ↔
    ∀ n p q, e.parts.get n = some p → p.ends = some q →
      (∀ c ∈ s.lists.get n, c.state ≠ .cut ∧ c.state ≠ .delivering)
      ∧ ¬((s.par .handoffInhibit).toNat.testBit (laneNum n) = true ∧ s.busyAsserted n = true))
  ∧ (∀ (n : Lane) (high : Bool) (s : State),
      let u : State := { s with pins := { s.pins with busy := s.pins.busy.set n high } }
      (s.pins.busy.get n = high → exec (.busyChange n high) s = .next (startTx s))
      ∧ (s.pins.busy.get n ≠ high → (u.busyAsserted n = true ∨ (s.par .handoffInhibit).toNat.testBit (laneNum n) = false) →
          exec (.busyChange n high) s = .next (startTx u))
      ∧ (∀ (e : Entry) (r : List Entry), s.pins.busy.get n ≠ high → u.busyAsserted n = false →
          (s.par .handoffInhibit).toNat.testBit (laneNum n) = true → s.cuts.entries = e :: r → e.status = .positioned →
          ∃ t, exec (.busyChange n high) s = .next t ∧ t.pins = u.pins ∧ MotionOnly s t
            ∧ t.cuts = (if s.motion.line = .running ∧ u.lanesClear e = true then
                { s.cuts with entries := { e with status := .cutting } :: r, cutTimer := some (s.par .cutTimeout).toNat,
                              knifeStart := true,
                              knifeLanes := ⟨e.parts.l0.isSome, e.parts.l1.isSome, e.parts.l2.isSome, e.parts.l3.isSome⟩ }
              else s.cuts))
      ∧ (s.pins.busy.get n ≠ high → u.busyAsserted n = false →
          (s.par .handoffInhibit).toNat.testBit (laneNum n) = true →
          (∀ e r, s.cuts.entries = e :: r → e.status ≠ .positioned) →
          exec (.busyChange n high) s = .next (startTx (settle s u))))

/-! ## The line link and its requests -/

/-- R179, R180: the bytes of a frame, received while hunting, are the arrival of the frame; with another CRC the frame is
discarded, and on a link that keeps its laws nothing is changed. R180, R183: a byte received while hunting begins a frame when it
is 0xC3 and is skipped otherwise; a length byte above 240 discards the frame begun. After a gap within a frame the part received
is discarded and the next byte is taken while hunting. With no request waiting, the end of a transmission sends the waiting reply,
or else the event at the head of the queue with the events-lost indicator as it stands, or frees the transmitter. Nothing else
changes. R181: when the link goes on (`runLink`, after an arrival, the end of a transmission or an outcome on the station link)
and no relay is in progress and no reply waits that cannot begin, the frame at the head of the request queue is taken, and the
next is looked for after it; otherwise the frames wait. -/
def Obligations.FramesArriveAndTakeTurns : Prop :=
  ((∀ (f : Frame) (s : State), s.link.rx = [] → f.payload.length ≤ 240 →
     exec (.lineFrameReceived (frameBytes f)) s = .next (arrive f s))
   ∧ (∀ (f : Frame) (a b : Byte) (s : State), LinkLaw s → s.link.rx = [] → f.payload.length ≤ 240 →
       [a, b] ≠ word16Bytes (crc16 (frameBody f)) →
       exec (.lineFrameReceived (0xC3 :: (frameBody f ++ [a, b]))) s = .next s))
  ∧ (∀ s : State, LinkLaw s →
     (∀ b, s.link.rx = [] →
       exec (.lineFrameReceived [b]) s = .next { s with link := { s.link with rx := if b = 0xC3 then [0xC3] else [] } })
     ∧ (∀ (x b : Byte), s.link.rx = [x] →
       exec (.frameLengthDiscard b) s
         = .next { s with link := { s.link with rx := if 240 < b.toNat then [] else [0xC3, b] } })
     ∧ (∀ b, exec (.frameGapTimeout b) s = .next { s with link := { s.link with rx := if b = 0xC3 then [0xC3] else [] } })
     ∧ (s.link.requests = [] →
       (∀ f, s.link.reply = some f → exec .frameSent s = .next { s with link := { s.link with tx := some f, reply := none } })
       ∧ (∀ e es, s.link.reply = none → s.link.events = e :: es →
           exec .frameSent s
             = .next { s with link := { s.link with tx := some (eventFrame s.link.eventsLost e), events := es } })
       ∧ (s.link.reply = none → s.link.events = [] → exec .frameSent s = .next { s with link := { s.link with tx := none } })))
  ∧ (∀ s : State, exec .frameSent s = .next (runLink { s with link := { s.link with tx := none } })
     ∧ (s.link.tx ≠ none ∨ (s.link.reply = none ∧ s.link.events = []) → startTx s = s)
     ∧ (∀ f, s.link.tx = none → s.link.reply = some f →
         startTx s = { s with link := { s.link with tx := some f, reply := none } })
     ∧ (∀ e es, s.link.tx = none → s.link.reply = none → s.link.events = e :: es →
         startTx s = { s with link := { s.link with tx := some (eventFrame s.link.eventsLost e), events := es } })
     ∧ (∀ f fs, s.link.requests = f :: fs → s.link.requests.length ≤ 4 → s.station.relay = none →
         (s.link.tx = none ∨ s.link.reply = none) →
         runLink s = runLink (takeFrame f { s with link := { (startTx s).link with requests := fs } }))
     ∧ (s.link.requests = [] ∨ s.station.relay ≠ none ∨ (s.link.tx ≠ none ∧ s.link.reply ≠ none) → runLink s = startTx s)
     ∧ (∀ f, s.linkReady → arrive f s = startTx (takeFrame f s))
     ∧ (∀ f, arrive f s = runLink { s with link := { s.link with
         requests := if s.link.requests.length < 4 then s.link.requests ++ [f] else s.link.requests } }))

/-- R181: the payload of every well-formed request command spells that request, kind by kind and field by field, and the command
has the effect of its frame's bytes received while hunting (log entry 2). -/
def Obligations.RequestsAreTheirBytes : Prop :=
  ∀ (c : Instr) (tag : Byte) (r : Request), requestOf c = some (tag, r) → c.wf = true →
    examine (requestKind r) (requestPayload r) = .request r
    ∧ ∀ s : State, s.link.rx = [] → exec (.lineFrameReceived (frameBytes (requestFrame tag r))) s = exec c s

/-- R180, R181, R182: on a link that keeps its laws, a request that arrives while a reply waits or a relay is in progress joins
the request queue, or is discarded when 4 wait, and nothing else changes. On a ready link a frame of a kind outside the table is
answered BAD_KIND, and one with a payload length its kind does not allow BAD_LENGTH, with its kind plus 0x80 and its tag. -/
def Obligations.RequestsWaitOrAreAnswered : Prop :=
  (∀ (i : Instr) (f : Frame) (s : State), LinkLaw s → frameOf i = some f → (s.link.reply ≠ none ∨ s.station.relay ≠ none) →
    exec i s = .next { s with link := { s.link with
      requests := if s.link.requests.length < 4 then s.link.requests ++ [f] else s.link.requests } })
  ∧ (∀ (kind tag : Byte) (payload : List Byte) (s : State), s.linkReady → knownKinds.contains kind = false →
      exec (.badKind kind tag payload) s = .next { s with link := linkReplied s.link ⟨kind + 0x80, tag, [0x10]⟩ })
  ∧ (∀ (f : Frame) (s : State), s.linkReady → s.link.rx = [] → f.payload.length ≤ 240 → examine f.kind f.payload = .badLength →
      exec (.lineFrameReceived (frameBytes f)) s
        = .next { s with link := linkReplied s.link ⟨f.kind + 0x80, f.tag, [0x11]⟩ })

/-- R11, R26, R91, R183, R187: STATUS is answered OK with 55 bytes: the line state, the sets, the first cause, the band,
BEAM_WAIT, C and the two coordinates, the read position, the next-page pointer, the page states, the state, F and list count of
each lane, the counts of the Cut Queue and the Zone List, the station states, the handoff line levels, LANE_SEL and the
events-lost indicator, which it clears. PANEL_QUERY is answered BAD_VALUE for a lane above 3, and otherwise OK with the lane, the
count of its contexts and, from head to tail, each context's panel ID, source, state, reasons, notes and targets. That the state
takes one byte is the model's choice (log entry 54). Neither changes anything else. -/
def Obligations.StatusAndPanelQueryReport : Prop :=
  ∀ (tag lane : Byte) (s : State), s.linkReady →
    exec (.status tag) s
        = .next { s with link := { linkReplied s.link ⟨0x81, tag, 0x00 :: s.statusBytes⟩ with eventsLost := false } }
    ∧ s.statusBytes.length = 55
    ∧ s.statusBytes = [lineCode s.motion.line, holdByte s.motion.holds, tripByte s.motion.trips,
        firstCauseCode s.motion.firstCause, bandCode s.motion.band, if s.beamWait then 1 else 0]
        ++ be32 (max (-2147483648) (min 2147483647 (s.web.infeed.coord - s.web.outfeed.coord)))
        ++ be32 s.web.infeed.coord ++ be32 s.web.outfeed.coord
        ++ (match s.reader with
            | .reading p slot _ | .stalled p slot _ | .layoutStop p slot => [byteOf p.val, byteOf slot]
            | .inactive | .waiting | .finished => ([255, 0] : List Byte))
        ++ [byteOf s.store.next.val]
        ++ s.store.pages.toList.map (fun p =>
            match p.state with | .empty => (0 : Byte) | .loading => 1 | .armed => 2 | .opened => 3 | .spent => 4)
        ++ laneList.flatMap (fun n =>
            (match (s.reg.get n).state with
              | .unused => (0 : Byte) | .seeking => 1 | .tracking => 2 | .coasting => 3 | .lost => 4 | .blind => 5)
            :: (be16 (s.reg.get n).f ++ [byteOf (s.lists.get n).length]))
        ++ [byteOf s.cuts.entries.length, byteOf s.zones.length]
        ++ [Role.laminator, .beam, .unwind, .trim].map (fun r =>
            match (s.station.records.get r).state with | .absent => (0 : Byte) | .unknown => 1 | .present => 2 | .lost => 3)
        ++ be16 s.lineLevels ++ [s.laneSelLevels, if s.link.eventsLost then 1 else 0]
    ∧ (3 < lane.toNat →
        exec (.panelQuery tag lane) s = .next { s with link := linkReplied s.link ⟨0x94, tag, [0x30, 0]⟩ })
    ∧ (∀ n, lane.toNat = laneNum n →
        exec (.panelQuery tag lane) s = .next { s with link := (linkReplied s.link
            ⟨0x94, tag, 0x00 :: lane :: byteOf (s.lists.get n).length :: (s.lists.get n).flatMap fun c =>
              be16 c.panelId ++ [byteOf c.src.page.val, byteOf c.src.slot, byteOf c.src.copy,
                match c.state with | .expected => 0 | .active => 1 | .cut => 2 | .delivering => 3,
                reasonsByte c.reasons, notesByte c.notes]
              ++ be32 (match c.startTarget with | some x => x | none => 4294967295)
              ++ be32 (match c.endTarget with | some x => x | none => 4294967295)⟩) })

/-- R183, R184, R189: the frame of an event: its code, tag 0, the flags byte with the events-lost indicator in bit 0, and its
fields, the unused ones 0; PANEL_DONE carries the 27-byte report. R170, R174, R177, R187: the levels STATUS reports for the
handoff lines: in bits 0 to 3 DELIVER, asserted in PULSING and OFFERED, in bits 4 to 7 REJECT, asserted with it for a reject, each
by LINE_INVERT unless a short or load forces another level (log entry 21), then ACCEPT and BUSY as they stand; LANE_SEL presents
in ganged mode the lane of the context offered on channel 0, and 0 otherwise. Coordinates beyond a signed four-byte field are sent
by their low 32 bits (log entry 45). -/
def Obligations.EventsAndOutputsAsLaidOut : Prop :=
  (∀ (lost : Bool) (e : Event),
    let bits := fun (l : List Bool) => BitVec.ofNat 8 (l.foldr (fun (b : Bool) (n : Nat) => 2 * n + b.toNat) 0)
    let code := eventFrame lost e
    let flags : Byte := if lost then 1 else 0
    match e with
    | .panelDone r => code = ⟨0x40, 0, flags :: (be16 r.panelId
        ++ [byteOf (laneNum r.lane), byteOf r.src.page.val, byteOf r.src.slot, byteOf r.src.copy,
            match r.result with | .good => 0 | .outOfTol => 1 | .reject => 2,
            bits [r.reasons.inspection, r.reasons.tag, r.reasons.splice, r.reasons.dwell, r.reasons.operator, r.reasons.host],
            bits [r.notes.unverified, r.notes.unregistered, r.notes.merged, r.notes.crept, r.notes.recut, r.notes.unconfirmed]]
        ++ be32 r.startTarget ++ be32 r.startActual ++ be32 r.endTarget ++ be32 r.endActual ++ be16 r.fEndLock)⟩
        ∧ code.payload.length = 28
    | .lineState sort line h t first => code = ⟨0x41, 0, [flags,
        match sort with | .state => 0 | .jobEnd => 1 | .layout _ _ => 2,
        match line with | .idle => 0 | .ready => 1 | .running => 2 | .holding => 3 | .held => 4 | .tripped => 5,
        bits [h.host, h.planStarved, h.planPause, h.tagMismatch, h.station, h.beam, h.handoffTimeout, h.laminatorNotReady],
        bits [t.estop, t.dancerTop, t.dancerBottom, t.indexTimeout, t.knifeTimeout, t.encoderReverse, t.coordLimit,
          t.outfeedFault],
        match first with
        | none => 255 | some .estop => 0 | some .dancerTop => 1 | some .dancerBottom => 2 | some .indexTimeout => 3
        | some .knifeTimeout => 4 | some .encoderReverse => 5 | some .coordLimit => 6 | some .outfeedFault => 7,
        match sort with | .layout n _ => byteOf n | .state | .jobEnd => 0,
        match sort with | .layout _ l => l | .state | .jobEnd => 0]⟩
    | .markNotice sort lane x => code = ⟨0x42, 0, [flags,
        match sort with | .malformed => 0 | .stray _ => 1 | .lost => 2 | .stretchLimit _ => 3, byteOf (laneNum lane)]
        ++ be32 x ++ (match sort with
          | .malformed | .lost | .stray .start => [0, 0, 0, 0]
          | .stray .pitch => [0, 0, 0, 1]
          | .stray .undecoded => [0, 0, 0, 2]
          | .stretchLimit v => be32 v)⟩
    | .pageNotice sort page => code = ⟨0x43, 0, [flags, match sort with | .released => 0 | .planLow => 1 | .planError _ => 2,
        byteOf page.val, match sort with | .planError slot => byteOf slot | .released | .planLow => 0]⟩
    | .stationNotice sort role => code = ⟨0x44, 0, [flags,
        match sort with | .lost => 0 | .present => 1 | .splicesUnknown => 2 | .rollLow => 3,
        match role with | .laminator => 0 | .beam => 1 | .unwind => 2 | .trim => 3]⟩
    | .zoneNotice sort cause lo hi => code = ⟨0x45, 0, [flags, match sort with | .late => 0 | .merged => 1,
        match cause with | .splice => 0 | .dwell => 1 | .operator => 2] ++ be32 lo ++ be32 hi⟩)
  ∧ (∀ (n : Lane) (s : State),
      let c := s.hand.channels.get n
      let deliver : Bool := c.state = .pulsing ∨ c.state = .offered
      let inverted := fun (k : Nat) => (s.par .lineInvert).toNat.testBit k
      s.lineLevels < 65536
      ∧ s.lineLevels.testBit (laneNum n)
        = (match s.pins.deliverForced.get n with | some b => b | none => deliver != inverted (laneNum n))
      ∧ s.lineLevels.testBit (4 + laneNum n)
        = (match s.pins.rejectForced.get n with | some b => b | none => (deliver && c.reject) != inverted (4 + laneNum n))
      ∧ s.lineLevels.testBit (8 + laneNum n) = s.pins.accept.get n
      ∧ s.lineLevels.testBit (12 + laneNum n) = s.pins.busy.get n)
  ∧ (∀ s : State,
      let c := s.hand.channels.l0
      let offered := s.par .handoffGanged = 1 ∧ (c.state = .pulsing ∨ c.state = .offered)
      (∀ n q, offered → c.owner = some (n, q) → s.laneSel = laneNum n)
      ∧ (¬offered → s.laneSel = 0)
      ∧ s.laneSelLevels = BitVec.ofNat 8
          ((match s.pins.laneSel0Forced with | some b => b | none => s.laneSel.testBit 0).toNat
            + 2 * (match s.pins.laneSel1Forced with | some b => b | none => s.laneSel.testBit 1).toNat))

/-- R8, R75, R168, R185: SETUP is refused with WRONG_STATE outside IDLE, with BAD_VALUE and the first number that is 0 or above
55, and with BAD_VALUE and the number of the first cross-check that fails; a refused one changes nothing. R186: the checks in the
order of their table. Otherwise each parameter takes the last value given, or its old one, brought into its range, and a settle
delay of a PULSE lane with factor below 2 takes factor 2 (R171). The reply is OK, or CLAMPED with the first number noted: those
out of range in pair order, a number given twice at its first pair by its final value (log entry 18), then the settle delays in
lane order. Coordinates and hold-backs stand, and only the parameters, the remainders, F and the station link change with the
link. R155, R168: a role whose address changes is UNKNOWN, or ABSENT at address 0, with count 0, no status and no waiting poll; a
failure count above a lowered STATION_WATCHDOG becomes that; a changed schedule removes every waiting poll. -/
def Obligations.SetupClampsChecksInstalls : Prop :=
  (∀ (tag : Byte) (pairs : List (Byte × Word32)) (s : State), s.linkReady → 1 ≤ pairs.length → pairs.length ≤ 48 →
    let cand := candidate s.params pairs
    let given := fun p => clampParam p ((lastValue pairs p).getD (s.par p))
    let short := fun n => given (modeParam n) = 1 ∧ given (delayParam n) % 16 < 2
    let noted := (pairs.filterMap fun q => (paramOfNumber q.1.toNat).bind fun p =>
        if (lastValue pairs p).any (fun v => v < paramLow p || paramHigh p < v) then some q.1.toNat else none)
      ++ (laneList.filter fun n => decide (short n)).map fun n => 48 + laneNum n
    (s.motion.line ≠ .idle → exec (.setup tag pairs) s = .next { s with link := linkReplied s.link ⟨0x82, tag, [0x20]⟩ })
    ∧ (∀ b, s.motion.line = .idle → badNumber pairs = some b →
        (∃ before q after, pairs = before ++ q :: after ∧ q.1 = b ∧ (b.toNat = 0 ∨ 55 < b.toNat)
          ∧ ∀ x ∈ before, 1 ≤ x.1.toNat ∧ x.1.toNat ≤ 55)
        ∧ exec (.setup tag pairs) s = .next { s with link := linkReplied s.link ⟨0x82, tag, [0x30, b]⟩ })
    ∧ (badNumber pairs = none →
        (∀ p, isDelay p = false → cand.val p = given p)
        ∧ ∀ n, cand.val (delayParam n) = if short n then given (delayParam n) / 16 * 16 + 2 else given (delayParam n))
    ∧ (∀ k, s.motion.line = .idle → badNumber pairs = none → crossCheck cand = some k →
        exec (.setup tag pairs) s = .next { s with link := linkReplied s.link ⟨0x82, tag, [0x30, byteOf k]⟩ })
    ∧ (s.motion.line = .idle → badNumber pairs = none → crossCheck cand = none → ParamsLaw s →
        ∃ t, exec (.setup tag pairs) s = .next t ∧ t.params = cand ∧ ParamsLaw t
          ∧ t.link = linkReplied s.link ⟨0x82, tag, match noted with
              | [] => [0x00]
              | k :: _ => [0x01, byteOf k]⟩
          ∧ (∀ e, (t.web.get e).coord = (s.web.get e).coord ∧ (t.web.get e).hold = (s.web.get e).hold
              ∧ (t.web.get e).rem = (if t.ratio e = s.ratio e then (s.web.get e).rem else 0))
          ∧ (∀ n, t.reg.get n = { s.reg.get n with
              f := max (-t.par .stretchLimit) (min (t.par .stretchLimit) (s.reg.get n).f) })
          ∧ t = { s with params := t.params, web := t.web, reg := t.reg, station := t.station, link := t.link }
          ∧ (∀ r, let changed := t.roleAddr r ≠ s.roleAddr r
              let x : StationRecord := s.station.records.get r
              let y : StationRecord := t.station.records.get r
              let w := (t.par .stationWatchdog).toNat
              (changed → y = ⟨if t.roleAddr r = 0 then .absent else .unknown, 0⟩)
              ∧ (¬changed → y = ⟨x.state, min x.failures w⟩)
              ∧ (changed → match r with
                  | .laminator => t.station.laminator = none
                  | .beam => t.station.beam = none
                  | .unwind => t.station.unwind = none ∧ t.station.spliceRecord = none ∧ t.station.rollLow = false
                  | .trim => t.station.trim = none)
              ∧ (¬changed → match r with
                  | .laminator => t.station.laminator = s.station.laminator
                  | .beam => t.station.beam = s.station.beam
                  | .unwind => t.station.unwind = s.station.unwind ∧ t.station.spliceRecord = s.station.spliceRecord
                      ∧ t.station.rollLow = s.station.rollLow
                  | .trim => t.station.trim = s.station.trim))
          ∧ t.station.due = (if t.par .pollInterval = s.par .pollInterval ∧ t.par .pollStagger = s.par .pollStagger
              then s.station.due.filter (fun r => t.roleAddr r = s.roleAddr r) else [])
          ∧ t.station.actions = s.station.actions ∧ t.station.relay = s.station.relay
          ∧ t.station.inFlight = s.station.inFlight))
  ∧ (∀ c : ParamSet,
      let v := c.val
      let same := fun a b => v a ≠ 0 ∧ v a = v b
      crossCheck c =
        if ¬(v .inScaleD ≤ 16 * v .inScaleN ∧ v .inScaleN ≤ 16 * v .inScaleD) then some 2
        else if ¬(v .outScaleD ≤ 16 * v .outScaleN ∧ v .outScaleN ≤ 16 * v .outScaleD) then some 4
        else if ¬v .mergeWin ≤ v .cutTol then some 9
        else if ¬v .barShortMax < v .barLongMin then some 18
        else if ¬v .beamDist < v .cMin then some 23
        else if ¬v .cMin < v .cLow then some 24
        else if ¬v .cLow < v .cHigh then some 25
        else if ¬v .cHigh < v .cMax then some 26
        else if ¬v .slowSpeed < v .runSpeed then some 28
        else if same .roleAddrLaminator .roleAddrBeam then some 40
        else if same .roleAddrLaminator .roleAddrUnwind then some 41
        else if same .roleAddrLaminator .roleAddrTrim then some 42
        else if same .roleAddrBeam .roleAddrUnwind then some 41
        else if same .roleAddrBeam .roleAddrTrim then some 42
        else if same .roleAddrUnwind .roleAddrTrim then some 42
        else none)

/-- R21: PAGE_LOAD is refused with BAD_VALUE for a page above 7, with PAGE_STATE for a page that is not EMPTY or LOADING, with
BAD_VALUE for a first slot above 15 or records past slot 15; otherwise the records stand in consecutive slots of the page, which
is LOADING with the count of its slots that are not VOID. R22: PAGE_ARM is refused with BAD_VALUE for a page above 7, with
PAGE_STATE for a page that is not LOADING, with BAD_VALUE and the lowest VOID slot below a written one, and then with BAD_VALUE
and the lowest slot whose record fails its check; otherwise the reply is OK, and the page is ARMED, or, when the Reader waits for
it (R27, R28), OPEN with the Reader at its first record, reading on. R18, R19, R20: the records that pass the check. -/
def Obligations.PagesLoadAndArm : Prop :=
  (∀ (tag page first : Byte) (records : List RawRecord) (s : State), s.linkReady →
    1 ≤ records.length → records.length ≤ 14 →
    let refused := fun (st : Byte) (rest : List Byte) =>
      exec (.pageLoad tag page first records) s = .next { s with link := linkReplied s.link ⟨0x90, tag, st :: rest⟩ }
    (7 < page.toNat → refused 0x30 [page])
    ∧ (∀ p : Fin 8, page.toNat = p.val →
        let a := s.store.pages[p]
        (a.state ≠ .empty → a.state ≠ .loading → refused 0x21 [])
        ∧ ((a.state = .empty ∨ a.state = .loading) →
          (15 < first.toNat → refused 0x30 [first])
          ∧ (first.toNat ≤ 15 → 16 < first.toNat + records.length →
              refused 0x30 [byteOf (first.toNat + records.length - 1)])
          ∧ (first.toNat + records.length ≤ 16 →
              ∃ b : Page, exec (.pageLoad tag page first records) s = .next { s with
                  store := { s.store with pages := s.store.pages.set p b }
                  link := linkReplied s.link ⟨0x90, tag, [0x00]⟩ }
                ∧ b.state = .loading ∧ b.openPanels = a.openPanels ∧ b.count = slotCount b.slots
                ∧ ∀ i : Fin 16, b.slots[i] =
                    if first.toNat ≤ i.val ∧ i.val < first.toNat + records.length then records[i.val - first.toNat]?
                    else a.slots[i]))))
  ∧ (∀ (tag page : Byte) (s : State), s.linkReady →
      let refused := fun (st : Byte) (rest : List Byte) =>
        exec (.pageArm tag page) s = .next { s with link := linkReplied s.link ⟨0x91, tag, st :: rest⟩ }
      (7 < page.toNat → refused 0x30 [page])
      ∧ (∀ p : Fin 8, page.toNat = p.val →
          let a := s.store.pages[p]
          let gap := fun (i : Fin 16) => a.slots[i] = none ∧ ∃ j : Fin 16, i < j ∧ a.slots[j] ≠ none
          let bad := fun (i : Fin 16) => ∃ r, a.slots[i] = some r ∧ recordOk r = false
          (a.state ≠ .loading → refused 0x21 [])
          ∧ (a.state = .loading →
            (∀ i, gap i → (∀ j, j < i → ¬gap j) → refused 0x30 [byteOf i.val])
            ∧ (∀ i, (∀ j, ¬gap j) → bad i → (∀ j, j < i → ¬bad j) → refused 0x30 [byteOf i.val])
            ∧ ((∀ j, ¬gap j) → (∀ j, ¬bad j) →
                (∃ t, exec (.pageArm tag page) s = .next t ∧ Replied s t ⟨0x91, tag, [0x00]⟩
                  ∧ t.web = s.web ∧ t.params = s.params ∧ t.pins = s.pins ∧ t.zones = s.zones ∧ t.hand = s.hand
                  ∧ (s.reader ≠ .waiting ∨ s.store.next ≠ p →
                      t.store = { s.store with pages := s.store.pages.set p { a with state := .armed } }
                      ∧ t.reader = s.reader))
                ∧ (s.reader = .waiting → s.store.next = p →
                    exec (.pageArm tag page) s = .next (startTx (settleAll s (readOn { s with
                      store := ⟨s.store.pages.set p { a with state := .opened }, p + 1⟩
                      reader := .reading p 0 1
                      link := { s.link with reply := some ⟨0x91, tag, [0x00]⟩ } }))))))))
  ∧ (∀ r : RawRecord,
      let b := fun (i : Fin 16) => r[i].toNat
      let nominal := 16777216 * b 4 + 65536 * b 5 + 256 * b 6 + b 7
      let lead := 65536 * b 8 + 256 * b 9 + b 10
      let pitch := 65536 * b 11 + 256 * b 12 + b 13
      let left := 256 * b 5 + b 6
      let s1 := 256 * b 7 + b 8
      let s2 := 256 * b 9 + b 10
      let s3 := 256 * b 11 + b 12
      let right := 256 * b 13 + b 14
      (recordOk r = true ↔
        b 0 = 1 ∧ b 1 ≤ 3 ∧ 1 ≤ 256 * b 2 + b 3 ∧ 256 * b 2 + b 3 ≤ 4095 ∧ 25000 ≤ nominal ∧ nominal ≤ 5000000
          ∧ (lead = 0 ∨ 5000 ≤ lead ∧ lead ≤ 500000) ∧ (pitch = 0 ∨ 10000 ≤ pitch ∧ pitch ≤ 200000 ∧ pitch < nominal)
          ∧ 1 ≤ b 14 ∧ b 14 ≤ 99 ∧ b 15 < 8 ∧ b 15 % 4 ≠ 3
        ∨ b 0 = 2 ∧ 20000 ≤ 65536 * b 2 + 256 * b 3 + b 4 ∧ 65536 * b 2 + 256 * b 3 + b 4 ≤ 1000000 ∧ right ≤ 32000
          ∧ (b 1 = 1 ∧ s1 = 0 ∧ s2 = 0 ∧ s3 = 0 ∧ left + 3000 ≤ right
            ∨ b 1 = 2 ∧ s2 = 0 ∧ s3 = 0 ∧ left + 3000 ≤ s1 ∧ s1 + 3000 ≤ right
            ∨ b 1 = 3 ∧ s3 = 0 ∧ left + 3000 ≤ s1 ∧ s1 + 3000 ≤ s2 ∧ s2 + 3000 ≤ right
            ∨ b 1 = 4 ∧ left + 3000 ≤ s1 ∧ s1 + 3000 ≤ s2 ∧ s2 + 3000 ≤ s3 ∧ s3 + 3000 ≤ right)
        ∨ b 0 = 3))

/-- R23: PAGE_CLEAR is refused with BAD_VALUE and the page number above 7, and with PAGE_STATE for an OPEN or SPENT page; a
LOADING or ARMED page (log entry 37) becomes EMPTY with every slot VOID and count 0, an EMPTY page is left as it is, and the reply
is OK. No notice is sent. R24: PAGE_QUERY is refused with BAD_VALUE and the page number above 7; otherwise the reply is OK and
carries the page's state, its record count and its open panel count. It changes nothing. -/
def Obligations.PageClearAndPageQuery : Prop :=
  (∀ (tag page : Byte) (s : State), s.linkReady →
    let answered := fun (st : State) (bytes : List Byte) =>
      exec (.pageClear tag page) s = .next { st with link := linkReplied s.link ⟨0x92, tag, bytes⟩ }
    (7 < page.toNat → answered s [0x30, page])
    ∧ (∀ p : Fin 8, page.toNat = p.val →
        let a := s.store.pages[p]
        ((a.state = .loading ∨ a.state = .armed) →
          answered { s with store := { s.store with
            pages := s.store.pages.set p ⟨.empty, Vector.replicate 16 none, 0, 0⟩ } } [0x00])
        ∧ (a.state = .empty → answered s [0x00])
        ∧ ((a.state = .opened ∨ a.state = .spent) → answered s [0x21])))
  ∧ (∀ (tag page : Byte) (s : State), s.linkReady →
    (7 < page.toNat →
      exec (.pageQuery tag page) s = .next { s with link := linkReplied s.link ⟨0x93, tag, [0x30, page]⟩ })
    ∧ (∀ p : Fin 8, page.toNat = p.val →
        let a := s.store.pages[p]
        exec (.pageQuery tag page) s = .next { s with link := (linkReplied s.link
            ⟨0x93, tag, [0x00, match a.state with | .empty => 0 | .loading => 1 | .armed => 2 | .opened => 3 | .spent => 4,
              byteOf a.count, byteOf a.openPanels]⟩) }))

/-- R27, R28: a Reader that needs a page opens the ARMED page at the pointer, and else waits with plan low. R29, R35: a record
that counts as read leads to the next slot, or, from the last, makes the page SPENT, released at once with no panel open, and a
page is needed. R30, R31, R32: a PANEL record of a lane not used is skipped with plan error; each copy joins the tail of its
lane's list, EXPECTED, fields from the record, and raises the open panel count; a list of twelve stalls the Reader. R33: a LAYOUT
stops it and hands the layout over for the trigger (R125). R34, R37: END makes it FINISHED and the page SPENT; job end is
signalled when FINISHED with lists and Cut Queue empty, once (its effect is stated in HoldingEndsInHeldOrIdle). It reads on while
READING; a STALLED one goes on when a panel is DONE, one at a LAYOUT when the changeover completes. -/
def Obligations.PlanReaderReads : Prop :=
  (∀ s : State,
    let p := s.store.next
    let a := s.store.pages[p]
    (a.state = .armed → needPage s = { s with
      store := ⟨s.store.pages.set p { a with state := .opened }, p + 1⟩, reader := .reading p 0 1 })
    ∧ (a.state ≠ .armed →
        needPage s = { s with reader := .waiting, link := linkEvent s.link (.pageNotice .planLow p) }))
  ∧ (∀ (p : Fin 8) (slot : Nat) (s : State),
      let a := s.store.pages[p]
      (slot + 1 < a.count → recordRead p slot s = { s with reader := .reading p (slot + 1) 1 })
      ∧ (a.count ≤ slot + 1 → recordRead p slot s = needPage (spendPage p s))
      ∧ (0 < a.openPanels → spendPage p s = { s with store := { s.store with
          pages := s.store.pages.set p { a with state := .spent } } })
      ∧ (a.openPanels = 0 → spendPage p s = { s with
          store := { s.store with pages := s.store.pages.set p ⟨.empty, Vector.replicate 16 none, 0, 0⟩ }
          link := linkEvent s.link (.pageNotice .released p) }))
  ∧ (∀ (p : Fin 8) (slot : Fin 16) (copy : Nat) (r : RawRecord) (s : State), s.store.pages[p].slots[slot] = some r →
      let a := s.store.pages[p]
      (∀ (f : PanelRecord) (n : Lane), parseRecord r = .panel f → f.lane = laneNum n →
        (copy = 1 → s.beam.current.laneCount ≤ laneNum n → readRecord p slot copy s
          = recordRead p slot { s with link := linkEvent s.link (.pageNotice (.planError slot) p) })
        ∧ (copy ≠ 1 ∨ laneNum n < s.beam.current.laneCount →
          (12 ≤ (s.lists.get n).length → readRecord p slot copy s = { s with reader := .stalled p slot copy })
          ∧ ((s.lists.get n).length < 12 →
            let u : State := { s with
              lists := s.lists.set n (s.lists.get n ++ [⟨f.panelId, f.panelId % 256, ⟨p, slot, copy⟩, f.nominal, f.lead, f.pitch,
                f.coded, f.synth, f.pauseAfter, .expected, none, none, none, none, none, none, none, Reasons.empty, Notes.empty⟩])
              store := { s.store with pages := s.store.pages.set p { a with openPanels := a.openPanels + 1 } } }
            (copy < f.copies → readRecord p slot copy s = { u with reader := .reading p slot (copy + 1) })
            ∧ (f.copies ≤ copy → readRecord p slot copy s = recordRead p slot u))))
      ∧ (∀ l, parseRecord r = .layout l → readRecord p slot copy s
          = judgeTrigger { s with reader := .layoutStop p slot, beam := { s.beam with changeover := .pending l } })
      ∧ (parseRecord r = .ending → readRecord p slot copy s = examineJobEnd (spendPage p { s with reader := .finished })))
  ∧ (∀ s : State,
      let ended := s.reader = .finished ∧ (∀ n, s.lists.get n = []) ∧ s.cuts.entries = [] ∧ s.motion.jobEnd = false
      (ended → examineJobEnd s = signalJobEnd s) ∧ (¬ended → examineJobEnd s = s))
  ∧ (∀ s : State, readOn s = readLoop 512 s ∧ readLoop 0 s = s)
  ∧ (∀ (k : Nat) (s : State), (∀ p slot copy, s.reader = .reading p slot copy →
        readLoop (k + 1) s = readLoop k (readRecord p slot copy s))
      ∧ ((∀ p slot copy, s.reader ≠ .reading p slot copy) → readLoop k s = s))
  ∧ (∀ s : State, (∀ p slot copy, s.reader = .stalled p slot copy →
        resumeStalled s = readOn { s with reader := .reading p slot copy })
      ∧ ((∀ p slot copy, s.reader ≠ .stalled p slot copy) → resumeStalled s = s)
      ∧ (∀ p slot, s.reader = .layoutStop p slot → layoutRead s = readOn (recordRead p slot s)))

/-- R90: FLAG_PANEL is refused with BAD_VALUE for a lane above 3 or a panel ID outside 1 to 4,095, with NO_SUCH when no context of
the lane has the ID, and with LATE when the oldest that has it is DELIVERING; otherwise that context receives HOST, and the reply
carries its source and state. Nothing else changes. That the state is one byte, with the codes R182 gives for PANEL_QUERY, is the
model's choice (log entry 54). -/
def Obligations.FlagPanelGivesHost : Prop :=
  ∀ (tag lane : Byte) (panelId : Word16) (s : State), s.linkReady →
    let answered := fun (st : State) (bytes : List Byte) =>
      exec (.flagPanel tag lane panelId) s = .next { st with link := linkReplied s.link ⟨0x95, tag, bytes⟩ }
    let bad := panelId.toNat < 1 ∨ 4095 < panelId.toNat
    (3 < lane.toNat ∨ bad → answered s [0x30, 0])
    ∧ (∀ n, lane.toNat = laneNum n → ¬bad →
        ((∀ c ∈ s.lists.get n, c.panelId ≠ panelId.toNat) → answered s [0x31])
        ∧ (∀ before c after, s.lists.get n = before ++ c :: after → (∀ d ∈ before, d.panelId ≠ panelId.toNat) →
            c.panelId = panelId.toNat →
            (c.state = .delivering → answered s [0x22])
            ∧ (c.state ≠ .delivering →
                answered { s with lists := s.lists.set n ((s.lists.get n).map fun d =>
                    if d.src = c.src then { d with reasons := { d.reasons with host := true } } else d) }
                  [0x00, byteOf c.src.page.val, byteOf c.src.slot, byteOf c.src.copy,
                    match c.state with | .expected => 0 | .active => 1 | .cut => 2 | .delivering => 3])))

/-- R166: STATION_RELAY is refused with BAD_VALUE for a field outside its range or an index that runs past the top of its width,
and with NO_SUCH for a role whose address is 0. An accepted one is in progress with no reply made; on a link with nothing waiting
its first chunk is sent, index width and count as one byte each (log entry 50), its answer awaited for REPLY_TIMEOUT as it stands
(R168). -/
def Obligations.StationRelayBegins : Prop :=
  ∀ (tag tt target d w : Byte) (index : Word16) (data : List Byte) (s : State), s.linkReady →
    (Instr.stationRelay tag tt target d w index data).wf = true →
    let k := if d = 0 then beNat data else data.length
    let bad := 1 < tt.toNat ∨ (tt = 0 ∧ 3 < target.toNat) ∨ (tt = 1 ∧ (target.toNat < 1 ∨ 15 < target.toNat)) ∨ 1 < d.toNat
      ∨ (w ≠ 1 ∧ w ≠ 2) ∨ k < 1 ∨ 64 < k ∨ (w = 1 ∧ 256 < index.toNat + k) ∨ (w = 2 ∧ 65536 < index.toNat + k)
    let c := Instr.stationRelay tag tt target d w index data
    (bad → exec c s = .next { s with link := linkReplied s.link ⟨0xA0, tag, [0x30, 0]⟩ })
    ∧ (∀ r, ¬bad → tt = 0 → roleOf target.toNat = some r → s.roleAddr r = 0 →
        exec c s = .next { s with link := linkReplied s.link ⟨0xA0, tag, [0x31]⟩ })
    ∧ (∀ addr, ¬bad → addr ≠ 0 →
        (tt = 0 ∧ (∃ r, roleOf target.toNat = some r ∧ s.roleAddr r = addr) ∨ tt = 1 ∧ addr = target.toNat) →
        let r : Relay := ⟨tag, addr, d != 0, w.toNat, index.toNat, if d = 0 then [] else data, if d = 0 then beNat data else 0,
          0, []⟩
        (s.station.inFlight ≠ none → exec c s = .next { s with station := { s.station with relay := some r } })
        ∧ (s.station.inFlight = none → s.station.actions = [] → s.station.due = [] →
            exec c s = .next { s with station := { s.station with
              relay := some r
              inFlight := some (
                let i := if w = 1 then [byteOf index.toNat] else [byteOf (index.toNat / 256 : Nat), byteOf index.toNat]
                let ms := (s.par .replyTimeout).toNat
                if d = 0 then ⟨addr, .relay, .read, w :: (i ++ [byteOf (min k 16 : Nat)]), min k 16, ms⟩
                else ⟨addr, .relay, .write, w :: (i ++ data.take (16 - w.toNat)), 0, ms⟩) } }))

/-! ## What every step keeps -/

/-- R1, R9, R185, R186: every step keeps the parameters in their ranges and consistent, the coordinates at or below
4,000,000,000, the remainders below the denominators and the hold-backs at or below 65,535. R75: every step keeps |F| of every
lane at or below STRETCH_LIMIT. -/
def Obligations.StepKeepsCounterAndStretchRanges : Prop :=
  (∀ s t : State, WebLaw s → step s = .next t → WebLaw t)
  ∧ (∀ s t : State, StretchLaw s → step s = .next t → StretchLaw t)

/-- R134, R136, R140, R141, R143, R146, R152: every step keeps the commanded speed the one the line state and the band ask for,
and every step keeps the hold set, the trip set, the first cause and the job-end flag to the line states that may have them. -/
def Obligations.StepKeepsSpeedAndSets : Prop :=
  (∀ s t : State, SpeedLaw s → step s = .next t → SpeedLaw t)
  ∧ (∀ s t : State, SetsLaw s → step s = .next t → SetsLaw t)

/-- R80, R93, R157, R180, R183: every step keeps the lane lists, the Zone List, the waiting line actions, the request queue and
the event queue within their capacities. R93: every step keeps the zones in order of start and apart from one another. -/
def Obligations.StepKeepsCapacitiesAndZones : Prop :=
  (∀ s t : State, BoundsLaw s → step s = .next t → BoundsLaw t)
  ∧ (∀ s t : State, ZonesLaw s → step s = .next t → ZonesLaw t)

/-- R101, R102, R177: in every state that commands lead to from power-on, the Cut Queue holds no more entries than twice the
ACTIVE contexts, and at most 96; the wait list of ganged mode holds at most four contexts. -/
def Obligations.QueuesStayBoundedOnEveryRun : Prop :=
  ∀ s : State, Reached s → s.cuts.entries.length ≤ 2 * s.activeCount ∧ s.cuts.entries.length ≤ 96 ∧ s.hand.waiting.length ≤ 4

/-- R16, R17, R26: every step keeps a page OPEN exactly when the Reader is at it, and every step keeps each page's record count
the number of its slots that are not VOID. -/
def Obligations.StepKeepsPagesAndReader : Prop :=
  (∀ s t : State, PagesLaw s → step s = .next t → PagesLaw t)
  ∧ (∀ s t : State, CountsLaw s → step s = .next t → CountsLaw t)

/-- R101, R102, R106, R111: every step keeps the Cut Queue in order of coordinate, then lowest lane, then order number, what has
left PROVISIONAL below what has not, only the head executing, and each entry with an order number of its own. -/
def Obligations.StepKeepsCutQueueOrder : Prop := ∀ s t : State, QueueLaw s → step s = .next t → QueueLaw t

/-- R181, R183: every step leaves nothing waiting to be sent behind a free transmitter, and no request waiting when it may be
taken. -/
def Obligations.StepKeepsLinkBusy : Prop := ∀ s t : State, LinkLaw s → step s = .next t → LinkLaw t

/-- Every law holds at State.reset. -/
def Obligations.LawsHoldAtReset : Prop := AllLaws State.reset
end

