-- ==== Sys2Proof/Laws/Bytes.lean ====
section
/-! SUPPORT. A field of two or four bytes put together from its bytes is the field. -/
set_option Elab.async false
namespace Sys2Proof.Machine

@[simp] theorem word16Of_bytes (w : Word16) : word16Of (w.extractLsb' 8 8) (w.extractLsb' 0 8) = w := by
  unfold word16Of
  apply BitVec.eq_of_toNat_eq
  simp only [BitVec.toNat_append, BitVec.extractLsb'_toNat, Nat.shiftRight_eq_div_pow]
  have := w.isLt
  rw [← Nat.shiftLeft_add_eq_or_of_lt (by omega), Nat.shiftLeft_eq]
  omega

@[simp] theorem word32Of_bytes (w : Word32) :
    word32Of (w.extractLsb' 24 8) (w.extractLsb' 16 8) (w.extractLsb' 8 8) (w.extractLsb' 0 8) = w := by
  unfold word32Of
  apply BitVec.eq_of_toNat_eq
  simp only [BitVec.toNat_append, BitVec.extractLsb'_toNat, Nat.shiftRight_eq_div_pow]
  have := w.isLt
  rw [← Nat.shiftLeft_add_eq_or_of_lt (by omega), ← Nat.shiftLeft_add_eq_or_of_lt (by omega),
    ← Nat.shiftLeft_add_eq_or_of_lt (by omega)]
  simp only [Nat.shiftLeft_eq]
  omega

end Sys2Proof.Machine
end

