-- ==== Sys2Proof/Laws/State.lean ====
section
/-! SUPPORT. One lemma for each part of the state under each update, true by rfl. -/
set_option Elab.async false
namespace Sys2Proof.Machine

@[simp] theorem State.onWeb_web (s : State) (f : Web → Web) : (s.onWeb f).web = f s.web := rfl
@[simp] theorem State.onWeb_params (s : State) (f : Web → Web) : (s.onWeb f).params = s.params := rfl
@[simp] theorem State.onWeb_pins (s : State) (f : Web → Web) : (s.onWeb f).pins = s.pins := rfl
@[simp] theorem State.onWeb_store (s : State) (f : Web → Web) : (s.onWeb f).store = s.store := rfl
@[simp] theorem State.onWeb_reader (s : State) (f : Web → Web) : (s.onWeb f).reader = s.reader := rfl
@[simp] theorem State.onWeb_eyes (s : State) (f : Web → Web) : (s.onWeb f).eyes = s.eyes := rfl
@[simp] theorem State.onWeb_reg (s : State) (f : Web → Web) : (s.onWeb f).reg = s.reg := rfl
@[simp] theorem State.onWeb_lists (s : State) (f : Web → Web) : (s.onWeb f).lists = s.lists := rfl
@[simp] theorem State.onWeb_zones (s : State) (f : Web → Web) : (s.onWeb f).zones = s.zones := rfl
@[simp] theorem State.onWeb_cuts (s : State) (f : Web → Web) : (s.onWeb f).cuts = s.cuts := rfl
@[simp] theorem State.onWeb_motion (s : State) (f : Web → Web) : (s.onWeb f).motion = s.motion := rfl
@[simp] theorem State.onWeb_beam (s : State) (f : Web → Web) : (s.onWeb f).beam = s.beam := rfl
@[simp] theorem State.onWeb_station (s : State) (f : Web → Web) : (s.onWeb f).station = s.station := rfl
@[simp] theorem State.onWeb_hand (s : State) (f : Web → Web) : (s.onWeb f).hand = s.hand := rfl
@[simp] theorem State.onWeb_link (s : State) (f : Web → Web) : (s.onWeb f).link = s.link := rfl
@[simp] theorem State.onWeb_pending (s : State) (f : Web → Web) : (s.onWeb f).pending = s.pending := rfl

@[simp] theorem State.onPins_web (s : State) (f : Pins → Pins) : (s.onPins f).web = s.web := rfl
@[simp] theorem State.onPins_params (s : State) (f : Pins → Pins) : (s.onPins f).params = s.params := rfl
@[simp] theorem State.onPins_pins (s : State) (f : Pins → Pins) : (s.onPins f).pins = f s.pins := rfl
@[simp] theorem State.onPins_store (s : State) (f : Pins → Pins) : (s.onPins f).store = s.store := rfl
@[simp] theorem State.onPins_reader (s : State) (f : Pins → Pins) : (s.onPins f).reader = s.reader := rfl
@[simp] theorem State.onPins_eyes (s : State) (f : Pins → Pins) : (s.onPins f).eyes = s.eyes := rfl
@[simp] theorem State.onPins_reg (s : State) (f : Pins → Pins) : (s.onPins f).reg = s.reg := rfl
@[simp] theorem State.onPins_lists (s : State) (f : Pins → Pins) : (s.onPins f).lists = s.lists := rfl
@[simp] theorem State.onPins_zones (s : State) (f : Pins → Pins) : (s.onPins f).zones = s.zones := rfl
@[simp] theorem State.onPins_cuts (s : State) (f : Pins → Pins) : (s.onPins f).cuts = s.cuts := rfl
@[simp] theorem State.onPins_motion (s : State) (f : Pins → Pins) : (s.onPins f).motion = s.motion := rfl
@[simp] theorem State.onPins_beam (s : State) (f : Pins → Pins) : (s.onPins f).beam = s.beam := rfl
@[simp] theorem State.onPins_station (s : State) (f : Pins → Pins) : (s.onPins f).station = s.station := rfl
@[simp] theorem State.onPins_hand (s : State) (f : Pins → Pins) : (s.onPins f).hand = s.hand := rfl
@[simp] theorem State.onPins_link (s : State) (f : Pins → Pins) : (s.onPins f).link = s.link := rfl
@[simp] theorem State.onPins_pending (s : State) (f : Pins → Pins) : (s.onPins f).pending = s.pending := rfl

@[simp] theorem State.onStore_web (s : State) (f : PlanStore → PlanStore) : (s.onStore f).web = s.web := rfl
@[simp] theorem State.onStore_params (s : State) (f : PlanStore → PlanStore) : (s.onStore f).params = s.params := rfl
@[simp] theorem State.onStore_pins (s : State) (f : PlanStore → PlanStore) : (s.onStore f).pins = s.pins := rfl
@[simp] theorem State.onStore_store (s : State) (f : PlanStore → PlanStore) : (s.onStore f).store = f s.store := rfl
@[simp] theorem State.onStore_reader (s : State) (f : PlanStore → PlanStore) : (s.onStore f).reader = s.reader := rfl
@[simp] theorem State.onStore_eyes (s : State) (f : PlanStore → PlanStore) : (s.onStore f).eyes = s.eyes := rfl
@[simp] theorem State.onStore_reg (s : State) (f : PlanStore → PlanStore) : (s.onStore f).reg = s.reg := rfl
@[simp] theorem State.onStore_lists (s : State) (f : PlanStore → PlanStore) : (s.onStore f).lists = s.lists := rfl
@[simp] theorem State.onStore_zones (s : State) (f : PlanStore → PlanStore) : (s.onStore f).zones = s.zones := rfl
@[simp] theorem State.onStore_cuts (s : State) (f : PlanStore → PlanStore) : (s.onStore f).cuts = s.cuts := rfl
@[simp] theorem State.onStore_motion (s : State) (f : PlanStore → PlanStore) : (s.onStore f).motion = s.motion := rfl
@[simp] theorem State.onStore_beam (s : State) (f : PlanStore → PlanStore) : (s.onStore f).beam = s.beam := rfl
@[simp] theorem State.onStore_station (s : State) (f : PlanStore → PlanStore) : (s.onStore f).station = s.station := rfl
@[simp] theorem State.onStore_hand (s : State) (f : PlanStore → PlanStore) : (s.onStore f).hand = s.hand := rfl
@[simp] theorem State.onStore_link (s : State) (f : PlanStore → PlanStore) : (s.onStore f).link = s.link := rfl
@[simp] theorem State.onStore_pending (s : State) (f : PlanStore → PlanStore) : (s.onStore f).pending = s.pending := rfl

@[simp] theorem State.setReader_web (s : State) (r : Reader) : (s.setReader r).web = s.web := rfl
@[simp] theorem State.setReader_params (s : State) (r : Reader) : (s.setReader r).params = s.params := rfl
@[simp] theorem State.setReader_pins (s : State) (r : Reader) : (s.setReader r).pins = s.pins := rfl
@[simp] theorem State.setReader_store (s : State) (r : Reader) : (s.setReader r).store = s.store := rfl
@[simp] theorem State.setReader_reader (s : State) (r : Reader) : (s.setReader r).reader = r := rfl
@[simp] theorem State.setReader_eyes (s : State) (r : Reader) : (s.setReader r).eyes = s.eyes := rfl
@[simp] theorem State.setReader_reg (s : State) (r : Reader) : (s.setReader r).reg = s.reg := rfl
@[simp] theorem State.setReader_lists (s : State) (r : Reader) : (s.setReader r).lists = s.lists := rfl
@[simp] theorem State.setReader_zones (s : State) (r : Reader) : (s.setReader r).zones = s.zones := rfl
@[simp] theorem State.setReader_cuts (s : State) (r : Reader) : (s.setReader r).cuts = s.cuts := rfl
@[simp] theorem State.setReader_motion (s : State) (r : Reader) : (s.setReader r).motion = s.motion := rfl
@[simp] theorem State.setReader_beam (s : State) (r : Reader) : (s.setReader r).beam = s.beam := rfl
@[simp] theorem State.setReader_station (s : State) (r : Reader) : (s.setReader r).station = s.station := rfl
@[simp] theorem State.setReader_hand (s : State) (r : Reader) : (s.setReader r).hand = s.hand := rfl
@[simp] theorem State.setReader_link (s : State) (r : Reader) : (s.setReader r).link = s.link := rfl
@[simp] theorem State.setReader_pending (s : State) (r : Reader) : (s.setReader r).pending = s.pending := rfl

@[simp] theorem State.onEye_web (s : State) (n : Lane) (f : Eye → Eye) : (s.onEye n f).web = s.web := rfl
@[simp] theorem State.onEye_params (s : State) (n : Lane) (f : Eye → Eye) : (s.onEye n f).params = s.params := rfl
@[simp] theorem State.onEye_pins (s : State) (n : Lane) (f : Eye → Eye) : (s.onEye n f).pins = s.pins := rfl
@[simp] theorem State.onEye_store (s : State) (n : Lane) (f : Eye → Eye) : (s.onEye n f).store = s.store := rfl
@[simp] theorem State.onEye_reader (s : State) (n : Lane) (f : Eye → Eye) : (s.onEye n f).reader = s.reader := rfl
@[simp] theorem State.onEye_eyes (s : State) (n : Lane) (f : Eye → Eye) : (s.onEye n f).eyes = s.eyes.set n (f (s.eyes.get n)) := rfl
@[simp] theorem State.onEye_reg (s : State) (n : Lane) (f : Eye → Eye) : (s.onEye n f).reg = s.reg := rfl
@[simp] theorem State.onEye_lists (s : State) (n : Lane) (f : Eye → Eye) : (s.onEye n f).lists = s.lists := rfl
@[simp] theorem State.onEye_zones (s : State) (n : Lane) (f : Eye → Eye) : (s.onEye n f).zones = s.zones := rfl
@[simp] theorem State.onEye_cuts (s : State) (n : Lane) (f : Eye → Eye) : (s.onEye n f).cuts = s.cuts := rfl
@[simp] theorem State.onEye_motion (s : State) (n : Lane) (f : Eye → Eye) : (s.onEye n f).motion = s.motion := rfl
@[simp] theorem State.onEye_beam (s : State) (n : Lane) (f : Eye → Eye) : (s.onEye n f).beam = s.beam := rfl
@[simp] theorem State.onEye_station (s : State) (n : Lane) (f : Eye → Eye) : (s.onEye n f).station = s.station := rfl
@[simp] theorem State.onEye_hand (s : State) (n : Lane) (f : Eye → Eye) : (s.onEye n f).hand = s.hand := rfl
@[simp] theorem State.onEye_link (s : State) (n : Lane) (f : Eye → Eye) : (s.onEye n f).link = s.link := rfl
@[simp] theorem State.onEye_pending (s : State) (n : Lane) (f : Eye → Eye) : (s.onEye n f).pending = s.pending := rfl

@[simp] theorem State.onReg_web (s : State) (n : Lane) (f : LaneReg → LaneReg) : (s.onReg n f).web = s.web := rfl
@[simp] theorem State.onReg_params (s : State) (n : Lane) (f : LaneReg → LaneReg) : (s.onReg n f).params = s.params := rfl
@[simp] theorem State.onReg_pins (s : State) (n : Lane) (f : LaneReg → LaneReg) : (s.onReg n f).pins = s.pins := rfl
@[simp] theorem State.onReg_store (s : State) (n : Lane) (f : LaneReg → LaneReg) : (s.onReg n f).store = s.store := rfl
@[simp] theorem State.onReg_reader (s : State) (n : Lane) (f : LaneReg → LaneReg) : (s.onReg n f).reader = s.reader := rfl
@[simp] theorem State.onReg_eyes (s : State) (n : Lane) (f : LaneReg → LaneReg) : (s.onReg n f).eyes = s.eyes := rfl
@[simp] theorem State.onReg_reg (s : State) (n : Lane) (f : LaneReg → LaneReg) : (s.onReg n f).reg = s.reg.set n (f (s.reg.get n)) := rfl
@[simp] theorem State.onReg_lists (s : State) (n : Lane) (f : LaneReg → LaneReg) : (s.onReg n f).lists = s.lists := rfl
@[simp] theorem State.onReg_zones (s : State) (n : Lane) (f : LaneReg → LaneReg) : (s.onReg n f).zones = s.zones := rfl
@[simp] theorem State.onReg_cuts (s : State) (n : Lane) (f : LaneReg → LaneReg) : (s.onReg n f).cuts = s.cuts := rfl
@[simp] theorem State.onReg_motion (s : State) (n : Lane) (f : LaneReg → LaneReg) : (s.onReg n f).motion = s.motion := rfl
@[simp] theorem State.onReg_beam (s : State) (n : Lane) (f : LaneReg → LaneReg) : (s.onReg n f).beam = s.beam := rfl
@[simp] theorem State.onReg_station (s : State) (n : Lane) (f : LaneReg → LaneReg) : (s.onReg n f).station = s.station := rfl
@[simp] theorem State.onReg_hand (s : State) (n : Lane) (f : LaneReg → LaneReg) : (s.onReg n f).hand = s.hand := rfl
@[simp] theorem State.onReg_link (s : State) (n : Lane) (f : LaneReg → LaneReg) : (s.onReg n f).link = s.link := rfl
@[simp] theorem State.onReg_pending (s : State) (n : Lane) (f : LaneReg → LaneReg) : (s.onReg n f).pending = s.pending := rfl

@[simp] theorem State.onList_web (s : State) (n : Lane) (f : List Ctx → List Ctx) : (s.onList n f).web = s.web := rfl
@[simp] theorem State.onList_params (s : State) (n : Lane) (f : List Ctx → List Ctx) : (s.onList n f).params = s.params := rfl
@[simp] theorem State.onList_pins (s : State) (n : Lane) (f : List Ctx → List Ctx) : (s.onList n f).pins = s.pins := rfl
@[simp] theorem State.onList_store (s : State) (n : Lane) (f : List Ctx → List Ctx) : (s.onList n f).store = s.store := rfl
@[simp] theorem State.onList_reader (s : State) (n : Lane) (f : List Ctx → List Ctx) : (s.onList n f).reader = s.reader := rfl
@[simp] theorem State.onList_eyes (s : State) (n : Lane) (f : List Ctx → List Ctx) : (s.onList n f).eyes = s.eyes := rfl
@[simp] theorem State.onList_reg (s : State) (n : Lane) (f : List Ctx → List Ctx) : (s.onList n f).reg = s.reg := rfl
@[simp] theorem State.onList_lists (s : State) (n : Lane) (f : List Ctx → List Ctx) : (s.onList n f).lists = s.lists.set n (f (s.lists.get n)) := rfl
@[simp] theorem State.onList_zones (s : State) (n : Lane) (f : List Ctx → List Ctx) : (s.onList n f).zones = s.zones := rfl
@[simp] theorem State.onList_cuts (s : State) (n : Lane) (f : List Ctx → List Ctx) : (s.onList n f).cuts = s.cuts := rfl
@[simp] theorem State.onList_motion (s : State) (n : Lane) (f : List Ctx → List Ctx) : (s.onList n f).motion = s.motion := rfl
@[simp] theorem State.onList_beam (s : State) (n : Lane) (f : List Ctx → List Ctx) : (s.onList n f).beam = s.beam := rfl
@[simp] theorem State.onList_station (s : State) (n : Lane) (f : List Ctx → List Ctx) : (s.onList n f).station = s.station := rfl
@[simp] theorem State.onList_hand (s : State) (n : Lane) (f : List Ctx → List Ctx) : (s.onList n f).hand = s.hand := rfl
@[simp] theorem State.onList_link (s : State) (n : Lane) (f : List Ctx → List Ctx) : (s.onList n f).link = s.link := rfl
@[simp] theorem State.onList_pending (s : State) (n : Lane) (f : List Ctx → List Ctx) : (s.onList n f).pending = s.pending := rfl

@[simp] theorem State.onZones_web (s : State) (f : List Zone → List Zone) : (s.onZones f).web = s.web := rfl
@[simp] theorem State.onZones_params (s : State) (f : List Zone → List Zone) : (s.onZones f).params = s.params := rfl
@[simp] theorem State.onZones_pins (s : State) (f : List Zone → List Zone) : (s.onZones f).pins = s.pins := rfl
@[simp] theorem State.onZones_store (s : State) (f : List Zone → List Zone) : (s.onZones f).store = s.store := rfl
@[simp] theorem State.onZones_reader (s : State) (f : List Zone → List Zone) : (s.onZones f).reader = s.reader := rfl
@[simp] theorem State.onZones_eyes (s : State) (f : List Zone → List Zone) : (s.onZones f).eyes = s.eyes := rfl
@[simp] theorem State.onZones_reg (s : State) (f : List Zone → List Zone) : (s.onZones f).reg = s.reg := rfl
@[simp] theorem State.onZones_lists (s : State) (f : List Zone → List Zone) : (s.onZones f).lists = s.lists := rfl
@[simp] theorem State.onZones_zones (s : State) (f : List Zone → List Zone) : (s.onZones f).zones = f s.zones := rfl
@[simp] theorem State.onZones_cuts (s : State) (f : List Zone → List Zone) : (s.onZones f).cuts = s.cuts := rfl
@[simp] theorem State.onZones_motion (s : State) (f : List Zone → List Zone) : (s.onZones f).motion = s.motion := rfl
@[simp] theorem State.onZones_beam (s : State) (f : List Zone → List Zone) : (s.onZones f).beam = s.beam := rfl
@[simp] theorem State.onZones_station (s : State) (f : List Zone → List Zone) : (s.onZones f).station = s.station := rfl
@[simp] theorem State.onZones_hand (s : State) (f : List Zone → List Zone) : (s.onZones f).hand = s.hand := rfl
@[simp] theorem State.onZones_link (s : State) (f : List Zone → List Zone) : (s.onZones f).link = s.link := rfl
@[simp] theorem State.onZones_pending (s : State) (f : List Zone → List Zone) : (s.onZones f).pending = s.pending := rfl

@[simp] theorem State.onCuts_web (s : State) (f : Cuts → Cuts) : (s.onCuts f).web = s.web := rfl
@[simp] theorem State.onCuts_params (s : State) (f : Cuts → Cuts) : (s.onCuts f).params = s.params := rfl
@[simp] theorem State.onCuts_pins (s : State) (f : Cuts → Cuts) : (s.onCuts f).pins = s.pins := rfl
@[simp] theorem State.onCuts_store (s : State) (f : Cuts → Cuts) : (s.onCuts f).store = s.store := rfl
@[simp] theorem State.onCuts_reader (s : State) (f : Cuts → Cuts) : (s.onCuts f).reader = s.reader := rfl
@[simp] theorem State.onCuts_eyes (s : State) (f : Cuts → Cuts) : (s.onCuts f).eyes = s.eyes := rfl
@[simp] theorem State.onCuts_reg (s : State) (f : Cuts → Cuts) : (s.onCuts f).reg = s.reg := rfl
@[simp] theorem State.onCuts_lists (s : State) (f : Cuts → Cuts) : (s.onCuts f).lists = s.lists := rfl
@[simp] theorem State.onCuts_zones (s : State) (f : Cuts → Cuts) : (s.onCuts f).zones = s.zones := rfl
@[simp] theorem State.onCuts_cuts (s : State) (f : Cuts → Cuts) : (s.onCuts f).cuts = f s.cuts := rfl
@[simp] theorem State.onCuts_motion (s : State) (f : Cuts → Cuts) : (s.onCuts f).motion = s.motion := rfl
@[simp] theorem State.onCuts_beam (s : State) (f : Cuts → Cuts) : (s.onCuts f).beam = s.beam := rfl
@[simp] theorem State.onCuts_station (s : State) (f : Cuts → Cuts) : (s.onCuts f).station = s.station := rfl
@[simp] theorem State.onCuts_hand (s : State) (f : Cuts → Cuts) : (s.onCuts f).hand = s.hand := rfl
@[simp] theorem State.onCuts_link (s : State) (f : Cuts → Cuts) : (s.onCuts f).link = s.link := rfl
@[simp] theorem State.onCuts_pending (s : State) (f : Cuts → Cuts) : (s.onCuts f).pending = s.pending := rfl

@[simp] theorem State.onMotion_web (s : State) (f : Motion → Motion) : (s.onMotion f).web = s.web := rfl
@[simp] theorem State.onMotion_params (s : State) (f : Motion → Motion) : (s.onMotion f).params = s.params := rfl
@[simp] theorem State.onMotion_pins (s : State) (f : Motion → Motion) : (s.onMotion f).pins = s.pins := rfl
@[simp] theorem State.onMotion_store (s : State) (f : Motion → Motion) : (s.onMotion f).store = s.store := rfl
@[simp] theorem State.onMotion_reader (s : State) (f : Motion → Motion) : (s.onMotion f).reader = s.reader := rfl
@[simp] theorem State.onMotion_eyes (s : State) (f : Motion → Motion) : (s.onMotion f).eyes = s.eyes := rfl
@[simp] theorem State.onMotion_reg (s : State) (f : Motion → Motion) : (s.onMotion f).reg = s.reg := rfl
@[simp] theorem State.onMotion_lists (s : State) (f : Motion → Motion) : (s.onMotion f).lists = s.lists := rfl
@[simp] theorem State.onMotion_zones (s : State) (f : Motion → Motion) : (s.onMotion f).zones = s.zones := rfl
@[simp] theorem State.onMotion_cuts (s : State) (f : Motion → Motion) : (s.onMotion f).cuts = s.cuts := rfl
@[simp] theorem State.onMotion_motion (s : State) (f : Motion → Motion) : (s.onMotion f).motion = f s.motion := rfl
@[simp] theorem State.onMotion_beam (s : State) (f : Motion → Motion) : (s.onMotion f).beam = s.beam := rfl
@[simp] theorem State.onMotion_station (s : State) (f : Motion → Motion) : (s.onMotion f).station = s.station := rfl
@[simp] theorem State.onMotion_hand (s : State) (f : Motion → Motion) : (s.onMotion f).hand = s.hand := rfl
@[simp] theorem State.onMotion_link (s : State) (f : Motion → Motion) : (s.onMotion f).link = s.link := rfl
@[simp] theorem State.onMotion_pending (s : State) (f : Motion → Motion) : (s.onMotion f).pending = s.pending := rfl

@[simp] theorem State.onBeam_web (s : State) (f : Beam → Beam) : (s.onBeam f).web = s.web := rfl
@[simp] theorem State.onBeam_params (s : State) (f : Beam → Beam) : (s.onBeam f).params = s.params := rfl
@[simp] theorem State.onBeam_pins (s : State) (f : Beam → Beam) : (s.onBeam f).pins = s.pins := rfl
@[simp] theorem State.onBeam_store (s : State) (f : Beam → Beam) : (s.onBeam f).store = s.store := rfl
@[simp] theorem State.onBeam_reader (s : State) (f : Beam → Beam) : (s.onBeam f).reader = s.reader := rfl
@[simp] theorem State.onBeam_eyes (s : State) (f : Beam → Beam) : (s.onBeam f).eyes = s.eyes := rfl
@[simp] theorem State.onBeam_reg (s : State) (f : Beam → Beam) : (s.onBeam f).reg = s.reg := rfl
@[simp] theorem State.onBeam_lists (s : State) (f : Beam → Beam) : (s.onBeam f).lists = s.lists := rfl
@[simp] theorem State.onBeam_zones (s : State) (f : Beam → Beam) : (s.onBeam f).zones = s.zones := rfl
@[simp] theorem State.onBeam_cuts (s : State) (f : Beam → Beam) : (s.onBeam f).cuts = s.cuts := rfl
@[simp] theorem State.onBeam_motion (s : State) (f : Beam → Beam) : (s.onBeam f).motion = s.motion := rfl
@[simp] theorem State.onBeam_beam (s : State) (f : Beam → Beam) : (s.onBeam f).beam = f s.beam := rfl
@[simp] theorem State.onBeam_station (s : State) (f : Beam → Beam) : (s.onBeam f).station = s.station := rfl
@[simp] theorem State.onBeam_hand (s : State) (f : Beam → Beam) : (s.onBeam f).hand = s.hand := rfl
@[simp] theorem State.onBeam_link (s : State) (f : Beam → Beam) : (s.onBeam f).link = s.link := rfl
@[simp] theorem State.onBeam_pending (s : State) (f : Beam → Beam) : (s.onBeam f).pending = s.pending := rfl

@[simp] theorem State.onStation_web (s : State) (f : Station → Station) : (s.onStation f).web = s.web := rfl
@[simp] theorem State.onStation_params (s : State) (f : Station → Station) : (s.onStation f).params = s.params := rfl
@[simp] theorem State.onStation_pins (s : State) (f : Station → Station) : (s.onStation f).pins = s.pins := rfl
@[simp] theorem State.onStation_store (s : State) (f : Station → Station) : (s.onStation f).store = s.store := rfl
@[simp] theorem State.onStation_reader (s : State) (f : Station → Station) : (s.onStation f).reader = s.reader := rfl
@[simp] theorem State.onStation_eyes (s : State) (f : Station → Station) : (s.onStation f).eyes = s.eyes := rfl
@[simp] theorem State.onStation_reg (s : State) (f : Station → Station) : (s.onStation f).reg = s.reg := rfl
@[simp] theorem State.onStation_lists (s : State) (f : Station → Station) : (s.onStation f).lists = s.lists := rfl
@[simp] theorem State.onStation_zones (s : State) (f : Station → Station) : (s.onStation f).zones = s.zones := rfl
@[simp] theorem State.onStation_cuts (s : State) (f : Station → Station) : (s.onStation f).cuts = s.cuts := rfl
@[simp] theorem State.onStation_motion (s : State) (f : Station → Station) : (s.onStation f).motion = s.motion := rfl
@[simp] theorem State.onStation_beam (s : State) (f : Station → Station) : (s.onStation f).beam = s.beam := rfl
@[simp] theorem State.onStation_station (s : State) (f : Station → Station) : (s.onStation f).station = f s.station := rfl
@[simp] theorem State.onStation_hand (s : State) (f : Station → Station) : (s.onStation f).hand = s.hand := rfl
@[simp] theorem State.onStation_link (s : State) (f : Station → Station) : (s.onStation f).link = s.link := rfl
@[simp] theorem State.onStation_pending (s : State) (f : Station → Station) : (s.onStation f).pending = s.pending := rfl

@[simp] theorem State.onHand_web (s : State) (f : Handoff → Handoff) : (s.onHand f).web = s.web := rfl
@[simp] theorem State.onHand_params (s : State) (f : Handoff → Handoff) : (s.onHand f).params = s.params := rfl
@[simp] theorem State.onHand_pins (s : State) (f : Handoff → Handoff) : (s.onHand f).pins = s.pins := rfl
@[simp] theorem State.onHand_store (s : State) (f : Handoff → Handoff) : (s.onHand f).store = s.store := rfl
@[simp] theorem State.onHand_reader (s : State) (f : Handoff → Handoff) : (s.onHand f).reader = s.reader := rfl
@[simp] theorem State.onHand_eyes (s : State) (f : Handoff → Handoff) : (s.onHand f).eyes = s.eyes := rfl
@[simp] theorem State.onHand_reg (s : State) (f : Handoff → Handoff) : (s.onHand f).reg = s.reg := rfl
@[simp] theorem State.onHand_lists (s : State) (f : Handoff → Handoff) : (s.onHand f).lists = s.lists := rfl
@[simp] theorem State.onHand_zones (s : State) (f : Handoff → Handoff) : (s.onHand f).zones = s.zones := rfl
@[simp] theorem State.onHand_cuts (s : State) (f : Handoff → Handoff) : (s.onHand f).cuts = s.cuts := rfl
@[simp] theorem State.onHand_motion (s : State) (f : Handoff → Handoff) : (s.onHand f).motion = s.motion := rfl
@[simp] theorem State.onHand_beam (s : State) (f : Handoff → Handoff) : (s.onHand f).beam = s.beam := rfl
@[simp] theorem State.onHand_station (s : State) (f : Handoff → Handoff) : (s.onHand f).station = s.station := rfl
@[simp] theorem State.onHand_hand (s : State) (f : Handoff → Handoff) : (s.onHand f).hand = f s.hand := rfl
@[simp] theorem State.onHand_link (s : State) (f : Handoff → Handoff) : (s.onHand f).link = s.link := rfl
@[simp] theorem State.onHand_pending (s : State) (f : Handoff → Handoff) : (s.onHand f).pending = s.pending := rfl

@[simp] theorem State.onLink_web (s : State) (f : LineLink → LineLink) : (s.onLink f).web = s.web := rfl
@[simp] theorem State.onLink_params (s : State) (f : LineLink → LineLink) : (s.onLink f).params = s.params := rfl
@[simp] theorem State.onLink_pins (s : State) (f : LineLink → LineLink) : (s.onLink f).pins = s.pins := rfl
@[simp] theorem State.onLink_store (s : State) (f : LineLink → LineLink) : (s.onLink f).store = s.store := rfl
@[simp] theorem State.onLink_reader (s : State) (f : LineLink → LineLink) : (s.onLink f).reader = s.reader := rfl
@[simp] theorem State.onLink_eyes (s : State) (f : LineLink → LineLink) : (s.onLink f).eyes = s.eyes := rfl
@[simp] theorem State.onLink_reg (s : State) (f : LineLink → LineLink) : (s.onLink f).reg = s.reg := rfl
@[simp] theorem State.onLink_lists (s : State) (f : LineLink → LineLink) : (s.onLink f).lists = s.lists := rfl
@[simp] theorem State.onLink_zones (s : State) (f : LineLink → LineLink) : (s.onLink f).zones = s.zones := rfl
@[simp] theorem State.onLink_cuts (s : State) (f : LineLink → LineLink) : (s.onLink f).cuts = s.cuts := rfl
@[simp] theorem State.onLink_motion (s : State) (f : LineLink → LineLink) : (s.onLink f).motion = s.motion := rfl
@[simp] theorem State.onLink_beam (s : State) (f : LineLink → LineLink) : (s.onLink f).beam = s.beam := rfl
@[simp] theorem State.onLink_station (s : State) (f : LineLink → LineLink) : (s.onLink f).station = s.station := rfl
@[simp] theorem State.onLink_hand (s : State) (f : LineLink → LineLink) : (s.onLink f).hand = s.hand := rfl
@[simp] theorem State.onLink_link (s : State) (f : LineLink → LineLink) : (s.onLink f).link = f s.link := rfl
@[simp] theorem State.onLink_pending (s : State) (f : LineLink → LineLink) : (s.onLink f).pending = s.pending := rfl

@[simp] theorem State.setPending_web (s : State) (q : List Instr) : (s.setPending q).web = s.web := rfl
@[simp] theorem State.setPending_params (s : State) (q : List Instr) : (s.setPending q).params = s.params := rfl
@[simp] theorem State.setPending_pins (s : State) (q : List Instr) : (s.setPending q).pins = s.pins := rfl
@[simp] theorem State.setPending_store (s : State) (q : List Instr) : (s.setPending q).store = s.store := rfl
@[simp] theorem State.setPending_reader (s : State) (q : List Instr) : (s.setPending q).reader = s.reader := rfl
@[simp] theorem State.setPending_eyes (s : State) (q : List Instr) : (s.setPending q).eyes = s.eyes := rfl
@[simp] theorem State.setPending_reg (s : State) (q : List Instr) : (s.setPending q).reg = s.reg := rfl
@[simp] theorem State.setPending_lists (s : State) (q : List Instr) : (s.setPending q).lists = s.lists := rfl
@[simp] theorem State.setPending_zones (s : State) (q : List Instr) : (s.setPending q).zones = s.zones := rfl
@[simp] theorem State.setPending_cuts (s : State) (q : List Instr) : (s.setPending q).cuts = s.cuts := rfl
@[simp] theorem State.setPending_motion (s : State) (q : List Instr) : (s.setPending q).motion = s.motion := rfl
@[simp] theorem State.setPending_beam (s : State) (q : List Instr) : (s.setPending q).beam = s.beam := rfl
@[simp] theorem State.setPending_station (s : State) (q : List Instr) : (s.setPending q).station = s.station := rfl
@[simp] theorem State.setPending_hand (s : State) (q : List Instr) : (s.setPending q).hand = s.hand := rfl
@[simp] theorem State.setPending_link (s : State) (q : List Instr) : (s.setPending q).link = s.link := rfl
@[simp] theorem State.setPending_pending (s : State) (q : List Instr) : (s.setPending q).pending = q := rfl

/-! ## The table of a lane and of a role -/

@[simp] theorem Lanes.get_set_same {α : Type} (t : Lanes α) (n : Lane) (a : α) : (t.set n a).get n = a := by
  cases n <;> rfl

theorem Lanes.get_set_ne {α : Type} (t : Lanes α) (n m : Lane) (a : α) (h : m ≠ n) : (t.set n a).get m = t.get m := by
  cases n <;> cases m <;> first | rfl | exact absurd rfl h

theorem Lanes.get_set {α : Type} (t : Lanes α) (n m : Lane) (a : α) :
    (t.set n a).get m = if m = n then a else t.get m := by
  by_cases h : m = n
  · subst h; simp
  · rw [if_neg h, Lanes.get_set_ne t n m a h]

@[simp] theorem Lanes.set_get {α : Type} (t : Lanes α) (n : Lane) : t.set n (t.get n) = t := by cases n <;> rfl

@[simp] theorem Lanes.get_same {α : Type} (a : α) (n : Lane) : (Lanes.same a).get n = a := by cases n <;> rfl

@[simp] theorem Roles.get_set_same {α : Type} (t : Roles α) (r : Role) (a : α) : (t.set r a).get r = a := by
  cases r <;> rfl

theorem Roles.get_set_ne {α : Type} (t : Roles α) (r q : Role) (a : α) (h : q ≠ r) : (t.set r a).get q = t.get q := by
  cases r <;> cases q <;> first | rfl | exact absurd rfl h

end Sys2Proof.Machine
end

