-- ==== Sys2Proof/Laws/Frames1.lean ====
section
/-! SUPPORT. What each operation leaves unchanged: the shared operations, the motion, the zones, the Cut Queue. One lemma an operation; its proof uses those before it. -/
set_option Elab.async false
set_option linter.all false
namespace Sys2Proof.Machine
/-- What both alternatives keep, their choice keeps. -/
theorem orKeep {p : State → Prop} {a b : Option State} (ha : ∀ {t}, a = some t → p t) (hb : ∀ {t}, b = some t → p t)
    {t : State} : a.or b = some t → p t := by
  cases a with
  | none => simpa using fun h => hb h
  | some x => simp only [Option.some_or]; exact fun h => ha h

@[simp] theorem foldl_web {β : Type} (f : State → β → State) (h : ∀ s b, (f s b).web = s.web) (l : List β)
    (s : State) : (l.foldl f s).web = s.web := by
  induction l generalizing s with
  | nil => rfl
  | cons a r ih => simp [ih, h]
@[simp] theorem forLanes_web (f : Lane → State → State) (h : ∀ n s, (f n s).web = s.web) (s : State) :
    (forLanes f s).web = s.web := by simp [forLanes, h]
@[simp] theorem foldl_params {β : Type} (f : State → β → State) (h : ∀ s b, (f s b).params = s.params) (l : List β)
    (s : State) : (l.foldl f s).params = s.params := by
  induction l generalizing s with
  | nil => rfl
  | cons a r ih => simp [ih, h]
@[simp] theorem forLanes_params (f : Lane → State → State) (h : ∀ n s, (f n s).params = s.params) (s : State) :
    (forLanes f s).params = s.params := by simp [forLanes, h]
@[simp] theorem foldl_pins {β : Type} (f : State → β → State) (h : ∀ s b, (f s b).pins = s.pins) (l : List β)
    (s : State) : (l.foldl f s).pins = s.pins := by
  induction l generalizing s with
  | nil => rfl
  | cons a r ih => simp [ih, h]
@[simp] theorem forLanes_pins (f : Lane → State → State) (h : ∀ n s, (f n s).pins = s.pins) (s : State) :
    (forLanes f s).pins = s.pins := by simp [forLanes, h]
@[simp] theorem foldl_store {β : Type} (f : State → β → State) (h : ∀ s b, (f s b).store = s.store) (l : List β)
    (s : State) : (l.foldl f s).store = s.store := by
  induction l generalizing s with
  | nil => rfl
  | cons a r ih => simp [ih, h]
@[simp] theorem forLanes_store (f : Lane → State → State) (h : ∀ n s, (f n s).store = s.store) (s : State) :
    (forLanes f s).store = s.store := by simp [forLanes, h]
@[simp] theorem foldl_reader {β : Type} (f : State → β → State) (h : ∀ s b, (f s b).reader = s.reader) (l : List β)
    (s : State) : (l.foldl f s).reader = s.reader := by
  induction l generalizing s with
  | nil => rfl
  | cons a r ih => simp [ih, h]
@[simp] theorem forLanes_reader (f : Lane → State → State) (h : ∀ n s, (f n s).reader = s.reader) (s : State) :
    (forLanes f s).reader = s.reader := by simp [forLanes, h]
@[simp] theorem foldl_eyes {β : Type} (f : State → β → State) (h : ∀ s b, (f s b).eyes = s.eyes) (l : List β)
    (s : State) : (l.foldl f s).eyes = s.eyes := by
  induction l generalizing s with
  | nil => rfl
  | cons a r ih => simp [ih, h]
@[simp] theorem forLanes_eyes (f : Lane → State → State) (h : ∀ n s, (f n s).eyes = s.eyes) (s : State) :
    (forLanes f s).eyes = s.eyes := by simp [forLanes, h]
@[simp] theorem foldl_reg {β : Type} (f : State → β → State) (h : ∀ s b, (f s b).reg = s.reg) (l : List β)
    (s : State) : (l.foldl f s).reg = s.reg := by
  induction l generalizing s with
  | nil => rfl
  | cons a r ih => simp [ih, h]
@[simp] theorem forLanes_reg (f : Lane → State → State) (h : ∀ n s, (f n s).reg = s.reg) (s : State) :
    (forLanes f s).reg = s.reg := by simp [forLanes, h]
@[simp] theorem foldl_lists {β : Type} (f : State → β → State) (h : ∀ s b, (f s b).lists = s.lists) (l : List β)
    (s : State) : (l.foldl f s).lists = s.lists := by
  induction l generalizing s with
  | nil => rfl
  | cons a r ih => simp [ih, h]
@[simp] theorem forLanes_lists (f : Lane → State → State) (h : ∀ n s, (f n s).lists = s.lists) (s : State) :
    (forLanes f s).lists = s.lists := by simp [forLanes, h]
@[simp] theorem foldl_zones {β : Type} (f : State → β → State) (h : ∀ s b, (f s b).zones = s.zones) (l : List β)
    (s : State) : (l.foldl f s).zones = s.zones := by
  induction l generalizing s with
  | nil => rfl
  | cons a r ih => simp [ih, h]
@[simp] theorem forLanes_zones (f : Lane → State → State) (h : ∀ n s, (f n s).zones = s.zones) (s : State) :
    (forLanes f s).zones = s.zones := by simp [forLanes, h]
@[simp] theorem foldl_cuts {β : Type} (f : State → β → State) (h : ∀ s b, (f s b).cuts = s.cuts) (l : List β)
    (s : State) : (l.foldl f s).cuts = s.cuts := by
  induction l generalizing s with
  | nil => rfl
  | cons a r ih => simp [ih, h]
@[simp] theorem forLanes_cuts (f : Lane → State → State) (h : ∀ n s, (f n s).cuts = s.cuts) (s : State) :
    (forLanes f s).cuts = s.cuts := by simp [forLanes, h]
@[simp] theorem foldl_motion {β : Type} (f : State → β → State) (h : ∀ s b, (f s b).motion = s.motion) (l : List β)
    (s : State) : (l.foldl f s).motion = s.motion := by
  induction l generalizing s with
  | nil => rfl
  | cons a r ih => simp [ih, h]
@[simp] theorem forLanes_motion (f : Lane → State → State) (h : ∀ n s, (f n s).motion = s.motion) (s : State) :
    (forLanes f s).motion = s.motion := by simp [forLanes, h]
@[simp] theorem foldl_beam {β : Type} (f : State → β → State) (h : ∀ s b, (f s b).beam = s.beam) (l : List β)
    (s : State) : (l.foldl f s).beam = s.beam := by
  induction l generalizing s with
  | nil => rfl
  | cons a r ih => simp [ih, h]
@[simp] theorem forLanes_beam (f : Lane → State → State) (h : ∀ n s, (f n s).beam = s.beam) (s : State) :
    (forLanes f s).beam = s.beam := by simp [forLanes, h]
@[simp] theorem foldl_station {β : Type} (f : State → β → State) (h : ∀ s b, (f s b).station = s.station) (l : List β)
    (s : State) : (l.foldl f s).station = s.station := by
  induction l generalizing s with
  | nil => rfl
  | cons a r ih => simp [ih, h]
@[simp] theorem forLanes_station (f : Lane → State → State) (h : ∀ n s, (f n s).station = s.station) (s : State) :
    (forLanes f s).station = s.station := by simp [forLanes, h]
@[simp] theorem foldl_hand {β : Type} (f : State → β → State) (h : ∀ s b, (f s b).hand = s.hand) (l : List β)
    (s : State) : (l.foldl f s).hand = s.hand := by
  induction l generalizing s with
  | nil => rfl
  | cons a r ih => simp [ih, h]
@[simp] theorem forLanes_hand (f : Lane → State → State) (h : ∀ n s, (f n s).hand = s.hand) (s : State) :
    (forLanes f s).hand = s.hand := by simp [forLanes, h]
@[simp] theorem foldl_link {β : Type} (f : State → β → State) (h : ∀ s b, (f s b).link = s.link) (l : List β)
    (s : State) : (l.foldl f s).link = s.link := by
  induction l generalizing s with
  | nil => rfl
  | cons a r ih => simp [ih, h]
@[simp] theorem forLanes_link (f : Lane → State → State) (h : ∀ n s, (f n s).link = s.link) (s : State) :
    (forLanes f s).link = s.link := by simp [forLanes, h]
@[simp] theorem foldl_pending {β : Type} (f : State → β → State) (h : ∀ s b, (f s b).pending = s.pending) (l : List β)
    (s : State) : (l.foldl f s).pending = s.pending := by
  induction l generalizing s with
  | nil => rfl
  | cons a r ih => simp [ih, h]
@[simp] theorem forLanes_pending (f : Lane → State → State) (h : ∀ n s, (f n s).pending = s.pending) (s : State) :
    (forLanes f s).pending = s.pending := by simp [forLanes, h]
@[simp] theorem foldl_link_reply {β : Type} (f : State → β → State) (h : ∀ s b, (f s b).link.reply = s.link.reply) (l : List β)
    (s : State) : (l.foldl f s).link.reply = s.link.reply := by
  induction l generalizing s with
  | nil => rfl
  | cons a r ih => simp [ih, h]
@[simp] theorem forLanes_link_reply (f : Lane → State → State) (h : ∀ n s, (f n s).link.reply = s.link.reply) (s : State) :
    (forLanes f s).link.reply = s.link.reply := by simp [forLanes, h]
@[simp] theorem foldl_link_tx {β : Type} (f : State → β → State) (h : ∀ s b, (f s b).link.tx = s.link.tx) (l : List β)
    (s : State) : (l.foldl f s).link.tx = s.link.tx := by
  induction l generalizing s with
  | nil => rfl
  | cons a r ih => simp [ih, h]
@[simp] theorem forLanes_link_tx (f : Lane → State → State) (h : ∀ n s, (f n s).link.tx = s.link.tx) (s : State) :
    (forLanes f s).link.tx = s.link.tx := by simp [forLanes, h]
@[simp] theorem foldl_link_requests {β : Type} (f : State → β → State) (h : ∀ s b, (f s b).link.requests = s.link.requests) (l : List β)
    (s : State) : (l.foldl f s).link.requests = s.link.requests := by
  induction l generalizing s with
  | nil => rfl
  | cons a r ih => simp [ih, h]
@[simp] theorem forLanes_link_requests (f : Lane → State → State) (h : ∀ n s, (f n s).link.requests = s.link.requests) (s : State) :
    (forLanes f s).link.requests = s.link.requests := by simp [forLanes, h]
@[simp] theorem foldl_link_rx {β : Type} (f : State → β → State) (h : ∀ s b, (f s b).link.rx = s.link.rx) (l : List β)
    (s : State) : (l.foldl f s).link.rx = s.link.rx := by
  induction l generalizing s with
  | nil => rfl
  | cons a r ih => simp [ih, h]
@[simp] theorem forLanes_link_rx (f : Lane → State → State) (h : ∀ n s, (f n s).link.rx = s.link.rx) (s : State) :
    (forLanes f s).link.rx = s.link.rx := by simp [forLanes, h]
@[simp] theorem foldl_link_baud {β : Type} (f : State → β → State) (h : ∀ s b, (f s b).link.baud = s.link.baud) (l : List β)
    (s : State) : (l.foldl f s).link.baud = s.link.baud := by
  induction l generalizing s with
  | nil => rfl
  | cons a r ih => simp [ih, h]
@[simp] theorem forLanes_link_baud (f : Lane → State → State) (h : ∀ n s, (f n s).link.baud = s.link.baud) (s : State) :
    (forLanes f s).link.baud = s.link.baud := by simp [forLanes, h]
@[simp] theorem foldl_station_relay {β : Type} (f : State → β → State) (h : ∀ s b, (f s b).station.relay = s.station.relay) (l : List β)
    (s : State) : (l.foldl f s).station.relay = s.station.relay := by
  induction l generalizing s with
  | nil => rfl
  | cons a r ih => simp [ih, h]
@[simp] theorem forLanes_station_relay (f : Lane → State → State) (h : ∀ n s, (f n s).station.relay = s.station.relay) (s : State) :
    (forLanes f s).station.relay = s.station.relay := by simp [forLanes, h]
@[simp] theorem foldl_station_records {β : Type} (f : State → β → State) (h : ∀ s b, (f s b).station.records = s.station.records) (l : List β)
    (s : State) : (l.foldl f s).station.records = s.station.records := by
  induction l generalizing s with
  | nil => rfl
  | cons a r ih => simp [ih, h]
@[simp] theorem forLanes_station_records (f : Lane → State → State) (h : ∀ n s, (f n s).station.records = s.station.records) (s : State) :
    (forLanes f s).station.records = s.station.records := by simp [forLanes, h]
@[simp] theorem foldl_station_inFlight {β : Type} (f : State → β → State) (h : ∀ s b, (f s b).station.inFlight = s.station.inFlight) (l : List β)
    (s : State) : (l.foldl f s).station.inFlight = s.station.inFlight := by
  induction l generalizing s with
  | nil => rfl
  | cons a r ih => simp [ih, h]
@[simp] theorem forLanes_station_inFlight (f : Lane → State → State) (h : ∀ n s, (f n s).station.inFlight = s.station.inFlight) (s : State) :
    (forLanes f s).station.inFlight = s.station.inFlight := by simp [forLanes, h]
@[simp] theorem foldl_motion_line {β : Type} (f : State → β → State) (h : ∀ s b, (f s b).motion.line = s.motion.line) (l : List β)
    (s : State) : (l.foldl f s).motion.line = s.motion.line := by
  induction l generalizing s with
  | nil => rfl
  | cons a r ih => simp [ih, h]
@[simp] theorem forLanes_motion_line (f : Lane → State → State) (h : ∀ n s, (f n s).motion.line = s.motion.line) (s : State) :
    (forLanes f s).motion.line = s.motion.line := by simp [forLanes, h]
@[simp] theorem foldl_motion_jobEnd {β : Type} (f : State → β → State) (h : ∀ s b, (f s b).motion.jobEnd = s.motion.jobEnd) (l : List β)
    (s : State) : (l.foldl f s).motion.jobEnd = s.motion.jobEnd := by
  induction l generalizing s with
  | nil => rfl
  | cons a r ih => simp [ih, h]
@[simp] theorem forLanes_motion_jobEnd (f : Lane → State → State) (h : ∀ n s, (f n s).motion.jobEnd = s.motion.jobEnd) (s : State) :
    (forLanes f s).motion.jobEnd = s.motion.jobEnd := by simp [forLanes, h]
@[simp] theorem foldl_motion_nip {β : Type} (f : State → β → State) (h : ∀ s b, (f s b).motion.nip = s.motion.nip) (l : List β)
    (s : State) : (l.foldl f s).motion.nip = s.motion.nip := by
  induction l generalizing s with
  | nil => rfl
  | cons a r ih => simp [ih, h]
@[simp] theorem forLanes_motion_nip (f : Lane → State → State) (h : ∀ n s, (f n s).motion.nip = s.motion.nip) (s : State) :
    (forLanes f s).motion.nip = s.motion.nip := by simp [forLanes, h]
@[simp] theorem foldl_beam_current {β : Type} (f : State → β → State) (h : ∀ s b, (f s b).beam.current = s.beam.current) (l : List β)
    (s : State) : (l.foldl f s).beam.current = s.beam.current := by
  induction l generalizing s with
  | nil => rfl
  | cons a r ih => simp [ih, h]
@[simp] theorem forLanes_beam_current (f : Lane → State → State) (h : ∀ n s, (f n s).beam.current = s.beam.current) (s : State) :
    (forLanes f s).beam.current = s.beam.current := by simp [forLanes, h]
@[simp] theorem queueEvent_frame (e : Event) (s : State) :
    (queueEvent e s).web = s.web ∧ (queueEvent e s).params = s.params ∧ (queueEvent e s).pins = s.pins
    ∧ (queueEvent e s).store = s.store ∧ (queueEvent e s).reader = s.reader ∧ (queueEvent e s).eyes = s.eyes
    ∧ (queueEvent e s).reg = s.reg ∧ (queueEvent e s).lists = s.lists ∧ (queueEvent e s).zones = s.zones
    ∧ (queueEvent e s).cuts = s.cuts ∧ (queueEvent e s).motion = s.motion ∧ (queueEvent e s).beam = s.beam
    ∧ (queueEvent e s).station = s.station ∧ (queueEvent e s).hand = s.hand
    ∧ (queueEvent e s).link.reply = s.link.reply ∧ (queueEvent e s).link.tx = s.link.tx
    ∧ (queueEvent e s).link.requests = s.link.requests ∧ (queueEvent e s).link.rx = s.link.rx
    ∧ (queueEvent e s).link.baud = s.link.baud ∧ (queueEvent e s).pending = s.pending := by
  unfold queueEvent; simp; split <;> simp
@[simp] theorem queueLine_frame (sort : LineEventSort) (s : State) :
    (queueLine sort s).web = s.web ∧ (queueLine sort s).params = s.params ∧ (queueLine sort s).pins = s.pins
    ∧ (queueLine sort s).store = s.store ∧ (queueLine sort s).reader = s.reader ∧ (queueLine sort s).eyes = s.eyes
    ∧ (queueLine sort s).reg = s.reg ∧ (queueLine sort s).lists = s.lists ∧ (queueLine sort s).zones = s.zones
    ∧ (queueLine sort s).cuts = s.cuts ∧ (queueLine sort s).motion = s.motion ∧ (queueLine sort s).beam = s.beam
    ∧ (queueLine sort s).station = s.station ∧ (queueLine sort s).hand = s.hand
    ∧ (queueLine sort s).link.reply = s.link.reply ∧ (queueLine sort s).link.tx = s.link.tx
    ∧ (queueLine sort s).link.requests = s.link.requests ∧ (queueLine sort s).link.rx = s.link.rx
    ∧ (queueLine sort s).link.baud = s.link.baud ∧ (queueLine sort s).pending = s.pending := by
  unfold queueLine; (try dsimp only) <;> (repeat' split) <;> simp_all
@[simp] theorem State.onCtx_frame (s : State) (n : Lane) (src : Source) (f : Ctx → Ctx) :
    (State.onCtx s n src f).web = s.web ∧ (State.onCtx s n src f).params = s.params
    ∧ (State.onCtx s n src f).pins = s.pins ∧ (State.onCtx s n src f).store = s.store
    ∧ (State.onCtx s n src f).reader = s.reader ∧ (State.onCtx s n src f).eyes = s.eyes
    ∧ (State.onCtx s n src f).reg = s.reg ∧ (State.onCtx s n src f).zones = s.zones
    ∧ (State.onCtx s n src f).cuts = s.cuts ∧ (State.onCtx s n src f).motion = s.motion
    ∧ (State.onCtx s n src f).beam = s.beam ∧ (State.onCtx s n src f).station = s.station
    ∧ (State.onCtx s n src f).hand = s.hand ∧ (State.onCtx s n src f).link = s.link
    ∧ (State.onCtx s n src f).pending = s.pending := by
  unfold State.onCtx; (try dsimp only) <;> (repeat' split) <;> simp_all
@[simp] theorem giveInspection_frame (n : Lane) (src : Source) (s : State) :
    (giveInspection n src s).web = s.web ∧ (giveInspection n src s).params = s.params
    ∧ (giveInspection n src s).pins = s.pins ∧ (giveInspection n src s).store = s.store
    ∧ (giveInspection n src s).reader = s.reader ∧ (giveInspection n src s).eyes = s.eyes
    ∧ (giveInspection n src s).reg = s.reg ∧ (giveInspection n src s).zones = s.zones
    ∧ (giveInspection n src s).cuts = s.cuts ∧ (giveInspection n src s).motion = s.motion
    ∧ (giveInspection n src s).beam = s.beam ∧ (giveInspection n src s).station = s.station
    ∧ (giveInspection n src s).hand = s.hand ∧ (giveInspection n src s).link = s.link
    ∧ (giveInspection n src s).pending = s.pending := by
  unfold giveInspection; (try dsimp only) <;> (repeat' split) <;> simp_all
@[simp] theorem State.onHead_frame (s : State) (f : Entry → Entry) :
    (State.onHead s f).web = s.web ∧ (State.onHead s f).params = s.params ∧ (State.onHead s f).pins = s.pins
    ∧ (State.onHead s f).store = s.store ∧ (State.onHead s f).reader = s.reader ∧ (State.onHead s f).eyes = s.eyes
    ∧ (State.onHead s f).reg = s.reg ∧ (State.onHead s f).lists = s.lists ∧ (State.onHead s f).zones = s.zones
    ∧ (State.onHead s f).motion = s.motion ∧ (State.onHead s f).beam = s.beam
    ∧ (State.onHead s f).station = s.station ∧ (State.onHead s f).hand = s.hand ∧ (State.onHead s f).link = s.link
    ∧ (State.onHead s f).pending = s.pending := by
  unfold State.onHead; (try dsimp only) <;> (repeat' split) <;> simp_all
@[simp] theorem onEntryPanels_frame (e : Entry) (f : Ctx → Ctx) (s : State) :
    (onEntryPanels e f s).web = s.web ∧ (onEntryPanels e f s).params = s.params
    ∧ (onEntryPanels e f s).pins = s.pins ∧ (onEntryPanels e f s).store = s.store
    ∧ (onEntryPanels e f s).reader = s.reader ∧ (onEntryPanels e f s).eyes = s.eyes
    ∧ (onEntryPanels e f s).reg = s.reg ∧ (onEntryPanels e f s).zones = s.zones
    ∧ (onEntryPanels e f s).cuts = s.cuts ∧ (onEntryPanels e f s).motion = s.motion
    ∧ (onEntryPanels e f s).beam = s.beam ∧ (onEntryPanels e f s).station = s.station
    ∧ (onEntryPanels e f s).hand = s.hand ∧ (onEntryPanels e f s).link = s.link
    ∧ (onEntryPanels e f s).pending = s.pending := by
  refine ⟨?_, ?_, ?_, ?_, ?_, ?_, ?_, ?_, ?_, ?_, ?_, ?_, ?_, ?_, ?_⟩ <;> unfold onEntryPanels <;> (try dsimp only) <;>
    (repeat' (first | split | (rw [forLanes_web] <;> (try (intro _ _)) <;> (try dsimp only)) | (rw [forLanes_params] <;> (try (intro _ _)) <;> (try dsimp only)) | (rw [forLanes_pins] <;> (try (intro _ _)) <;> (try dsimp only)) | (rw [forLanes_store] <;> (try (intro _ _)) <;> (try dsimp only)) | (rw [forLanes_reader] <;> (try (intro _ _)) <;> (try dsimp only)) | (rw [forLanes_eyes] <;> (try (intro _ _)) <;> (try dsimp only)) | (rw [forLanes_reg] <;> (try (intro _ _)) <;> (try dsimp only)) | (rw [forLanes_zones] <;> (try (intro _ _)) <;> (try dsimp only)) | (rw [forLanes_cuts] <;> (try (intro _ _)) <;> (try dsimp only)) | (rw [forLanes_motion] <;> (try (intro _ _)) <;> (try dsimp only)) | (rw [forLanes_beam] <;> (try (intro _ _)) <;> (try dsimp only)) | (rw [forLanes_station] <;> (try (intro _ _)) <;> (try dsimp only)) | (rw [forLanes_hand] <;> (try (intro _ _)) <;> (try dsimp only)) | (rw [forLanes_link] <;> (try (intro _ _)) <;> (try dsimp only)) | (rw [forLanes_pending] <;> (try (intro _ _)) <;> (try dsimp only)))) <;>
    (try simp) <;> (repeat' (first | split | (rw [forLanes_web] <;> (try (intro _ _)) <;> (try dsimp only)) | (rw [forLanes_params] <;> (try (intro _ _)) <;> (try dsimp only)) | (rw [forLanes_pins] <;> (try (intro _ _)) <;> (try dsimp only)) | (rw [forLanes_store] <;> (try (intro _ _)) <;> (try dsimp only)) | (rw [forLanes_reader] <;> (try (intro _ _)) <;> (try dsimp only)) | (rw [forLanes_eyes] <;> (try (intro _ _)) <;> (try dsimp only)) | (rw [forLanes_reg] <;> (try (intro _ _)) <;> (try dsimp only)) | (rw [forLanes_zones] <;> (try (intro _ _)) <;> (try dsimp only)) | (rw [forLanes_cuts] <;> (try (intro _ _)) <;> (try dsimp only)) | (rw [forLanes_motion] <;> (try (intro _ _)) <;> (try dsimp only)) | (rw [forLanes_beam] <;> (try (intro _ _)) <;> (try dsimp only)) | (rw [forLanes_station] <;> (try (intro _ _)) <;> (try dsimp only)) | (rw [forLanes_hand] <;> (try (intro _ _)) <;> (try dsimp only)) | (rw [forLanes_link] <;> (try (intro _ _)) <;> (try dsimp only)) | (rw [forLanes_pending] <;> (try (intro _ _)) <;> (try dsimp only)))) <;> (try simp [forLanes]) <;> (try simp_all)
@[simp] theorem reply_frame (kind tag : Byte) (st : Status) (rest : List Byte) (s : State) :
    (reply kind tag st rest s).web = s.web ∧ (reply kind tag st rest s).params = s.params
    ∧ (reply kind tag st rest s).pins = s.pins ∧ (reply kind tag st rest s).store = s.store
    ∧ (reply kind tag st rest s).reader = s.reader ∧ (reply kind tag st rest s).eyes = s.eyes
    ∧ (reply kind tag st rest s).reg = s.reg ∧ (reply kind tag st rest s).lists = s.lists
    ∧ (reply kind tag st rest s).zones = s.zones ∧ (reply kind tag st rest s).cuts = s.cuts
    ∧ (reply kind tag st rest s).motion = s.motion ∧ (reply kind tag st rest s).beam = s.beam
    ∧ (reply kind tag st rest s).station = s.station ∧ (reply kind tag st rest s).hand = s.hand
    ∧ (reply kind tag st rest s).link.tx = s.link.tx ∧ (reply kind tag st rest s).link.requests = s.link.requests
    ∧ (reply kind tag st rest s).link.rx = s.link.rx ∧ (reply kind tag st rest s).link.baud = s.link.baud
    ∧ (reply kind tag st rest s).pending = s.pending := by
  unfold reply; (try dsimp only) <;> (repeat' split) <;> simp_all
@[simp] theorem pushAction_frame (a : Action) (s : State) :
    (pushAction a s).1.web = s.web ∧ (pushAction a s).1.params = s.params ∧ (pushAction a s).1.pins = s.pins
    ∧ (pushAction a s).1.store = s.store ∧ (pushAction a s).1.reader = s.reader ∧ (pushAction a s).1.eyes = s.eyes
    ∧ (pushAction a s).1.reg = s.reg ∧ (pushAction a s).1.lists = s.lists ∧ (pushAction a s).1.zones = s.zones
    ∧ (pushAction a s).1.cuts = s.cuts ∧ (pushAction a s).1.motion = s.motion ∧ (pushAction a s).1.beam = s.beam
    ∧ (pushAction a s).1.station.relay = s.station.relay ∧ (pushAction a s).1.station.records = s.station.records
    ∧ (pushAction a s).1.station.inFlight = s.station.inFlight ∧ (pushAction a s).1.hand = s.hand
    ∧ (pushAction a s).1.link = s.link ∧ (pushAction a s).1.pending = s.pending := by
  unfold pushAction; (try dsimp only) <;> (repeat' split) <;> simp_all
@[simp] theorem commandSpeed_frame (s : State) :
    (commandSpeed s).1.web = s.web ∧ (commandSpeed s).1.params = s.params ∧ (commandSpeed s).1.pins = s.pins
    ∧ (commandSpeed s).1.store = s.store ∧ (commandSpeed s).1.reader = s.reader ∧ (commandSpeed s).1.eyes = s.eyes
    ∧ (commandSpeed s).1.reg = s.reg ∧ (commandSpeed s).1.lists = s.lists ∧ (commandSpeed s).1.zones = s.zones
    ∧ (commandSpeed s).1.cuts = s.cuts ∧ (commandSpeed s).1.motion.line = s.motion.line
    ∧ (commandSpeed s).1.motion.jobEnd = s.motion.jobEnd ∧ (commandSpeed s).1.beam = s.beam
    ∧ (commandSpeed s).1.station.relay = s.station.relay ∧ (commandSpeed s).1.station.records = s.station.records
    ∧ (commandSpeed s).1.station.inFlight = s.station.inFlight ∧ (commandSpeed s).1.hand = s.hand
    ∧ (commandSpeed s).1.link = s.link ∧ (commandSpeed s).1.pending = s.pending := by
  unfold commandSpeed; (try dsimp only) <;> (repeat' split) <;> simp_all
@[simp] theorem openNip_frame (s : State) :
    (openNip s).1.web = s.web ∧ (openNip s).1.params = s.params ∧ (openNip s).1.pins = s.pins
    ∧ (openNip s).1.store = s.store ∧ (openNip s).1.reader = s.reader ∧ (openNip s).1.eyes = s.eyes
    ∧ (openNip s).1.reg = s.reg ∧ (openNip s).1.lists = s.lists ∧ (openNip s).1.zones = s.zones
    ∧ (openNip s).1.cuts = s.cuts ∧ (openNip s).1.motion.line = s.motion.line
    ∧ (openNip s).1.motion.jobEnd = s.motion.jobEnd ∧ (openNip s).1.beam = s.beam
    ∧ (openNip s).1.station.relay = s.station.relay ∧ (openNip s).1.station.records = s.station.records
    ∧ (openNip s).1.station.inFlight = s.station.inFlight ∧ (openNip s).1.hand = s.hand
    ∧ (openNip s).1.link = s.link ∧ (openNip s).1.pending = s.pending := by
  unfold openNip; (try dsimp only) <;> (repeat' split) <;> simp_all
@[simp] theorem addReason_frame (r : HoldReason) (s : State) :
    (addReason r s).web = s.web ∧ (addReason r s).params = s.params ∧ (addReason r s).pins = s.pins
    ∧ (addReason r s).store = s.store ∧ (addReason r s).reader = s.reader ∧ (addReason r s).eyes = s.eyes
    ∧ (addReason r s).reg = s.reg ∧ (addReason r s).lists = s.lists ∧ (addReason r s).zones = s.zones
    ∧ (addReason r s).cuts = s.cuts ∧ (addReason r s).motion.line = s.motion.line
    ∧ (addReason r s).motion.jobEnd = s.motion.jobEnd ∧ (addReason r s).motion.nip = s.motion.nip
    ∧ (addReason r s).beam = s.beam ∧ (addReason r s).station = s.station ∧ (addReason r s).hand = s.hand
    ∧ (addReason r s).link.reply = s.link.reply ∧ (addReason r s).link.tx = s.link.tx
    ∧ (addReason r s).link.requests = s.link.requests ∧ (addReason r s).link.rx = s.link.rx
    ∧ (addReason r s).link.baud = s.link.baud ∧ (addReason r s).pending = s.pending := by
  unfold addReason; (try dsimp only) <;> (repeat' split) <;> simp_all
@[simp] theorem stationIfFailed_frame (sf : State × Bool) :
    (stationIfFailed sf).web = sf.1.web ∧ (stationIfFailed sf).params = sf.1.params
    ∧ (stationIfFailed sf).pins = sf.1.pins ∧ (stationIfFailed sf).store = sf.1.store
    ∧ (stationIfFailed sf).reader = sf.1.reader ∧ (stationIfFailed sf).eyes = sf.1.eyes
    ∧ (stationIfFailed sf).reg = sf.1.reg ∧ (stationIfFailed sf).lists = sf.1.lists
    ∧ (stationIfFailed sf).zones = sf.1.zones ∧ (stationIfFailed sf).cuts = sf.1.cuts
    ∧ (stationIfFailed sf).motion.line = sf.1.motion.line ∧ (stationIfFailed sf).motion.jobEnd = sf.1.motion.jobEnd
    ∧ (stationIfFailed sf).motion.nip = sf.1.motion.nip ∧ (stationIfFailed sf).beam = sf.1.beam
    ∧ (stationIfFailed sf).station = sf.1.station ∧ (stationIfFailed sf).hand = sf.1.hand
    ∧ (stationIfFailed sf).link.reply = sf.1.link.reply ∧ (stationIfFailed sf).link.tx = sf.1.link.tx
    ∧ (stationIfFailed sf).link.requests = sf.1.link.requests ∧ (stationIfFailed sf).link.rx = sf.1.link.rx
    ∧ (stationIfFailed sf).link.baud = sf.1.link.baud ∧ (stationIfFailed sf).pending = sf.1.pending := by
  unfold stationIfFailed; (try dsimp only) <;> (repeat' split) <;> simp_all
@[simp] theorem enterHolding_frame (s : State) :
    (enterHolding s).web = s.web ∧ (enterHolding s).params = s.params ∧ (enterHolding s).pins = s.pins
    ∧ (enterHolding s).store = s.store ∧ (enterHolding s).reader = s.reader ∧ (enterHolding s).eyes = s.eyes
    ∧ (enterHolding s).reg = s.reg ∧ (enterHolding s).lists = s.lists ∧ (enterHolding s).zones = s.zones
    ∧ (enterHolding s).cuts = s.cuts ∧ (enterHolding s).motion.jobEnd = s.motion.jobEnd
    ∧ (enterHolding s).beam = s.beam ∧ (enterHolding s).station.relay = s.station.relay
    ∧ (enterHolding s).station.records = s.station.records ∧ (enterHolding s).station.inFlight = s.station.inFlight
    ∧ (enterHolding s).hand = s.hand ∧ (enterHolding s).link.reply = s.link.reply
    ∧ (enterHolding s).link.tx = s.link.tx ∧ (enterHolding s).link.requests = s.link.requests
    ∧ (enterHolding s).link.rx = s.link.rx ∧ (enterHolding s).link.baud = s.link.baud
    ∧ (enterHolding s).pending = s.pending := by
  unfold enterHolding; (try dsimp only) <;> (repeat' split) <;> simp_all
@[simp] theorem raiseHold_frame (r : HoldReason) (s : State) :
    (raiseHold r s).web = s.web ∧ (raiseHold r s).params = s.params ∧ (raiseHold r s).pins = s.pins
    ∧ (raiseHold r s).store = s.store ∧ (raiseHold r s).reader = s.reader ∧ (raiseHold r s).eyes = s.eyes
    ∧ (raiseHold r s).reg = s.reg ∧ (raiseHold r s).lists = s.lists ∧ (raiseHold r s).zones = s.zones
    ∧ (raiseHold r s).cuts = s.cuts ∧ (raiseHold r s).motion.jobEnd = s.motion.jobEnd
    ∧ (raiseHold r s).beam = s.beam ∧ (raiseHold r s).station.relay = s.station.relay
    ∧ (raiseHold r s).station.records = s.station.records ∧ (raiseHold r s).station.inFlight = s.station.inFlight
    ∧ (raiseHold r s).hand = s.hand ∧ (raiseHold r s).link.reply = s.link.reply
    ∧ (raiseHold r s).link.tx = s.link.tx ∧ (raiseHold r s).link.requests = s.link.requests
    ∧ (raiseHold r s).link.rx = s.link.rx ∧ (raiseHold r s).link.baud = s.link.baud
    ∧ (raiseHold r s).pending = s.pending := by
  unfold raiseHold; (try dsimp only) <;> (repeat' split) <;> simp_all
@[simp] theorem laminatorFailed_frame (sf : State × Bool) :
    (laminatorFailed sf).web = sf.1.web ∧ (laminatorFailed sf).params = sf.1.params
    ∧ (laminatorFailed sf).pins = sf.1.pins ∧ (laminatorFailed sf).store = sf.1.store
    ∧ (laminatorFailed sf).reader = sf.1.reader ∧ (laminatorFailed sf).eyes = sf.1.eyes
    ∧ (laminatorFailed sf).reg = sf.1.reg ∧ (laminatorFailed sf).lists = sf.1.lists
    ∧ (laminatorFailed sf).zones = sf.1.zones ∧ (laminatorFailed sf).cuts = sf.1.cuts
    ∧ (laminatorFailed sf).motion.jobEnd = sf.1.motion.jobEnd ∧ (laminatorFailed sf).beam = sf.1.beam
    ∧ (laminatorFailed sf).station.relay = sf.1.station.relay
    ∧ (laminatorFailed sf).station.records = sf.1.station.records
    ∧ (laminatorFailed sf).station.inFlight = sf.1.station.inFlight ∧ (laminatorFailed sf).hand = sf.1.hand
    ∧ (laminatorFailed sf).link.reply = sf.1.link.reply ∧ (laminatorFailed sf).link.tx = sf.1.link.tx
    ∧ (laminatorFailed sf).link.requests = sf.1.link.requests ∧ (laminatorFailed sf).link.rx = sf.1.link.rx
    ∧ (laminatorFailed sf).link.baud = sf.1.link.baud ∧ (laminatorFailed sf).pending = sf.1.pending := by
  unfold laminatorFailed; (try dsimp only) <;> (repeat' split) <;> simp_all
@[simp] theorem updateSpeed_frame (s : State) :
    (updateSpeed s).web = s.web ∧ (updateSpeed s).params = s.params ∧ (updateSpeed s).pins = s.pins
    ∧ (updateSpeed s).store = s.store ∧ (updateSpeed s).reader = s.reader ∧ (updateSpeed s).eyes = s.eyes
    ∧ (updateSpeed s).reg = s.reg ∧ (updateSpeed s).lists = s.lists ∧ (updateSpeed s).zones = s.zones
    ∧ (updateSpeed s).cuts = s.cuts ∧ (updateSpeed s).motion.jobEnd = s.motion.jobEnd
    ∧ (updateSpeed s).beam = s.beam ∧ (updateSpeed s).station.relay = s.station.relay
    ∧ (updateSpeed s).station.records = s.station.records ∧ (updateSpeed s).station.inFlight = s.station.inFlight
    ∧ (updateSpeed s).hand = s.hand ∧ (updateSpeed s).link.reply = s.link.reply
    ∧ (updateSpeed s).link.tx = s.link.tx ∧ (updateSpeed s).link.requests = s.link.requests
    ∧ (updateSpeed s).link.rx = s.link.rx ∧ (updateSpeed s).link.baud = s.link.baud
    ∧ (updateSpeed s).pending = s.pending := by
  unfold updateSpeed; (try dsimp only) <;> (repeat' split) <;> simp_all
@[simp] theorem signalJobEnd_frame (s : State) :
    (signalJobEnd s).web = s.web ∧ (signalJobEnd s).params = s.params ∧ (signalJobEnd s).pins = s.pins
    ∧ (signalJobEnd s).store = s.store ∧ (signalJobEnd s).reader = s.reader ∧ (signalJobEnd s).eyes = s.eyes
    ∧ (signalJobEnd s).reg = s.reg ∧ (signalJobEnd s).lists = s.lists ∧ (signalJobEnd s).zones = s.zones
    ∧ (signalJobEnd s).cuts = s.cuts ∧ (signalJobEnd s).beam = s.beam
    ∧ (signalJobEnd s).station.relay = s.station.relay ∧ (signalJobEnd s).station.records = s.station.records
    ∧ (signalJobEnd s).station.inFlight = s.station.inFlight ∧ (signalJobEnd s).hand = s.hand
    ∧ (signalJobEnd s).link.reply = s.link.reply ∧ (signalJobEnd s).link.tx = s.link.tx
    ∧ (signalJobEnd s).link.requests = s.link.requests ∧ (signalJobEnd s).link.rx = s.link.rx
    ∧ (signalJobEnd s).link.baud = s.link.baud ∧ (signalJobEnd s).pending = s.pending := by
  unfold signalJobEnd; (try dsimp only) <;> (repeat' split) <;> simp_all
@[simp] theorem tripHead_frame (s : State) :
    (tripHead s).web = s.web ∧ (tripHead s).params = s.params ∧ (tripHead s).pins = s.pins
    ∧ (tripHead s).store = s.store ∧ (tripHead s).reader = s.reader ∧ (tripHead s).eyes = s.eyes
    ∧ (tripHead s).reg = s.reg ∧ (tripHead s).lists = s.lists ∧ (tripHead s).zones = s.zones
    ∧ (tripHead s).motion = s.motion ∧ (tripHead s).beam = s.beam ∧ (tripHead s).station = s.station
    ∧ (tripHead s).hand = s.hand ∧ (tripHead s).link = s.link ∧ (tripHead s).pending = s.pending := by
  unfold tripHead; (try dsimp only) <;> (repeat' split) <;> simp_all
@[simp] theorem enterTripped_frame (c : TripCause) (s : State) :
    (enterTripped c s).web = s.web ∧ (enterTripped c s).params = s.params ∧ (enterTripped c s).pins = s.pins
    ∧ (enterTripped c s).store = s.store ∧ (enterTripped c s).reader = s.reader ∧ (enterTripped c s).eyes = s.eyes
    ∧ (enterTripped c s).reg = s.reg ∧ (enterTripped c s).lists = s.lists ∧ (enterTripped c s).zones = s.zones
    ∧ (enterTripped c s).motion.jobEnd = s.motion.jobEnd ∧ (enterTripped c s).beam = s.beam
    ∧ (enterTripped c s).station.relay = s.station.relay ∧ (enterTripped c s).station.records = s.station.records
    ∧ (enterTripped c s).station.inFlight = s.station.inFlight ∧ (enterTripped c s).hand = s.hand
    ∧ (enterTripped c s).link.reply = s.link.reply ∧ (enterTripped c s).link.tx = s.link.tx
    ∧ (enterTripped c s).link.requests = s.link.requests ∧ (enterTripped c s).link.rx = s.link.rx
    ∧ (enterTripped c s).link.baud = s.link.baud ∧ (enterTripped c s).pending = s.pending := by
  unfold enterTripped; (try dsimp only) <;> (repeat' split) <;> simp_all
@[simp] theorem raiseTrip_frame (c : TripCause) (s : State) :
    (raiseTrip c s).web = s.web ∧ (raiseTrip c s).params = s.params ∧ (raiseTrip c s).pins = s.pins
    ∧ (raiseTrip c s).store = s.store ∧ (raiseTrip c s).reader = s.reader ∧ (raiseTrip c s).eyes = s.eyes
    ∧ (raiseTrip c s).reg = s.reg ∧ (raiseTrip c s).lists = s.lists ∧ (raiseTrip c s).zones = s.zones
    ∧ (raiseTrip c s).motion.jobEnd = s.motion.jobEnd ∧ (raiseTrip c s).beam = s.beam
    ∧ (raiseTrip c s).station.relay = s.station.relay ∧ (raiseTrip c s).station.records = s.station.records
    ∧ (raiseTrip c s).station.inFlight = s.station.inFlight ∧ (raiseTrip c s).hand = s.hand
    ∧ (raiseTrip c s).link.reply = s.link.reply ∧ (raiseTrip c s).link.tx = s.link.tx
    ∧ (raiseTrip c s).link.requests = s.link.requests ∧ (raiseTrip c s).link.rx = s.link.rx
    ∧ (raiseTrip c s).link.baud = s.link.baud ∧ (raiseTrip c s).pending = s.pending := by
  unfold raiseTrip; (try dsimp only) <;> (repeat' split) <;> simp_all
@[simp] theorem tripIfAsserted_frame (i : TripInput) (s : State) :
    (tripIfAsserted i s).web = s.web ∧ (tripIfAsserted i s).params = s.params ∧ (tripIfAsserted i s).pins = s.pins
    ∧ (tripIfAsserted i s).store = s.store ∧ (tripIfAsserted i s).reader = s.reader
    ∧ (tripIfAsserted i s).eyes = s.eyes ∧ (tripIfAsserted i s).reg = s.reg ∧ (tripIfAsserted i s).lists = s.lists
    ∧ (tripIfAsserted i s).zones = s.zones ∧ (tripIfAsserted i s).motion.jobEnd = s.motion.jobEnd
    ∧ (tripIfAsserted i s).beam = s.beam ∧ (tripIfAsserted i s).station.relay = s.station.relay
    ∧ (tripIfAsserted i s).station.records = s.station.records
    ∧ (tripIfAsserted i s).station.inFlight = s.station.inFlight ∧ (tripIfAsserted i s).hand = s.hand
    ∧ (tripIfAsserted i s).link.reply = s.link.reply ∧ (tripIfAsserted i s).link.tx = s.link.tx
    ∧ (tripIfAsserted i s).link.requests = s.link.requests ∧ (tripIfAsserted i s).link.rx = s.link.rx
    ∧ (tripIfAsserted i s).link.baud = s.link.baud ∧ (tripIfAsserted i s).pending = s.pending := by
  unfold tripIfAsserted; (try dsimp only) <;> (repeat' split) <;> simp_all
@[simp] theorem tripAsserted_frame (s : State) :
    (tripAsserted s).web = s.web ∧ (tripAsserted s).params = s.params ∧ (tripAsserted s).pins = s.pins
    ∧ (tripAsserted s).store = s.store ∧ (tripAsserted s).reader = s.reader ∧ (tripAsserted s).eyes = s.eyes
    ∧ (tripAsserted s).reg = s.reg ∧ (tripAsserted s).lists = s.lists ∧ (tripAsserted s).zones = s.zones
    ∧ (tripAsserted s).motion.jobEnd = s.motion.jobEnd ∧ (tripAsserted s).beam = s.beam
    ∧ (tripAsserted s).station.relay = s.station.relay ∧ (tripAsserted s).station.records = s.station.records
    ∧ (tripAsserted s).station.inFlight = s.station.inFlight ∧ (tripAsserted s).hand = s.hand
    ∧ (tripAsserted s).link.reply = s.link.reply ∧ (tripAsserted s).link.tx = s.link.tx
    ∧ (tripAsserted s).link.requests = s.link.requests ∧ (tripAsserted s).link.rx = s.link.rx
    ∧ (tripAsserted s).link.baud = s.link.baud ∧ (tripAsserted s).pending = s.pending := by
  unfold tripAsserted; (try dsimp only) <;> (repeat' split) <;> simp_all
@[simp] theorem judgeContent_frame (s : State) :
    (judgeContent s).web = s.web ∧ (judgeContent s).params = s.params ∧ (judgeContent s).pins = s.pins
    ∧ (judgeContent s).store = s.store ∧ (judgeContent s).reader = s.reader ∧ (judgeContent s).eyes = s.eyes
    ∧ (judgeContent s).reg = s.reg ∧ (judgeContent s).lists = s.lists ∧ (judgeContent s).zones = s.zones
    ∧ (judgeContent s).cuts = s.cuts ∧ (judgeContent s).motion.jobEnd = s.motion.jobEnd
    ∧ (judgeContent s).beam = s.beam ∧ (judgeContent s).station.relay = s.station.relay
    ∧ (judgeContent s).station.records = s.station.records ∧ (judgeContent s).station.inFlight = s.station.inFlight
    ∧ (judgeContent s).hand = s.hand ∧ (judgeContent s).link.reply = s.link.reply
    ∧ (judgeContent s).link.tx = s.link.tx ∧ (judgeContent s).link.requests = s.link.requests
    ∧ (judgeContent s).link.rx = s.link.rx ∧ (judgeContent s).link.baud = s.link.baud
    ∧ (judgeContent s).pending = s.pending := by
  unfold judgeContent; (try dsimp only) <;> (repeat' split) <;> simp_all
@[simp] theorem sendDrive_frame (d : DriveCommand) (o : Outfeed) (s : State) :
    (sendDrive d o s).web = s.web ∧ (sendDrive d o s).params = s.params ∧ (sendDrive d o s).pins = s.pins
    ∧ (sendDrive d o s).store = s.store ∧ (sendDrive d o s).reader = s.reader ∧ (sendDrive d o s).eyes = s.eyes
    ∧ (sendDrive d o s).reg = s.reg ∧ (sendDrive d o s).lists = s.lists ∧ (sendDrive d o s).zones = s.zones
    ∧ (sendDrive d o s).cuts = s.cuts ∧ (sendDrive d o s).motion.line = s.motion.line
    ∧ (sendDrive d o s).motion.jobEnd = s.motion.jobEnd ∧ (sendDrive d o s).motion.nip = s.motion.nip
    ∧ (sendDrive d o s).beam = s.beam ∧ (sendDrive d o s).station = s.station ∧ (sendDrive d o s).hand = s.hand
    ∧ (sendDrive d o s).link = s.link ∧ (sendDrive d o s).pending = s.pending := by
  unfold sendDrive; (try dsimp only) <;> (repeat' split) <;> simp_all
@[simp] theorem issueIndex_frame (e : Entry) (s : State) :
    (issueIndex e s).web = s.web ∧ (issueIndex e s).params = s.params ∧ (issueIndex e s).pins = s.pins
    ∧ (issueIndex e s).store = s.store ∧ (issueIndex e s).reader = s.reader ∧ (issueIndex e s).eyes = s.eyes
    ∧ (issueIndex e s).reg = s.reg ∧ (issueIndex e s).lists = s.lists ∧ (issueIndex e s).zones = s.zones
    ∧ (issueIndex e s).motion.line = s.motion.line ∧ (issueIndex e s).motion.jobEnd = s.motion.jobEnd
    ∧ (issueIndex e s).motion.nip = s.motion.nip ∧ (issueIndex e s).beam = s.beam
    ∧ (issueIndex e s).station = s.station ∧ (issueIndex e s).hand = s.hand ∧ (issueIndex e s).link = s.link
    ∧ (issueIndex e s).pending = s.pending := by
  unfold issueIndex; (try dsimp only) <;> (repeat' split) <;> simp_all
@[simp] theorem judgeOutfeed_frame (s : State) :
    (judgeOutfeed s).web = s.web ∧ (judgeOutfeed s).params = s.params ∧ (judgeOutfeed s).pins = s.pins
    ∧ (judgeOutfeed s).store = s.store ∧ (judgeOutfeed s).reader = s.reader ∧ (judgeOutfeed s).eyes = s.eyes
    ∧ (judgeOutfeed s).reg = s.reg ∧ (judgeOutfeed s).lists = s.lists ∧ (judgeOutfeed s).zones = s.zones
    ∧ (judgeOutfeed s).motion.line = s.motion.line ∧ (judgeOutfeed s).motion.jobEnd = s.motion.jobEnd
    ∧ (judgeOutfeed s).motion.nip = s.motion.nip ∧ (judgeOutfeed s).beam = s.beam
    ∧ (judgeOutfeed s).station = s.station ∧ (judgeOutfeed s).hand = s.hand ∧ (judgeOutfeed s).link = s.link
    ∧ (judgeOutfeed s).pending = s.pending := by
  unfold judgeOutfeed; (try dsimp only) <;> (repeat' split) <;> simp_all
@[simp] theorem judgeHolding_frame (entered headChanged : Bool) (s : State) :
    (judgeHolding entered headChanged s).web = s.web ∧ (judgeHolding entered headChanged s).params = s.params
    ∧ (judgeHolding entered headChanged s).pins = s.pins ∧ (judgeHolding entered headChanged s).store = s.store
    ∧ (judgeHolding entered headChanged s).reader = s.reader ∧ (judgeHolding entered headChanged s).eyes = s.eyes
    ∧ (judgeHolding entered headChanged s).reg = s.reg ∧ (judgeHolding entered headChanged s).lists = s.lists
    ∧ (judgeHolding entered headChanged s).zones = s.zones
    ∧ (judgeHolding entered headChanged s).motion.line = s.motion.line
    ∧ (judgeHolding entered headChanged s).motion.jobEnd = s.motion.jobEnd
    ∧ (judgeHolding entered headChanged s).motion.nip = s.motion.nip
    ∧ (judgeHolding entered headChanged s).beam = s.beam ∧ (judgeHolding entered headChanged s).station = s.station
    ∧ (judgeHolding entered headChanged s).hand = s.hand ∧ (judgeHolding entered headChanged s).link = s.link
    ∧ (judgeHolding entered headChanged s).pending = s.pending := by
  unfold judgeHolding; (try dsimp only) <;> (repeat' split) <;> simp_all
@[simp] theorem inspectBegin_frame (n : Lane) (i : Option Interval) (s : State) :
    (inspectBegin n i s).web = s.web ∧ (inspectBegin n i s).params = s.params ∧ (inspectBegin n i s).pins = s.pins
    ∧ (inspectBegin n i s).store = s.store ∧ (inspectBegin n i s).reader = s.reader
    ∧ (inspectBegin n i s).eyes = s.eyes ∧ (inspectBegin n i s).reg = s.reg ∧ (inspectBegin n i s).zones = s.zones
    ∧ (inspectBegin n i s).cuts = s.cuts ∧ (inspectBegin n i s).motion = s.motion
    ∧ (inspectBegin n i s).beam = s.beam ∧ (inspectBegin n i s).station = s.station
    ∧ (inspectBegin n i s).hand = s.hand ∧ (inspectBegin n i s).link = s.link
    ∧ (inspectBegin n i s).pending = s.pending := by
  unfold inspectBegin; (try dsimp only) <;> (repeat' split) <;> simp_all
@[simp] theorem armStart_frame (n : Lane) (src : Source) (x : Int) (s : State) :
    (armStart n src x s).web = s.web ∧ (armStart n src x s).params = s.params ∧ (armStart n src x s).pins = s.pins
    ∧ (armStart n src x s).store = s.store ∧ (armStart n src x s).reader = s.reader
    ∧ (armStart n src x s).reg = s.reg ∧ (armStart n src x s).zones = s.zones ∧ (armStart n src x s).cuts = s.cuts
    ∧ (armStart n src x s).motion = s.motion ∧ (armStart n src x s).beam = s.beam
    ∧ (armStart n src x s).station = s.station ∧ (armStart n src x s).hand = s.hand
    ∧ (armStart n src x s).link = s.link ∧ (armStart n src x s).pending = s.pending := by
  unfold armStart; (try dsimp only) <;> (repeat' split) <;> simp_all
@[simp] theorem armPitch_frame (n : Lane) (src : Source) (x : Int) (s : State) :
    (armPitch n src x s).web = s.web ∧ (armPitch n src x s).params = s.params ∧ (armPitch n src x s).pins = s.pins
    ∧ (armPitch n src x s).store = s.store ∧ (armPitch n src x s).reader = s.reader
    ∧ (armPitch n src x s).reg = s.reg ∧ (armPitch n src x s).zones = s.zones ∧ (armPitch n src x s).cuts = s.cuts
    ∧ (armPitch n src x s).motion = s.motion ∧ (armPitch n src x s).beam = s.beam
    ∧ (armPitch n src x s).station = s.station ∧ (armPitch n src x s).hand = s.hand
    ∧ (armPitch n src x s).link = s.link ∧ (armPitch n src x s).pending = s.pending := by
  unfold armPitch; (try dsimp only) <;> (repeat' split) <;> simp_all
@[simp] theorem formStart_frame (n : Lane) (s : State) :
    (formStart n s).web = s.web ∧ (formStart n s).params = s.params ∧ (formStart n s).pins = s.pins
    ∧ (formStart n s).store = s.store ∧ (formStart n s).reader = s.reader ∧ (formStart n s).zones = s.zones
    ∧ (formStart n s).cuts = s.cuts ∧ (formStart n s).motion = s.motion ∧ (formStart n s).beam = s.beam
    ∧ (formStart n s).station = s.station ∧ (formStart n s).hand = s.hand ∧ (formStart n s).link = s.link
    ∧ (formStart n s).pending = s.pending := by
  unfold formStart; (try dsimp only) <;> (repeat' split) <;> simp_all
@[simp] theorem reformStart_frame (n : Lane) (s : State) :
    (reformStart n s).web = s.web ∧ (reformStart n s).params = s.params ∧ (reformStart n s).pins = s.pins
    ∧ (reformStart n s).store = s.store ∧ (reformStart n s).reader = s.reader ∧ (reformStart n s).zones = s.zones
    ∧ (reformStart n s).cuts = s.cuts ∧ (reformStart n s).motion = s.motion ∧ (reformStart n s).beam = s.beam
    ∧ (reformStart n s).station = s.station ∧ (reformStart n s).hand = s.hand ∧ (reformStart n s).link = s.link
    ∧ (reformStart n s).pending = s.pending := by
  unfold reformStart; (try dsimp only) <;> (repeat' split) <;> simp_all
@[simp] theorem setEnd_frame (n : Lane) (e : Int) (s : State) :
    (setEnd n e s).web = s.web ∧ (setEnd n e s).params = s.params ∧ (setEnd n e s).pins = s.pins
    ∧ (setEnd n e s).store = s.store ∧ (setEnd n e s).reader = s.reader ∧ (setEnd n e s).zones = s.zones
    ∧ (setEnd n e s).cuts = s.cuts ∧ (setEnd n e s).motion = s.motion ∧ (setEnd n e s).beam = s.beam
    ∧ (setEnd n e s).station = s.station ∧ (setEnd n e s).hand = s.hand ∧ (setEnd n e s).link = s.link
    ∧ (setEnd n e s).pending = s.pending := by
  unfold setEnd; (try dsimp only) <;> (repeat' split) <;> simp_all
@[simp] theorem formPitch_frame (n : Lane) (s : State) :
    (formPitch n s).web = s.web ∧ (formPitch n s).params = s.params ∧ (formPitch n s).pins = s.pins
    ∧ (formPitch n s).store = s.store ∧ (formPitch n s).reader = s.reader ∧ (formPitch n s).zones = s.zones
    ∧ (formPitch n s).cuts = s.cuts ∧ (formPitch n s).motion = s.motion ∧ (formPitch n s).beam = s.beam
    ∧ (formPitch n s).station = s.station ∧ (formPitch n s).hand = s.hand ∧ (formPitch n s).link = s.link
    ∧ (formPitch n s).pending = s.pending := by
  unfold formPitch; (try dsimp only) <;> (repeat' split) <;> simp_all
@[simp] theorem addPlaced_frame (z : Zone) (s : State) :
    (addPlaced z s).web = s.web ∧ (addPlaced z s).params = s.params ∧ (addPlaced z s).pins = s.pins
    ∧ (addPlaced z s).store = s.store ∧ (addPlaced z s).reader = s.reader ∧ (addPlaced z s).eyes = s.eyes
    ∧ (addPlaced z s).reg = s.reg ∧ (addPlaced z s).lists = s.lists ∧ (addPlaced z s).cuts = s.cuts
    ∧ (addPlaced z s).motion = s.motion ∧ (addPlaced z s).beam = s.beam ∧ (addPlaced z s).station = s.station
    ∧ (addPlaced z s).hand = s.hand ∧ (addPlaced z s).link.reply = s.link.reply
    ∧ (addPlaced z s).link.tx = s.link.tx ∧ (addPlaced z s).link.requests = s.link.requests
    ∧ (addPlaced z s).link.rx = s.link.rx ∧ (addPlaced z s).link.baud = s.link.baud
    ∧ (addPlaced z s).pending = s.pending := by
  unfold addPlaced; (try dsimp only) <;> (repeat' split) <;> simp_all
@[simp] theorem reportZone_frame (lo len : Int) (cause : ZoneCause) (s : State) :
    (reportZone lo len cause s).web = s.web ∧ (reportZone lo len cause s).params = s.params
    ∧ (reportZone lo len cause s).pins = s.pins ∧ (reportZone lo len cause s).store = s.store
    ∧ (reportZone lo len cause s).reader = s.reader ∧ (reportZone lo len cause s).eyes = s.eyes
    ∧ (reportZone lo len cause s).reg = s.reg ∧ (reportZone lo len cause s).lists = s.lists
    ∧ (reportZone lo len cause s).cuts = s.cuts ∧ (reportZone lo len cause s).motion = s.motion
    ∧ (reportZone lo len cause s).beam = s.beam ∧ (reportZone lo len cause s).station = s.station
    ∧ (reportZone lo len cause s).hand = s.hand ∧ (reportZone lo len cause s).link.reply = s.link.reply
    ∧ (reportZone lo len cause s).link.tx = s.link.tx ∧ (reportZone lo len cause s).link.requests = s.link.requests
    ∧ (reportZone lo len cause s).link.rx = s.link.rx ∧ (reportZone lo len cause s).link.baud = s.link.baud
    ∧ (reportZone lo len cause s).pending = s.pending := by
  unfold reportZone; (try dsimp only) <;> (repeat' split) <;> simp_all
@[simp] theorem reportSplice_frame (s : State) :
    (reportSplice s).web = s.web ∧ (reportSplice s).params = s.params ∧ (reportSplice s).pins = s.pins
    ∧ (reportSplice s).store = s.store ∧ (reportSplice s).reader = s.reader ∧ (reportSplice s).eyes = s.eyes
    ∧ (reportSplice s).reg = s.reg ∧ (reportSplice s).lists = s.lists ∧ (reportSplice s).cuts = s.cuts
    ∧ (reportSplice s).motion = s.motion ∧ (reportSplice s).beam = s.beam ∧ (reportSplice s).station = s.station
    ∧ (reportSplice s).hand = s.hand ∧ (reportSplice s).link.reply = s.link.reply
    ∧ (reportSplice s).link.tx = s.link.tx ∧ (reportSplice s).link.requests = s.link.requests
    ∧ (reportSplice s).link.rx = s.link.rx ∧ (reportSplice s).link.baud = s.link.baud
    ∧ (reportSplice s).pending = s.pending := by
  unfold reportSplice; (try dsimp only) <;> (repeat' split) <;> simp_all
@[simp] theorem reportDwell_frame (s : State) :
    (reportDwell s).web = s.web ∧ (reportDwell s).params = s.params ∧ (reportDwell s).pins = s.pins
    ∧ (reportDwell s).store = s.store ∧ (reportDwell s).reader = s.reader ∧ (reportDwell s).eyes = s.eyes
    ∧ (reportDwell s).reg = s.reg ∧ (reportDwell s).lists = s.lists ∧ (reportDwell s).cuts = s.cuts
    ∧ (reportDwell s).motion = s.motion ∧ (reportDwell s).beam = s.beam ∧ (reportDwell s).station = s.station
    ∧ (reportDwell s).hand = s.hand ∧ (reportDwell s).link.reply = s.link.reply
    ∧ (reportDwell s).link.tx = s.link.tx ∧ (reportDwell s).link.requests = s.link.requests
    ∧ (reportDwell s).link.rx = s.link.rx ∧ (reportDwell s).link.baud = s.link.baud
    ∧ (reportDwell s).pending = s.pending := by
  unfold reportDwell; (try dsimp only) <;> (repeat' split) <;> simp_all
@[simp] theorem removeZones_frame (s : State) :
    (removeZones s).web = s.web ∧ (removeZones s).params = s.params ∧ (removeZones s).pins = s.pins
    ∧ (removeZones s).store = s.store ∧ (removeZones s).reader = s.reader ∧ (removeZones s).eyes = s.eyes
    ∧ (removeZones s).reg = s.reg ∧ (removeZones s).cuts = s.cuts ∧ (removeZones s).motion = s.motion
    ∧ (removeZones s).beam = s.beam ∧ (removeZones s).station = s.station ∧ (removeZones s).hand = s.hand
    ∧ (removeZones s).link = s.link ∧ (removeZones s).pending = s.pending := by
  refine ⟨?_, ?_, ?_, ?_, ?_, ?_, ?_, ?_, ?_, ?_, ?_, ?_, ?_, ?_⟩ <;> unfold removeZones <;> (try dsimp only) <;>
    (repeat' (first | split | (rw [forLanes_web] <;> (try (intro _ _)) <;> (try dsimp only)) | (rw [forLanes_params] <;> (try (intro _ _)) <;> (try dsimp only)) | (rw [forLanes_pins] <;> (try (intro _ _)) <;> (try dsimp only)) | (rw [forLanes_store] <;> (try (intro _ _)) <;> (try dsimp only)) | (rw [forLanes_reader] <;> (try (intro _ _)) <;> (try dsimp only)) | (rw [forLanes_eyes] <;> (try (intro _ _)) <;> (try dsimp only)) | (rw [forLanes_reg] <;> (try (intro _ _)) <;> (try dsimp only)) | (rw [forLanes_cuts] <;> (try (intro _ _)) <;> (try dsimp only)) | (rw [forLanes_motion] <;> (try (intro _ _)) <;> (try dsimp only)) | (rw [forLanes_beam] <;> (try (intro _ _)) <;> (try dsimp only)) | (rw [forLanes_station] <;> (try (intro _ _)) <;> (try dsimp only)) | (rw [forLanes_hand] <;> (try (intro _ _)) <;> (try dsimp only)) | (rw [forLanes_link] <;> (try (intro _ _)) <;> (try dsimp only)) | (rw [forLanes_pending] <;> (try (intro _ _)) <;> (try dsimp only)))) <;>
    (try simp) <;> (repeat' (first | split | (rw [forLanes_web] <;> (try (intro _ _)) <;> (try dsimp only)) | (rw [forLanes_params] <;> (try (intro _ _)) <;> (try dsimp only)) | (rw [forLanes_pins] <;> (try (intro _ _)) <;> (try dsimp only)) | (rw [forLanes_store] <;> (try (intro _ _)) <;> (try dsimp only)) | (rw [forLanes_reader] <;> (try (intro _ _)) <;> (try dsimp only)) | (rw [forLanes_eyes] <;> (try (intro _ _)) <;> (try dsimp only)) | (rw [forLanes_reg] <;> (try (intro _ _)) <;> (try dsimp only)) | (rw [forLanes_cuts] <;> (try (intro _ _)) <;> (try dsimp only)) | (rw [forLanes_motion] <;> (try (intro _ _)) <;> (try dsimp only)) | (rw [forLanes_beam] <;> (try (intro _ _)) <;> (try dsimp only)) | (rw [forLanes_station] <;> (try (intro _ _)) <;> (try dsimp only)) | (rw [forLanes_hand] <;> (try (intro _ _)) <;> (try dsimp only)) | (rw [forLanes_link] <;> (try (intro _ _)) <;> (try dsimp only)) | (rw [forLanes_pending] <;> (try (intro _ _)) <;> (try dsimp only)))) <;> (try simp [forLanes]) <;> (try simp_all)
@[simp] theorem retargetLane_frame (order : Nat) (x : Int) (merged : Bool) (p : Option LanePart) (n : Lane) (s : State) :
    (retargetLane order x merged p n s).web = s.web ∧ (retargetLane order x merged p n s).params = s.params
    ∧ (retargetLane order x merged p n s).pins = s.pins ∧ (retargetLane order x merged p n s).store = s.store
    ∧ (retargetLane order x merged p n s).reader = s.reader ∧ (retargetLane order x merged p n s).zones = s.zones
    ∧ (retargetLane order x merged p n s).cuts = s.cuts ∧ (retargetLane order x merged p n s).motion = s.motion
    ∧ (retargetLane order x merged p n s).beam = s.beam ∧ (retargetLane order x merged p n s).station = s.station
    ∧ (retargetLane order x merged p n s).hand = s.hand ∧ (retargetLane order x merged p n s).link = s.link
    ∧ (retargetLane order x merged p n s).pending = s.pending := by
  unfold retargetLane; (try dsimp only) <;> (repeat' split) <;> simp_all
@[simp] theorem retarget_frame (order : Nat) (x : Int) (merged : Bool) (parts : Lanes (Option LanePart)) (s : State) :
    (retarget order x merged parts s).web = s.web ∧ (retarget order x merged parts s).params = s.params
    ∧ (retarget order x merged parts s).pins = s.pins ∧ (retarget order x merged parts s).store = s.store
    ∧ (retarget order x merged parts s).reader = s.reader ∧ (retarget order x merged parts s).zones = s.zones
    ∧ (retarget order x merged parts s).cuts = s.cuts ∧ (retarget order x merged parts s).motion = s.motion
    ∧ (retarget order x merged parts s).beam = s.beam ∧ (retarget order x merged parts s).station = s.station
    ∧ (retarget order x merged parts s).hand = s.hand ∧ (retarget order x merged parts s).link = s.link
    ∧ (retarget order x merged parts s).pending = s.pending := by
  unfold retarget; (try dsimp only) <;> (repeat' split) <;> simp_all
@[simp] theorem placeEntry_frame (e : Entry) (s : State) :
    (placeEntry e s).web = s.web ∧ (placeEntry e s).params = s.params ∧ (placeEntry e s).pins = s.pins
    ∧ (placeEntry e s).store = s.store ∧ (placeEntry e s).reader = s.reader ∧ (placeEntry e s).zones = s.zones
    ∧ (placeEntry e s).motion = s.motion ∧ (placeEntry e s).beam = s.beam ∧ (placeEntry e s).station = s.station
    ∧ (placeEntry e s).hand = s.hand ∧ (placeEntry e s).link = s.link ∧ (placeEntry e s).pending = s.pending := by
  unfold placeEntry; (try dsimp only) <;> (repeat' split) <;> simp_all
@[simp] theorem takeOver_frame (x : Entry) (e : Entry) (s : State) :
    (takeOver x e s).web = s.web ∧ (takeOver x e s).params = s.params ∧ (takeOver x e s).pins = s.pins
    ∧ (takeOver x e s).store = s.store ∧ (takeOver x e s).reader = s.reader ∧ (takeOver x e s).zones = s.zones
    ∧ (takeOver x e s).cuts = s.cuts ∧ (takeOver x e s).motion = s.motion ∧ (takeOver x e s).beam = s.beam
    ∧ (takeOver x e s).station = s.station ∧ (takeOver x e s).hand = s.hand ∧ (takeOver x e s).link = s.link
    ∧ (takeOver x e s).pending = s.pending := by
  unfold takeOver; (try dsimp only) <;> (repeat' split) <;> simp_all
@[simp] theorem endLockLane_frame (parts : Lanes (Option LanePart)) (n : Lane) (s : State) :
    (endLockLane parts n s).web = s.web ∧ (endLockLane parts n s).params = s.params
    ∧ (endLockLane parts n s).pins = s.pins ∧ (endLockLane parts n s).store = s.store
    ∧ (endLockLane parts n s).reader = s.reader ∧ (endLockLane parts n s).eyes = s.eyes
    ∧ (endLockLane parts n s).reg = s.reg ∧ (endLockLane parts n s).zones = s.zones
    ∧ (endLockLane parts n s).cuts = s.cuts ∧ (endLockLane parts n s).motion = s.motion
    ∧ (endLockLane parts n s).beam = s.beam ∧ (endLockLane parts n s).station = s.station
    ∧ (endLockLane parts n s).hand = s.hand ∧ (endLockLane parts n s).link = s.link
    ∧ (endLockLane parts n s).pending = s.pending := by
  unfold endLockLane; (try dsimp only) <;> (repeat' split) <;> simp_all
@[simp] theorem starvationCheck_frame (parts : Lanes (Option LanePart)) (s : State) :
    (starvationCheck parts s).web = s.web ∧ (starvationCheck parts s).params = s.params
    ∧ (starvationCheck parts s).pins = s.pins ∧ (starvationCheck parts s).store = s.store
    ∧ (starvationCheck parts s).reader = s.reader ∧ (starvationCheck parts s).eyes = s.eyes
    ∧ (starvationCheck parts s).reg = s.reg ∧ (starvationCheck parts s).lists = s.lists
    ∧ (starvationCheck parts s).zones = s.zones ∧ (starvationCheck parts s).cuts = s.cuts
    ∧ (starvationCheck parts s).motion.jobEnd = s.motion.jobEnd ∧ (starvationCheck parts s).beam = s.beam
    ∧ (starvationCheck parts s).station.relay = s.station.relay
    ∧ (starvationCheck parts s).station.records = s.station.records
    ∧ (starvationCheck parts s).station.inFlight = s.station.inFlight ∧ (starvationCheck parts s).hand = s.hand
    ∧ (starvationCheck parts s).link.reply = s.link.reply ∧ (starvationCheck parts s).link.tx = s.link.tx
    ∧ (starvationCheck parts s).link.requests = s.link.requests ∧ (starvationCheck parts s).link.rx = s.link.rx
    ∧ (starvationCheck parts s).link.baud = s.link.baud ∧ (starvationCheck parts s).pending = s.pending := by
  unfold starvationCheck; (try dsimp only) <;> (repeat' split) <;> simp_all
@[simp] theorem lockEntry_frame (x : Entry) (s : State) :
    (lockEntry x s).web = s.web ∧ (lockEntry x s).params = s.params ∧ (lockEntry x s).pins = s.pins
    ∧ (lockEntry x s).store = s.store ∧ (lockEntry x s).reader = s.reader ∧ (lockEntry x s).zones = s.zones
    ∧ (lockEntry x s).motion.jobEnd = s.motion.jobEnd ∧ (lockEntry x s).beam = s.beam
    ∧ (lockEntry x s).station.relay = s.station.relay ∧ (lockEntry x s).station.records = s.station.records
    ∧ (lockEntry x s).station.inFlight = s.station.inFlight ∧ (lockEntry x s).hand = s.hand
    ∧ (lockEntry x s).link.reply = s.link.reply ∧ (lockEntry x s).link.tx = s.link.tx
    ∧ (lockEntry x s).link.requests = s.link.requests ∧ (lockEntry x s).link.rx = s.link.rx
    ∧ (lockEntry x s).link.baud = s.link.baud ∧ (lockEntry x s).pending = s.pending := by
  unfold lockEntry; (try dsimp only) <;> (repeat' split) <;> simp_all
@[simp] theorem lockDue_frame (k : Nat) (s : State) :
    (lockDue k s).web = s.web ∧ (lockDue k s).params = s.params ∧ (lockDue k s).pins = s.pins
    ∧ (lockDue k s).store = s.store ∧ (lockDue k s).reader = s.reader ∧ (lockDue k s).zones = s.zones
    ∧ (lockDue k s).motion.jobEnd = s.motion.jobEnd ∧ (lockDue k s).beam = s.beam
    ∧ (lockDue k s).station.relay = s.station.relay ∧ (lockDue k s).station.records = s.station.records
    ∧ (lockDue k s).station.inFlight = s.station.inFlight ∧ (lockDue k s).hand = s.hand
    ∧ (lockDue k s).link.reply = s.link.reply ∧ (lockDue k s).link.tx = s.link.tx
    ∧ (lockDue k s).link.requests = s.link.requests ∧ (lockDue k s).link.rx = s.link.rx
    ∧ (lockDue k s).link.baud = s.link.baud ∧ (lockDue k s).pending = s.pending := by
  induction k generalizing s with
  | zero => simp [lockDue]
  | succ k ih => unfold lockDue; (try dsimp only) <;> (repeat' split) <;> simp_all
@[simp] theorem judgeLocks_frame (s : State) :
    (judgeLocks s).web = s.web ∧ (judgeLocks s).params = s.params ∧ (judgeLocks s).pins = s.pins
    ∧ (judgeLocks s).store = s.store ∧ (judgeLocks s).reader = s.reader ∧ (judgeLocks s).zones = s.zones
    ∧ (judgeLocks s).motion.jobEnd = s.motion.jobEnd ∧ (judgeLocks s).beam = s.beam
    ∧ (judgeLocks s).station.relay = s.station.relay ∧ (judgeLocks s).station.records = s.station.records
    ∧ (judgeLocks s).station.inFlight = s.station.inFlight ∧ (judgeLocks s).hand = s.hand
    ∧ (judgeLocks s).link.reply = s.link.reply ∧ (judgeLocks s).link.tx = s.link.tx
    ∧ (judgeLocks s).link.requests = s.link.requests ∧ (judgeLocks s).link.rx = s.link.rx
    ∧ (judgeLocks s).link.baud = s.link.baud ∧ (judgeLocks s).pending = s.pending := by
  unfold judgeLocks; (try dsimp only) <;> (repeat' split) <;> simp_all
@[simp] theorem createEntry_frame (n : Lane) (p : LanePart) (x : Int) (s : State) :
    (createEntry n p x s).web = s.web ∧ (createEntry n p x s).params = s.params
    ∧ (createEntry n p x s).pins = s.pins ∧ (createEntry n p x s).store = s.store
    ∧ (createEntry n p x s).reader = s.reader ∧ (createEntry n p x s).zones = s.zones
    ∧ (createEntry n p x s).motion.jobEnd = s.motion.jobEnd ∧ (createEntry n p x s).beam = s.beam
    ∧ (createEntry n p x s).station.relay = s.station.relay
    ∧ (createEntry n p x s).station.records = s.station.records
    ∧ (createEntry n p x s).station.inFlight = s.station.inFlight ∧ (createEntry n p x s).hand = s.hand
    ∧ (createEntry n p x s).link.reply = s.link.reply ∧ (createEntry n p x s).link.tx = s.link.tx
    ∧ (createEntry n p x s).link.requests = s.link.requests ∧ (createEntry n p x s).link.rx = s.link.rx
    ∧ (createEntry n p x s).link.baud = s.link.baud ∧ (createEntry n p x s).pending = s.pending := by
  unfold createEntry; (try dsimp only) <;> (repeat' split) <;> simp_all
@[simp] theorem moveEntry_frame (e : Entry) (x : Int) (f : Lanes (Option LanePart) → Lanes (Option LanePart)) (s : State) :
    (moveEntry e x f s).web = s.web ∧ (moveEntry e x f s).params = s.params ∧ (moveEntry e x f s).pins = s.pins
    ∧ (moveEntry e x f s).store = s.store ∧ (moveEntry e x f s).reader = s.reader
    ∧ (moveEntry e x f s).zones = s.zones ∧ (moveEntry e x f s).motion.jobEnd = s.motion.jobEnd
    ∧ (moveEntry e x f s).beam = s.beam ∧ (moveEntry e x f s).station.relay = s.station.relay
    ∧ (moveEntry e x f s).station.records = s.station.records
    ∧ (moveEntry e x f s).station.inFlight = s.station.inFlight ∧ (moveEntry e x f s).hand = s.hand
    ∧ (moveEntry e x f s).link.reply = s.link.reply ∧ (moveEntry e x f s).link.tx = s.link.tx
    ∧ (moveEntry e x f s).link.requests = s.link.requests ∧ (moveEntry e x f s).link.rx = s.link.rx
    ∧ (moveEntry e x f s).link.baud = s.link.baud ∧ (moveEntry e x f s).pending = s.pending := by
  unfold moveEntry; (try dsimp only) <;> (repeat' split) <;> simp_all
@[simp] theorem joinFixed_frame (n : Lane) (p : Source) (e : Entry) (s : State) :
    (joinFixed n p e s).web = s.web ∧ (joinFixed n p e s).params = s.params ∧ (joinFixed n p e s).pins = s.pins
    ∧ (joinFixed n p e s).store = s.store ∧ (joinFixed n p e s).reader = s.reader
    ∧ (joinFixed n p e s).eyes = s.eyes ∧ (joinFixed n p e s).reg = s.reg ∧ (joinFixed n p e s).zones = s.zones
    ∧ (joinFixed n p e s).motion = s.motion ∧ (joinFixed n p e s).beam = s.beam
    ∧ (joinFixed n p e s).station = s.station ∧ (joinFixed n p e s).hand = s.hand
    ∧ (joinFixed n p e s).link = s.link ∧ (joinFixed n p e s).pending = s.pending := by
  unfold joinFixed; (try dsimp only) <;> (repeat' split) <;> simp_all
@[simp] theorem startReport_frame (n : Lane) (p : Ctx) (m : Int) (first : Bool) (s : State) :
    (startReport n p m first s).web = s.web ∧ (startReport n p m first s).params = s.params
    ∧ (startReport n p m first s).pins = s.pins ∧ (startReport n p m first s).store = s.store
    ∧ (startReport n p m first s).reader = s.reader ∧ (startReport n p m first s).zones = s.zones
    ∧ (startReport n p m first s).motion.jobEnd = s.motion.jobEnd ∧ (startReport n p m first s).beam = s.beam
    ∧ (startReport n p m first s).station.relay = s.station.relay
    ∧ (startReport n p m first s).station.records = s.station.records
    ∧ (startReport n p m first s).station.inFlight = s.station.inFlight ∧ (startReport n p m first s).hand = s.hand
    ∧ (startReport n p m first s).link.reply = s.link.reply ∧ (startReport n p m first s).link.tx = s.link.tx
    ∧ (startReport n p m first s).link.requests = s.link.requests ∧ (startReport n p m first s).link.rx = s.link.rx
    ∧ (startReport n p m first s).link.baud = s.link.baud ∧ (startReport n p m first s).pending = s.pending := by
  unfold startReport; (try dsimp only) <;> (repeat' split) <;> simp_all
@[simp] theorem endReport_frame (n : Lane) (p : Source) (y : Int) (s : State) :
    (endReport n p y s).web = s.web ∧ (endReport n p y s).params = s.params ∧ (endReport n p y s).pins = s.pins
    ∧ (endReport n p y s).store = s.store ∧ (endReport n p y s).reader = s.reader
    ∧ (endReport n p y s).zones = s.zones ∧ (endReport n p y s).motion.jobEnd = s.motion.jobEnd
    ∧ (endReport n p y s).beam = s.beam ∧ (endReport n p y s).station.relay = s.station.relay
    ∧ (endReport n p y s).station.records = s.station.records
    ∧ (endReport n p y s).station.inFlight = s.station.inFlight ∧ (endReport n p y s).hand = s.hand
    ∧ (endReport n p y s).link.reply = s.link.reply ∧ (endReport n p y s).link.tx = s.link.tx
    ∧ (endReport n p y s).link.requests = s.link.requests ∧ (endReport n p y s).link.rx = s.link.rx
    ∧ (endReport n p y s).link.baud = s.link.baud ∧ (endReport n p y s).pending = s.pending := by
  unfold endReport; (try dsimp only) <;> (repeat' split) <;> simp_all

/-- R82, R102, R104: an END report for a panel that is not ACTIVE and has no end entry leaves the Cut Queue as it is. -/
theorem endReport_notActive {n : Lane} {p : Source} {s : State} (y : Int) (h : s.panelActive n p = false)
    (he : ((s.ctx? n p).bind Ctx.endEntry).bind s.entry? = none) : (endReport n p y s).cuts = s.cuts := by
  unfold endReport; simp only [he, h]; split <;> simp_all
end Sys2Proof.Machine
end

