-- ==== Sys2Proof/Laws/Frames2.lean ====
section
/-! SUPPORT. What each operation leaves unchanged: registration, the eyes, the changeover, the plan, the tracker. One lemma an operation; its proof uses those before it. -/
set_option Elab.async false
set_option linter.all false
namespace Sys2Proof.Machine
@[simp] theorem takeSample_frame (n : Lane) (m measured nominal : Int) (s : State) :
    (takeSample n m measured nominal s).web = s.web ∧ (takeSample n m measured nominal s).params = s.params
    ∧ (takeSample n m measured nominal s).pins = s.pins ∧ (takeSample n m measured nominal s).store = s.store
    ∧ (takeSample n m measured nominal s).reader = s.reader ∧ (takeSample n m measured nominal s).eyes = s.eyes
    ∧ (takeSample n m measured nominal s).lists = s.lists ∧ (takeSample n m measured nominal s).zones = s.zones
    ∧ (takeSample n m measured nominal s).cuts = s.cuts ∧ (takeSample n m measured nominal s).motion = s.motion
    ∧ (takeSample n m measured nominal s).beam = s.beam ∧ (takeSample n m measured nominal s).station = s.station
    ∧ (takeSample n m measured nominal s).hand = s.hand
    ∧ (takeSample n m measured nominal s).link.reply = s.link.reply
    ∧ (takeSample n m measured nominal s).link.tx = s.link.tx
    ∧ (takeSample n m measured nominal s).link.requests = s.link.requests
    ∧ (takeSample n m measured nominal s).link.rx = s.link.rx
    ∧ (takeSample n m measured nominal s).link.baud = s.link.baud
    ∧ (takeSample n m measured nominal s).pending = s.pending := by
  unfold takeSample; (try dsimp only) <;> (repeat' split) <;> simp_all
@[simp] theorem unregister_frame (n : Lane) (s : State) :
    (unregister n s).web = s.web ∧ (unregister n s).params = s.params ∧ (unregister n s).pins = s.pins
    ∧ (unregister n s).store = s.store ∧ (unregister n s).reader = s.reader ∧ (unregister n s).eyes = s.eyes
    ∧ (unregister n s).reg = s.reg ∧ (unregister n s).zones = s.zones ∧ (unregister n s).cuts = s.cuts
    ∧ (unregister n s).motion = s.motion ∧ (unregister n s).beam = s.beam ∧ (unregister n s).station = s.station
    ∧ (unregister n s).hand = s.hand ∧ (unregister n s).link = s.link ∧ (unregister n s).pending = s.pending := by
  unfold unregister; (try dsimp only) <;> (repeat' split) <;> simp_all
@[simp] theorem countMiss_frame (n : Lane) (x : Int) (s : State) :
    (countMiss n x s).web = s.web ∧ (countMiss n x s).params = s.params ∧ (countMiss n x s).pins = s.pins
    ∧ (countMiss n x s).store = s.store ∧ (countMiss n x s).reader = s.reader ∧ (countMiss n x s).eyes = s.eyes
    ∧ (countMiss n x s).zones = s.zones ∧ (countMiss n x s).cuts = s.cuts ∧ (countMiss n x s).motion = s.motion
    ∧ (countMiss n x s).beam = s.beam ∧ (countMiss n x s).station = s.station ∧ (countMiss n x s).hand = s.hand
    ∧ (countMiss n x s).link.reply = s.link.reply ∧ (countMiss n x s).link.tx = s.link.tx
    ∧ (countMiss n x s).link.requests = s.link.requests ∧ (countMiss n x s).link.rx = s.link.rx
    ∧ (countMiss n x s).link.baud = s.link.baud ∧ (countMiss n x s).pending = s.pending := by
  unfold countMiss; (try dsimp only) <;> (repeat' split) <;> simp_all
@[simp] theorem giveTag_frame (n : Lane) (src : Source) (s : State) :
    (giveTag n src s).web = s.web ∧ (giveTag n src s).params = s.params
    ∧ (giveTag n src s).pins = s.pins ∧ (giveTag n src s).store = s.store
    ∧ (giveTag n src s).reader = s.reader ∧ (giveTag n src s).eyes = s.eyes
    ∧ (giveTag n src s).reg = s.reg ∧ (giveTag n src s).zones = s.zones
    ∧ (giveTag n src s).cuts = s.cuts ∧ (giveTag n src s).motion = s.motion
    ∧ (giveTag n src s).beam = s.beam ∧ (giveTag n src s).station = s.station
    ∧ (giveTag n src s).hand = s.hand ∧ (giveTag n src s).link = s.link
    ∧ (giveTag n src s).pending = s.pending := by
  unfold giveTag; (try dsimp only) <;> (repeat' split) <;> simp_all
@[simp] theorem compareTag_frame (n : Lane) (p : Ctx) (rec : MarkRecord) (s : State) :
    (compareTag n p rec s).web = s.web ∧ (compareTag n p rec s).params = s.params
    ∧ (compareTag n p rec s).pins = s.pins ∧ (compareTag n p rec s).store = s.store
    ∧ (compareTag n p rec s).reader = s.reader ∧ (compareTag n p rec s).eyes = s.eyes
    ∧ (compareTag n p rec s).reg = s.reg ∧ (compareTag n p rec s).zones = s.zones
    ∧ (compareTag n p rec s).cuts = s.cuts ∧ (compareTag n p rec s).motion.jobEnd = s.motion.jobEnd
    ∧ (compareTag n p rec s).beam = s.beam ∧ (compareTag n p rec s).station.relay = s.station.relay
    ∧ (compareTag n p rec s).station.records = s.station.records
    ∧ (compareTag n p rec s).station.inFlight = s.station.inFlight ∧ (compareTag n p rec s).hand = s.hand
    ∧ (compareTag n p rec s).link.reply = s.link.reply ∧ (compareTag n p rec s).link.tx = s.link.tx
    ∧ (compareTag n p rec s).link.requests = s.link.requests ∧ (compareTag n p rec s).link.rx = s.link.rx
    ∧ (compareTag n p rec s).link.baud = s.link.baud ∧ (compareTag n p rec s).pending = s.pending := by
  unfold compareTag; (try dsimp only) <;> (repeat' split) <;> simp_all
@[simp] theorem markEffects_frame (n : Lane) (p : Ctx) (how : How) (s : State) :
    (markEffects n p how s).web = s.web ∧ (markEffects n p how s).params = s.params
    ∧ (markEffects n p how s).pins = s.pins ∧ (markEffects n p how s).store = s.store
    ∧ (markEffects n p how s).reader = s.reader ∧ (markEffects n p how s).eyes = s.eyes
    ∧ (markEffects n p how s).reg = s.reg ∧ (markEffects n p how s).zones = s.zones
    ∧ (markEffects n p how s).cuts = s.cuts ∧ (markEffects n p how s).motion.jobEnd = s.motion.jobEnd
    ∧ (markEffects n p how s).beam = s.beam ∧ (markEffects n p how s).station.relay = s.station.relay
    ∧ (markEffects n p how s).station.records = s.station.records
    ∧ (markEffects n p how s).station.inFlight = s.station.inFlight ∧ (markEffects n p how s).hand = s.hand
    ∧ (markEffects n p how s).link.reply = s.link.reply ∧ (markEffects n p how s).link.tx = s.link.tx
    ∧ (markEffects n p how s).link.requests = s.link.requests ∧ (markEffects n p how s).link.rx = s.link.rx
    ∧ (markEffects n p how s).link.baud = s.link.baud ∧ (markEffects n p how s).pending = s.pending := by
  unfold markEffects; (try dsimp only) <;> (repeat' split) <;> simp_all
@[simp] theorem countHow_frame (n : Lane) (x : Int) (how : How) (s : State) :
    (countHow n x how s).web = s.web ∧ (countHow n x how s).params = s.params ∧ (countHow n x how s).pins = s.pins
    ∧ (countHow n x how s).store = s.store ∧ (countHow n x how s).reader = s.reader
    ∧ (countHow n x how s).eyes = s.eyes ∧ (countHow n x how s).zones = s.zones
    ∧ (countHow n x how s).cuts = s.cuts ∧ (countHow n x how s).motion = s.motion
    ∧ (countHow n x how s).beam = s.beam ∧ (countHow n x how s).station = s.station
    ∧ (countHow n x how s).hand = s.hand ∧ (countHow n x how s).link.reply = s.link.reply
    ∧ (countHow n x how s).link.tx = s.link.tx ∧ (countHow n x how s).link.requests = s.link.requests
    ∧ (countHow n x how s).link.rx = s.link.rx ∧ (countHow n x how s).link.baud = s.link.baud
    ∧ (countHow n x how s).pending = s.pending := by
  unfold countHow; (try dsimp only) <;> (repeat' split) <;> simp_all
@[simp] theorem makeCurrent_frame (n : Lane) (p : Source) (how : How) (s : State) :
    (makeCurrent n p how s).web = s.web ∧ (makeCurrent n p how s).params = s.params
    ∧ (makeCurrent n p how s).pins = s.pins ∧ (makeCurrent n p how s).store = s.store
    ∧ (makeCurrent n p how s).reader = s.reader ∧ (makeCurrent n p how s).zones = s.zones
    ∧ (makeCurrent n p how s).cuts = s.cuts ∧ (makeCurrent n p how s).motion = s.motion
    ∧ (makeCurrent n p how s).beam = s.beam ∧ (makeCurrent n p how s).station = s.station
    ∧ (makeCurrent n p how s).hand = s.hand ∧ (makeCurrent n p how s).link = s.link
    ∧ (makeCurrent n p how s).pending = s.pending := by
  unfold makeCurrent; (try dsimp only) <;> (repeat' split) <;> simp_all
@[simp] theorem startPanel_frame (n : Lane) (p : Ctx) (m : Int) (how : How) (first : Bool) (s : State) :
    (startPanel n p m how first s).web = s.web ∧ (startPanel n p m how first s).params = s.params
    ∧ (startPanel n p m how first s).pins = s.pins ∧ (startPanel n p m how first s).store = s.store
    ∧ (startPanel n p m how first s).reader = s.reader ∧ (startPanel n p m how first s).zones = s.zones
    ∧ (startPanel n p m how first s).motion.jobEnd = s.motion.jobEnd ∧ (startPanel n p m how first s).beam = s.beam
    ∧ (startPanel n p m how first s).station.relay = s.station.relay
    ∧ (startPanel n p m how first s).station.records = s.station.records
    ∧ (startPanel n p m how first s).station.inFlight = s.station.inFlight
    ∧ (startPanel n p m how first s).hand = s.hand ∧ (startPanel n p m how first s).link.reply = s.link.reply
    ∧ (startPanel n p m how first s).link.tx = s.link.tx
    ∧ (startPanel n p m how first s).link.requests = s.link.requests
    ∧ (startPanel n p m how first s).link.rx = s.link.rx ∧ (startPanel n p m how first s).link.baud = s.link.baud
    ∧ (startPanel n p m how first s).pending = s.pending := by
  unfold startPanel; (try dsimp only) <;> (repeat' split) <;> simp_all
@[simp] theorem sampleAt_frame (n : Lane) (p : Ctx) (m : Int) (how : How) (s : State) :
    (sampleAt n p m how s).web = s.web ∧ (sampleAt n p m how s).params = s.params
    ∧ (sampleAt n p m how s).pins = s.pins ∧ (sampleAt n p m how s).store = s.store
    ∧ (sampleAt n p m how s).reader = s.reader ∧ (sampleAt n p m how s).eyes = s.eyes
    ∧ (sampleAt n p m how s).lists = s.lists ∧ (sampleAt n p m how s).zones = s.zones
    ∧ (sampleAt n p m how s).cuts = s.cuts ∧ (sampleAt n p m how s).motion = s.motion
    ∧ (sampleAt n p m how s).beam = s.beam ∧ (sampleAt n p m how s).station = s.station
    ∧ (sampleAt n p m how s).hand = s.hand ∧ (sampleAt n p m how s).link.reply = s.link.reply
    ∧ (sampleAt n p m how s).link.tx = s.link.tx ∧ (sampleAt n p m how s).link.requests = s.link.requests
    ∧ (sampleAt n p m how s).link.rx = s.link.rx ∧ (sampleAt n p m how s).link.baud = s.link.baud
    ∧ (sampleAt n p m how s).pending = s.pending := by
  unfold sampleAt; (try dsimp only) <;> (repeat' split) <;> simp_all
@[simp] theorem takePitch_frame (n : Lane) (p : Ctx) (k m : Int) (how : How) (s : State) :
    (takePitch n p k m how s).web = s.web ∧ (takePitch n p k m how s).params = s.params
    ∧ (takePitch n p k m how s).pins = s.pins ∧ (takePitch n p k m how s).store = s.store
    ∧ (takePitch n p k m how s).reader = s.reader ∧ (takePitch n p k m how s).zones = s.zones
    ∧ (takePitch n p k m how s).motion.jobEnd = s.motion.jobEnd ∧ (takePitch n p k m how s).beam = s.beam
    ∧ (takePitch n p k m how s).station.relay = s.station.relay
    ∧ (takePitch n p k m how s).station.records = s.station.records
    ∧ (takePitch n p k m how s).station.inFlight = s.station.inFlight ∧ (takePitch n p k m how s).hand = s.hand
    ∧ (takePitch n p k m how s).link.reply = s.link.reply ∧ (takePitch n p k m how s).link.tx = s.link.tx
    ∧ (takePitch n p k m how s).link.requests = s.link.requests ∧ (takePitch n p k m how s).link.rx = s.link.rx
    ∧ (takePitch n p k m how s).link.baud = s.link.baud ∧ (takePitch n p k m how s).pending = s.pending := by
  unfold takePitch; (try dsimp only) <;> (repeat' split) <;> simp_all
@[simp] theorem strayMark_frame (n : Lane) (rec : MarkRecord) (s : State) :
    (strayMark n rec s).web = s.web ∧ (strayMark n rec s).params = s.params ∧ (strayMark n rec s).pins = s.pins
    ∧ (strayMark n rec s).store = s.store ∧ (strayMark n rec s).reader = s.reader
    ∧ (strayMark n rec s).eyes = s.eyes ∧ (strayMark n rec s).reg = s.reg ∧ (strayMark n rec s).lists = s.lists
    ∧ (strayMark n rec s).zones = s.zones ∧ (strayMark n rec s).cuts = s.cuts
    ∧ (strayMark n rec s).motion = s.motion ∧ (strayMark n rec s).beam = s.beam
    ∧ (strayMark n rec s).station = s.station ∧ (strayMark n rec s).hand = s.hand
    ∧ (strayMark n rec s).link.reply = s.link.reply ∧ (strayMark n rec s).link.tx = s.link.tx
    ∧ (strayMark n rec s).link.requests = s.link.requests ∧ (strayMark n rec s).link.rx = s.link.rx
    ∧ (strayMark n rec s).link.baud = s.link.baud ∧ (strayMark n rec s).pending = s.pending := by
  unfold strayMark; (try dsimp only) <;> (repeat' split) <;> simp_all
@[simp] theorem placeFollowing_frame (n : Lane) (rec : MarkRecord) (s : State) :
    (placeFollowing n rec s).web = s.web ∧ (placeFollowing n rec s).params = s.params
    ∧ (placeFollowing n rec s).pins = s.pins ∧ (placeFollowing n rec s).store = s.store
    ∧ (placeFollowing n rec s).reader = s.reader ∧ (placeFollowing n rec s).zones = s.zones
    ∧ (placeFollowing n rec s).motion.jobEnd = s.motion.jobEnd ∧ (placeFollowing n rec s).beam = s.beam
    ∧ (placeFollowing n rec s).station.relay = s.station.relay
    ∧ (placeFollowing n rec s).station.records = s.station.records
    ∧ (placeFollowing n rec s).station.inFlight = s.station.inFlight ∧ (placeFollowing n rec s).hand = s.hand
    ∧ (placeFollowing n rec s).link.reply = s.link.reply ∧ (placeFollowing n rec s).link.tx = s.link.tx
    ∧ (placeFollowing n rec s).link.requests = s.link.requests ∧ (placeFollowing n rec s).link.rx = s.link.rx
    ∧ (placeFollowing n rec s).link.baud = s.link.baud ∧ (placeFollowing n rec s).pending = s.pending := by
  unfold placeFollowing; (try dsimp only) <;> (repeat' split) <;> simp_all
@[simp] theorem placeSeeking_frame (n : Lane) (rec : MarkRecord) (s : State) :
    (placeSeeking n rec s).web = s.web ∧ (placeSeeking n rec s).params = s.params
    ∧ (placeSeeking n rec s).pins = s.pins ∧ (placeSeeking n rec s).store = s.store
    ∧ (placeSeeking n rec s).reader = s.reader ∧ (placeSeeking n rec s).zones = s.zones
    ∧ (placeSeeking n rec s).motion.jobEnd = s.motion.jobEnd ∧ (placeSeeking n rec s).beam = s.beam
    ∧ (placeSeeking n rec s).station.relay = s.station.relay
    ∧ (placeSeeking n rec s).station.records = s.station.records
    ∧ (placeSeeking n rec s).station.inFlight = s.station.inFlight ∧ (placeSeeking n rec s).hand = s.hand
    ∧ (placeSeeking n rec s).link.reply = s.link.reply ∧ (placeSeeking n rec s).link.tx = s.link.tx
    ∧ (placeSeeking n rec s).link.requests = s.link.requests ∧ (placeSeeking n rec s).link.rx = s.link.rx
    ∧ (placeSeeking n rec s).link.baud = s.link.baud ∧ (placeSeeking n rec s).pending = s.pending := by
  unfold placeSeeking; (try dsimp only) <;> (repeat' split) <;> simp_all
@[simp] theorem placeMark_frame (n : Lane) (rec : MarkRecord) (s : State) :
    (placeMark n rec s).web = s.web ∧ (placeMark n rec s).params = s.params ∧ (placeMark n rec s).pins = s.pins
    ∧ (placeMark n rec s).store = s.store ∧ (placeMark n rec s).reader = s.reader
    ∧ (placeMark n rec s).zones = s.zones ∧ (placeMark n rec s).motion.jobEnd = s.motion.jobEnd
    ∧ (placeMark n rec s).beam = s.beam ∧ (placeMark n rec s).station.relay = s.station.relay
    ∧ (placeMark n rec s).station.records = s.station.records
    ∧ (placeMark n rec s).station.inFlight = s.station.inFlight ∧ (placeMark n rec s).hand = s.hand
    ∧ (placeMark n rec s).link.reply = s.link.reply ∧ (placeMark n rec s).link.tx = s.link.tx
    ∧ (placeMark n rec s).link.requests = s.link.requests ∧ (placeMark n rec s).link.rx = s.link.rx
    ∧ (placeMark n rec s).link.baud = s.link.baud ∧ (placeMark n rec s).pending = s.pending := by
  unfold placeMark; (try dsimp only) <;> (repeat' split) <;> simp_all
theorem seekSynth_frame (n : Lane) (s : State) {t : State} :
    seekSynth n s = some t →
    t.web = s.web ∧ t.params = s.params ∧ t.pins = s.pins ∧ t.store = s.store ∧ t.reader = s.reader
    ∧ t.zones = s.zones ∧ t.cuts = s.cuts ∧ t.motion = s.motion ∧ t.beam = s.beam ∧ t.station = s.station
    ∧ t.hand = s.hand ∧ t.link = s.link ∧ t.pending = s.pending := by intro h; unfold seekSynth at h; (try dsimp only at h) <;> (repeat' split at h) <;> (try simp at h) <;> (try subst h) <;> (try simp_all)
theorem dueSynth_frame (n : Lane) (s : State) {t : State} :
    dueSynth n s = some t →
    t.web = s.web ∧ t.params = s.params ∧ t.pins = s.pins ∧ t.store = s.store ∧ t.reader = s.reader
    ∧ t.zones = s.zones ∧ t.motion.jobEnd = s.motion.jobEnd ∧ t.beam = s.beam ∧ t.station.relay = s.station.relay
    ∧ t.station.records = s.station.records ∧ t.station.inFlight = s.station.inFlight ∧ t.hand = s.hand
    ∧ t.link.reply = s.link.reply ∧ t.link.tx = s.link.tx ∧ t.link.requests = s.link.requests
    ∧ t.link.rx = s.link.rx ∧ t.link.baud = s.link.baud ∧ t.pending = s.pending := by intro h; unfold dueSynth at h; (try dsimp only at h) <;> (repeat' split at h) <;> (try simp at h) <;> (try subst h) <;> (try simp_all)
theorem dueForm_frame (n : Lane) (s : State) {t : State} :
    dueForm n s = some t →
    t.web = s.web ∧ t.params = s.params ∧ t.pins = s.pins ∧ t.store = s.store ∧ t.reader = s.reader
    ∧ t.zones = s.zones ∧ t.cuts = s.cuts ∧ t.motion = s.motion ∧ t.beam = s.beam ∧ t.station = s.station
    ∧ t.hand = s.hand ∧ t.link = s.link ∧ t.pending = s.pending := by intro h; unfold dueForm at h; (try dsimp only at h) <;> (repeat' split at h) <;> (try simp at h) <;> (try subst h) <;> (try simp_all)
@[simp] theorem passPitch_frame (n : Lane) (e : PitchExpect) (how : How) (s : State) :
    (passPitch n e how s).web = s.web ∧ (passPitch n e how s).params = s.params ∧ (passPitch n e how s).pins = s.pins
    ∧ (passPitch n e how s).store = s.store ∧ (passPitch n e how s).reader = s.reader
    ∧ (passPitch n e how s).zones = s.zones ∧ (passPitch n e how s).motion.jobEnd = s.motion.jobEnd
    ∧ (passPitch n e how s).beam = s.beam ∧ (passPitch n e how s).station.relay = s.station.relay
    ∧ (passPitch n e how s).station.records = s.station.records
    ∧ (passPitch n e how s).station.inFlight = s.station.inFlight ∧ (passPitch n e how s).hand = s.hand
    ∧ (passPitch n e how s).link.reply = s.link.reply ∧ (passPitch n e how s).link.tx = s.link.tx
    ∧ (passPitch n e how s).link.requests = s.link.requests ∧ (passPitch n e how s).link.rx = s.link.rx
    ∧ (passPitch n e how s).link.baud = s.link.baud ∧ (passPitch n e how s).pending = s.pending := by
  unfold passPitch; split <;> simp_all
theorem duePitch_frame (n : Lane) (s : State) {t : State} :
    duePitch n s = some t →
    t.web = s.web ∧ t.params = s.params ∧ t.pins = s.pins ∧ t.store = s.store ∧ t.reader = s.reader
    ∧ t.zones = s.zones ∧ t.motion.jobEnd = s.motion.jobEnd ∧ t.beam = s.beam ∧ t.station.relay = s.station.relay
    ∧ t.station.records = s.station.records ∧ t.station.inFlight = s.station.inFlight ∧ t.hand = s.hand
    ∧ t.link.reply = s.link.reply ∧ t.link.tx = s.link.tx ∧ t.link.requests = s.link.requests
    ∧ t.link.rx = s.link.rx ∧ t.link.baud = s.link.baud ∧ t.pending = s.pending := by intro h; unfold duePitch at h; (try dsimp only at h) <;> (repeat' split at h) <;> (try simp at h) <;> (try subst h) <;> (try simp_all)
theorem dueStart_frame (n : Lane) (s : State) {t : State} :
    dueStart n s = some t →
    t.web = s.web ∧ t.params = s.params ∧ t.pins = s.pins ∧ t.store = s.store ∧ t.reader = s.reader
    ∧ t.zones = s.zones ∧ t.motion.jobEnd = s.motion.jobEnd ∧ t.beam = s.beam ∧ t.station.relay = s.station.relay
    ∧ t.station.records = s.station.records ∧ t.station.inFlight = s.station.inFlight ∧ t.hand = s.hand
    ∧ t.link.reply = s.link.reply ∧ t.link.tx = s.link.tx ∧ t.link.requests = s.link.requests
    ∧ t.link.rx = s.link.rx ∧ t.link.baud = s.link.baud ∧ t.pending = s.pending := by intro h; unfold dueStart at h; (try dsimp only at h) <;> (repeat' split at h) <;> (try simp at h) <;> (try subst h) <;> (try simp_all)
theorem dueInLane_frame (n : Lane) (s : State) {t : State} :
    dueInLane n s = some t →
    t.web = s.web ∧ t.params = s.params ∧ t.pins = s.pins ∧ t.store = s.store ∧ t.reader = s.reader
    ∧ t.zones = s.zones ∧ t.motion.jobEnd = s.motion.jobEnd ∧ t.beam = s.beam ∧ t.station.relay = s.station.relay
    ∧ t.station.records = s.station.records ∧ t.station.inFlight = s.station.inFlight ∧ t.hand = s.hand
    ∧ t.link.reply = s.link.reply ∧ t.link.tx = s.link.tx ∧ t.link.requests = s.link.requests
    ∧ t.link.rx = s.link.rx ∧ t.link.baud = s.link.baud ∧ t.pending = s.pending := by
  intro h; simp only [dueInLane, Option.or_eq_some_iff] at h
  rcases h with ((((h | ⟨_, h⟩) | ⟨_, h⟩) | ⟨_, h⟩) | ⟨_, h⟩)
  · simp [seekSynth_frame n s h]
  · simp [dueSynth_frame n s h]
  · simp [dueForm_frame n s h]
  · simp [duePitch_frame n s h]
  · simp [dueStart_frame n s h]
theorem dueNext_frame (s : State) {t : State} :
    dueNext s = some t →
    t.web = s.web ∧ t.params = s.params ∧ t.pins = s.pins ∧ t.store = s.store ∧ t.reader = s.reader
    ∧ t.zones = s.zones ∧ t.motion.jobEnd = s.motion.jobEnd ∧ t.beam = s.beam ∧ t.station.relay = s.station.relay
    ∧ t.station.records = s.station.records ∧ t.station.inFlight = s.station.inFlight ∧ t.hand = s.hand
    ∧ t.link.reply = s.link.reply ∧ t.link.tx = s.link.tx ∧ t.link.requests = s.link.requests
    ∧ t.link.rx = s.link.rx ∧ t.link.baud = s.link.baud ∧ t.pending = s.pending := by
  intro h; simp only [dueNext, Option.or_eq_some_iff] at h
  rcases h with (((h | ⟨_, h⟩) | ⟨_, h⟩) | ⟨_, h⟩)
  · simp [dueInLane_frame .lane0 s h]
  · simp [dueInLane_frame .lane1 s h]
  · simp [dueInLane_frame .lane2 s h]
  · simp [dueInLane_frame .lane3 s h]
@[simp] theorem regDue_frame (k : Nat) (s : State) :
    (regDue k s).web = s.web ∧ (regDue k s).params = s.params ∧ (regDue k s).pins = s.pins
    ∧ (regDue k s).store = s.store ∧ (regDue k s).reader = s.reader ∧ (regDue k s).zones = s.zones
    ∧ (regDue k s).motion.jobEnd = s.motion.jobEnd ∧ (regDue k s).beam = s.beam
    ∧ (regDue k s).station.relay = s.station.relay ∧ (regDue k s).station.records = s.station.records
    ∧ (regDue k s).station.inFlight = s.station.inFlight ∧ (regDue k s).hand = s.hand
    ∧ (regDue k s).link.reply = s.link.reply ∧ (regDue k s).link.tx = s.link.tx
    ∧ (regDue k s).link.requests = s.link.requests ∧ (regDue k s).link.rx = s.link.rx
    ∧ (regDue k s).link.baud = s.link.baud ∧ (regDue k s).pending = s.pending := by
  induction k generalizing s with
  | zero => simp [regDue]
  | succ k ih =>
    unfold regDue; split
    · rename_i t h; have := dueNext_frame s h; simp_all
    · simp
@[simp] theorem settleReg_frame (s : State) :
    (settleReg s).web = s.web ∧ (settleReg s).params = s.params ∧ (settleReg s).pins = s.pins
    ∧ (settleReg s).store = s.store ∧ (settleReg s).reader = s.reader ∧ (settleReg s).zones = s.zones
    ∧ (settleReg s).motion.jobEnd = s.motion.jobEnd ∧ (settleReg s).beam = s.beam
    ∧ (settleReg s).station.relay = s.station.relay ∧ (settleReg s).station.records = s.station.records
    ∧ (settleReg s).station.inFlight = s.station.inFlight ∧ (settleReg s).hand = s.hand
    ∧ (settleReg s).link.reply = s.link.reply ∧ (settleReg s).link.tx = s.link.tx
    ∧ (settleReg s).link.requests = s.link.requests ∧ (settleReg s).link.rx = s.link.rx
    ∧ (settleReg s).link.baud = s.link.baud ∧ (settleReg s).pending = s.pending := by
  unfold settleReg; (try dsimp only) <;> (repeat' split) <;> simp_all
@[simp] theorem syncEye_frame (n : Lane) (s : State) :
    (syncEye n s).web = s.web ∧ (syncEye n s).params = s.params ∧ (syncEye n s).pins = s.pins
    ∧ (syncEye n s).store = s.store ∧ (syncEye n s).reader = s.reader ∧ (syncEye n s).reg = s.reg
    ∧ (syncEye n s).lists = s.lists ∧ (syncEye n s).zones = s.zones ∧ (syncEye n s).cuts = s.cuts
    ∧ (syncEye n s).motion = s.motion ∧ (syncEye n s).beam = s.beam ∧ (syncEye n s).station = s.station
    ∧ (syncEye n s).hand = s.hand ∧ (syncEye n s).link = s.link ∧ (syncEye n s).pending = s.pending := by
  unfold syncEye; (try dsimp only) <;> (repeat' split) <;> simp_all
@[simp] theorem syncEyes_frame (s : State) :
    (syncEyes s).web = s.web ∧ (syncEyes s).params = s.params ∧ (syncEyes s).pins = s.pins
    ∧ (syncEyes s).store = s.store ∧ (syncEyes s).reader = s.reader ∧ (syncEyes s).reg = s.reg
    ∧ (syncEyes s).lists = s.lists ∧ (syncEyes s).zones = s.zones ∧ (syncEyes s).cuts = s.cuts
    ∧ (syncEyes s).motion = s.motion ∧ (syncEyes s).beam = s.beam ∧ (syncEyes s).station = s.station
    ∧ (syncEyes s).hand = s.hand ∧ (syncEyes s).link = s.link ∧ (syncEyes s).pending = s.pending := by
  unfold syncEyes; (try dsimp only) <;> (repeat' split) <;> simp_all
@[simp] theorem malformed_frame (n : Lane) (m : Int) (next : Decode) (s : State) :
    (malformed n m next s).web = s.web ∧ (malformed n m next s).params = s.params
    ∧ (malformed n m next s).pins = s.pins ∧ (malformed n m next s).store = s.store
    ∧ (malformed n m next s).reader = s.reader ∧ (malformed n m next s).reg = s.reg
    ∧ (malformed n m next s).lists = s.lists ∧ (malformed n m next s).zones = s.zones
    ∧ (malformed n m next s).cuts = s.cuts ∧ (malformed n m next s).motion = s.motion
    ∧ (malformed n m next s).beam = s.beam ∧ (malformed n m next s).station = s.station
    ∧ (malformed n m next s).hand = s.hand ∧ (malformed n m next s).link.reply = s.link.reply
    ∧ (malformed n m next s).link.tx = s.link.tx ∧ (malformed n m next s).link.requests = s.link.requests
    ∧ (malformed n m next s).link.rx = s.link.rx ∧ (malformed n m next s).link.baud = s.link.baud
    ∧ (malformed n m next s).pending = s.pending := by
  unfold malformed; (try dsimp only) <;> (repeat' split) <;> simp_all
@[simp] theorem handOver_frame (n : Lane) (rec : MarkRecord) (next : Decode) (s : State) :
    (handOver n rec next s).web = s.web ∧ (handOver n rec next s).params = s.params
    ∧ (handOver n rec next s).pins = s.pins ∧ (handOver n rec next s).store = s.store
    ∧ (handOver n rec next s).reader = s.reader ∧ (handOver n rec next s).zones = s.zones
    ∧ (handOver n rec next s).motion.jobEnd = s.motion.jobEnd ∧ (handOver n rec next s).beam = s.beam
    ∧ (handOver n rec next s).station.relay = s.station.relay
    ∧ (handOver n rec next s).station.records = s.station.records
    ∧ (handOver n rec next s).station.inFlight = s.station.inFlight ∧ (handOver n rec next s).hand = s.hand
    ∧ (handOver n rec next s).link.reply = s.link.reply ∧ (handOver n rec next s).link.tx = s.link.tx
    ∧ (handOver n rec next s).link.requests = s.link.requests ∧ (handOver n rec next s).link.rx = s.link.rx
    ∧ (handOver n rec next s).link.baud = s.link.baud ∧ (handOver n rec next s).pending = s.pending := by
  unfold handOver; (try dsimp only) <;> (repeat' split) <;> simp_all
@[simp] theorem advanceDecode_frame (n : Lane) (s : State) :
    (advanceDecode n s).web = s.web ∧ (advanceDecode n s).params = s.params ∧ (advanceDecode n s).pins = s.pins
    ∧ (advanceDecode n s).store = s.store ∧ (advanceDecode n s).reader = s.reader
    ∧ (advanceDecode n s).zones = s.zones ∧ (advanceDecode n s).motion.jobEnd = s.motion.jobEnd
    ∧ (advanceDecode n s).beam = s.beam ∧ (advanceDecode n s).station.relay = s.station.relay
    ∧ (advanceDecode n s).station.records = s.station.records
    ∧ (advanceDecode n s).station.inFlight = s.station.inFlight ∧ (advanceDecode n s).hand = s.hand
    ∧ (advanceDecode n s).link.reply = s.link.reply ∧ (advanceDecode n s).link.tx = s.link.tx
    ∧ (advanceDecode n s).link.requests = s.link.requests ∧ (advanceDecode n s).link.rx = s.link.rx
    ∧ (advanceDecode n s).link.baud = s.link.baud ∧ (advanceDecode n s).pending = s.pending := by
  unfold advanceDecode; (try dsimp only) <;> (repeat' split) <;> simp_all
@[simp] theorem inspectNew_frame (n : Lane) (old new : Option Interval) (s : State) :
    (inspectNew n old new s).web = s.web ∧ (inspectNew n old new s).params = s.params
    ∧ (inspectNew n old new s).pins = s.pins ∧ (inspectNew n old new s).store = s.store
    ∧ (inspectNew n old new s).reader = s.reader ∧ (inspectNew n old new s).eyes = s.eyes
    ∧ (inspectNew n old new s).reg = s.reg ∧ (inspectNew n old new s).zones = s.zones
    ∧ (inspectNew n old new s).cuts = s.cuts ∧ (inspectNew n old new s).motion = s.motion
    ∧ (inspectNew n old new s).beam = s.beam ∧ (inspectNew n old new s).station = s.station
    ∧ (inspectNew n old new s).hand = s.hand ∧ (inspectNew n old new s).link = s.link
    ∧ (inspectNew n old new s).pending = s.pending := by
  unfold inspectNew; (try dsimp only) <;> (repeat' split) <;> simp_all
@[simp] theorem advanceIntervals_frame (n : Lane) (s : State) :
    (advanceIntervals n s).web = s.web ∧ (advanceIntervals n s).params = s.params
    ∧ (advanceIntervals n s).pins = s.pins ∧ (advanceIntervals n s).store = s.store
    ∧ (advanceIntervals n s).reader = s.reader ∧ (advanceIntervals n s).reg = s.reg
    ∧ (advanceIntervals n s).zones = s.zones ∧ (advanceIntervals n s).cuts = s.cuts
    ∧ (advanceIntervals n s).motion = s.motion ∧ (advanceIntervals n s).beam = s.beam
    ∧ (advanceIntervals n s).station = s.station ∧ (advanceIntervals n s).hand = s.hand
    ∧ (advanceIntervals n s).link = s.link ∧ (advanceIntervals n s).pending = s.pending := by
  unfold advanceIntervals; (try dsimp only) <;> (repeat' split) <;> simp_all
@[simp] theorem advanceEyes_frame (s : State) :
    (advanceEyes s).web = s.web ∧ (advanceEyes s).params = s.params ∧ (advanceEyes s).pins = s.pins
    ∧ (advanceEyes s).store = s.store ∧ (advanceEyes s).reader = s.reader ∧ (advanceEyes s).zones = s.zones
    ∧ (advanceEyes s).motion.jobEnd = s.motion.jobEnd ∧ (advanceEyes s).beam = s.beam
    ∧ (advanceEyes s).station.relay = s.station.relay ∧ (advanceEyes s).station.records = s.station.records
    ∧ (advanceEyes s).station.inFlight = s.station.inFlight ∧ (advanceEyes s).hand = s.hand
    ∧ (advanceEyes s).link.reply = s.link.reply ∧ (advanceEyes s).link.tx = s.link.tx
    ∧ (advanceEyes s).link.requests = s.link.requests ∧ (advanceEyes s).link.rx = s.link.rx
    ∧ (advanceEyes s).link.baud = s.link.baud ∧ (advanceEyes s).pending = s.pending := by
  unfold advanceEyes; (try dsimp only) <;> (repeat' split) <;> simp_all
@[simp] theorem takeLeading_frame (n : Lane) (s : State) :
    (takeLeading n s).web = s.web ∧ (takeLeading n s).params = s.params ∧ (takeLeading n s).pins = s.pins
    ∧ (takeLeading n s).store = s.store ∧ (takeLeading n s).reader = s.reader ∧ (takeLeading n s).reg = s.reg
    ∧ (takeLeading n s).lists = s.lists ∧ (takeLeading n s).zones = s.zones ∧ (takeLeading n s).cuts = s.cuts
    ∧ (takeLeading n s).motion = s.motion ∧ (takeLeading n s).beam = s.beam ∧ (takeLeading n s).station = s.station
    ∧ (takeLeading n s).hand = s.hand ∧ (takeLeading n s).link = s.link ∧ (takeLeading n s).pending = s.pending := by
  unfold takeLeading; (try dsimp only) <;> (repeat' split) <;> simp_all
@[simp] theorem takeTrailing_frame (n : Lane) (s : State) :
    (takeTrailing n s).web = s.web ∧ (takeTrailing n s).params = s.params ∧ (takeTrailing n s).pins = s.pins
    ∧ (takeTrailing n s).store = s.store ∧ (takeTrailing n s).reader = s.reader
    ∧ (takeTrailing n s).zones = s.zones ∧ (takeTrailing n s).motion.jobEnd = s.motion.jobEnd
    ∧ (takeTrailing n s).beam = s.beam ∧ (takeTrailing n s).station.relay = s.station.relay
    ∧ (takeTrailing n s).station.records = s.station.records
    ∧ (takeTrailing n s).station.inFlight = s.station.inFlight ∧ (takeTrailing n s).hand = s.hand
    ∧ (takeTrailing n s).link.reply = s.link.reply ∧ (takeTrailing n s).link.tx = s.link.tx
    ∧ (takeTrailing n s).link.requests = s.link.requests ∧ (takeTrailing n s).link.rx = s.link.rx
    ∧ (takeTrailing n s).link.baud = s.link.baud ∧ (takeTrailing n s).pending = s.pending := by
  unfold takeTrailing; (try dsimp only) <;> (repeat' split) <;> simp_all
@[simp] theorem takeEdge_frame (n : Lane) (dark : Bool) (s : State) :
    (takeEdge n dark s).web = s.web ∧ (takeEdge n dark s).params = s.params ∧ (takeEdge n dark s).pins = s.pins
    ∧ (takeEdge n dark s).store = s.store ∧ (takeEdge n dark s).reader = s.reader
    ∧ (takeEdge n dark s).zones = s.zones ∧ (takeEdge n dark s).motion.jobEnd = s.motion.jobEnd
    ∧ (takeEdge n dark s).beam = s.beam ∧ (takeEdge n dark s).station.relay = s.station.relay
    ∧ (takeEdge n dark s).station.records = s.station.records
    ∧ (takeEdge n dark s).station.inFlight = s.station.inFlight ∧ (takeEdge n dark s).hand = s.hand
    ∧ (takeEdge n dark s).link.reply = s.link.reply ∧ (takeEdge n dark s).link.tx = s.link.tx
    ∧ (takeEdge n dark s).link.requests = s.link.requests ∧ (takeEdge n dark s).link.rx = s.link.rx
    ∧ (takeEdge n dark s).link.baud = s.link.baud ∧ (takeEdge n dark s).pending = s.pending := by
  unfold takeEdge; (try dsimp only) <;> (repeat' split) <;> simp_all
@[simp] theorem edgeAfterHold_frame (n : Lane) (s : State) :
    (edgeAfterHold n s).web = s.web ∧ (edgeAfterHold n s).params = s.params ∧ (edgeAfterHold n s).pins = s.pins
    ∧ (edgeAfterHold n s).store = s.store ∧ (edgeAfterHold n s).reader = s.reader
    ∧ (edgeAfterHold n s).zones = s.zones ∧ (edgeAfterHold n s).motion.jobEnd = s.motion.jobEnd
    ∧ (edgeAfterHold n s).beam = s.beam ∧ (edgeAfterHold n s).station.relay = s.station.relay
    ∧ (edgeAfterHold n s).station.records = s.station.records
    ∧ (edgeAfterHold n s).station.inFlight = s.station.inFlight ∧ (edgeAfterHold n s).hand = s.hand
    ∧ (edgeAfterHold n s).link.reply = s.link.reply ∧ (edgeAfterHold n s).link.tx = s.link.tx
    ∧ (edgeAfterHold n s).link.requests = s.link.requests ∧ (edgeAfterHold n s).link.rx = s.link.rx
    ∧ (edgeAfterHold n s).link.baud = s.link.baud ∧ (edgeAfterHold n s).pending = s.pending := by
  unfold edgeAfterHold; (try dsimp only) <;> (repeat' split) <;> simp_all
@[simp] theorem holdLevels_frame (s : State) :
    (holdLevels s).web = s.web ∧ (holdLevels s).params = s.params ∧ (holdLevels s).pins = s.pins
    ∧ (holdLevels s).store = s.store ∧ (holdLevels s).reader = s.reader ∧ (holdLevels s).reg = s.reg
    ∧ (holdLevels s).lists = s.lists ∧ (holdLevels s).zones = s.zones ∧ (holdLevels s).cuts = s.cuts
    ∧ (holdLevels s).motion = s.motion ∧ (holdLevels s).beam = s.beam ∧ (holdLevels s).station = s.station
    ∧ (holdLevels s).hand = s.hand ∧ (holdLevels s).link = s.link ∧ (holdLevels s).pending = s.pending := by
  refine ⟨?_, ?_, ?_, ?_, ?_, ?_, ?_, ?_, ?_, ?_, ?_, ?_, ?_, ?_, ?_⟩ <;> unfold holdLevels <;> (try dsimp only) <;>
    (repeat' (first | split | (rw [forLanes_web] <;> (try (intro _ _)) <;> (try dsimp only)) | (rw [forLanes_params] <;> (try (intro _ _)) <;> (try dsimp only)) | (rw [forLanes_pins] <;> (try (intro _ _)) <;> (try dsimp only)) | (rw [forLanes_store] <;> (try (intro _ _)) <;> (try dsimp only)) | (rw [forLanes_reader] <;> (try (intro _ _)) <;> (try dsimp only)) | (rw [forLanes_reg] <;> (try (intro _ _)) <;> (try dsimp only)) | (rw [forLanes_lists] <;> (try (intro _ _)) <;> (try dsimp only)) | (rw [forLanes_zones] <;> (try (intro _ _)) <;> (try dsimp only)) | (rw [forLanes_cuts] <;> (try (intro _ _)) <;> (try dsimp only)) | (rw [forLanes_motion] <;> (try (intro _ _)) <;> (try dsimp only)) | (rw [forLanes_beam] <;> (try (intro _ _)) <;> (try dsimp only)) | (rw [forLanes_station] <;> (try (intro _ _)) <;> (try dsimp only)) | (rw [forLanes_hand] <;> (try (intro _ _)) <;> (try dsimp only)) | (rw [forLanes_link] <;> (try (intro _ _)) <;> (try dsimp only)) | (rw [forLanes_pending] <;> (try (intro _ _)) <;> (try dsimp only)))) <;>
    (try simp) <;> (repeat' (first | split | (rw [forLanes_web] <;> (try (intro _ _)) <;> (try dsimp only)) | (rw [forLanes_params] <;> (try (intro _ _)) <;> (try dsimp only)) | (rw [forLanes_pins] <;> (try (intro _ _)) <;> (try dsimp only)) | (rw [forLanes_store] <;> (try (intro _ _)) <;> (try dsimp only)) | (rw [forLanes_reader] <;> (try (intro _ _)) <;> (try dsimp only)) | (rw [forLanes_reg] <;> (try (intro _ _)) <;> (try dsimp only)) | (rw [forLanes_lists] <;> (try (intro _ _)) <;> (try dsimp only)) | (rw [forLanes_zones] <;> (try (intro _ _)) <;> (try dsimp only)) | (rw [forLanes_cuts] <;> (try (intro _ _)) <;> (try dsimp only)) | (rw [forLanes_motion] <;> (try (intro _ _)) <;> (try dsimp only)) | (rw [forLanes_beam] <;> (try (intro _ _)) <;> (try dsimp only)) | (rw [forLanes_station] <;> (try (intro _ _)) <;> (try dsimp only)) | (rw [forLanes_hand] <;> (try (intro _ _)) <;> (try dsimp only)) | (rw [forLanes_link] <;> (try (intro _ _)) <;> (try dsimp only)) | (rw [forLanes_pending] <;> (try (intro _ _)) <;> (try dsimp only)))) <;> (try simp [forLanes]) <;> (try simp_all)
@[simp] theorem takeInspect_frame (n : Lane) (s : State) :
    (takeInspect n s).web = s.web ∧ (takeInspect n s).params = s.params ∧ (takeInspect n s).pins = s.pins
    ∧ (takeInspect n s).store = s.store ∧ (takeInspect n s).reader = s.reader ∧ (takeInspect n s).reg = s.reg
    ∧ (takeInspect n s).zones = s.zones ∧ (takeInspect n s).cuts = s.cuts ∧ (takeInspect n s).motion = s.motion
    ∧ (takeInspect n s).beam = s.beam ∧ (takeInspect n s).station = s.station ∧ (takeInspect n s).hand = s.hand
    ∧ (takeInspect n s).link = s.link ∧ (takeInspect n s).pending = s.pending := by
  unfold takeInspect; (try dsimp only) <;> (repeat' split) <;> simp_all
@[simp] theorem failChangeover_frame (s : State) :
    (failChangeover s).web = s.web ∧ (failChangeover s).params = s.params ∧ (failChangeover s).pins = s.pins
    ∧ (failChangeover s).store = s.store ∧ (failChangeover s).reader = s.reader ∧ (failChangeover s).eyes = s.eyes
    ∧ (failChangeover s).reg = s.reg ∧ (failChangeover s).lists = s.lists ∧ (failChangeover s).zones = s.zones
    ∧ (failChangeover s).cuts = s.cuts ∧ (failChangeover s).motion.jobEnd = s.motion.jobEnd
    ∧ (failChangeover s).beam.current = s.beam.current ∧ (failChangeover s).station.relay = s.station.relay
    ∧ (failChangeover s).station.records = s.station.records
    ∧ (failChangeover s).station.inFlight = s.station.inFlight ∧ (failChangeover s).hand = s.hand
    ∧ (failChangeover s).link.reply = s.link.reply ∧ (failChangeover s).link.tx = s.link.tx
    ∧ (failChangeover s).link.requests = s.link.requests ∧ (failChangeover s).link.rx = s.link.rx
    ∧ (failChangeover s).link.baud = s.link.baud ∧ (failChangeover s).pending = s.pending := by
  unfold failChangeover; (try dsimp only) <;> (repeat' split) <;> simp_all
@[simp] theorem beamActionPushed_frame (sf : State × Bool) :
    (beamActionPushed sf).web = sf.1.web ∧ (beamActionPushed sf).params = sf.1.params
    ∧ (beamActionPushed sf).pins = sf.1.pins ∧ (beamActionPushed sf).store = sf.1.store
    ∧ (beamActionPushed sf).reader = sf.1.reader ∧ (beamActionPushed sf).eyes = sf.1.eyes
    ∧ (beamActionPushed sf).reg = sf.1.reg ∧ (beamActionPushed sf).lists = sf.1.lists
    ∧ (beamActionPushed sf).zones = sf.1.zones ∧ (beamActionPushed sf).cuts = sf.1.cuts
    ∧ (beamActionPushed sf).motion.jobEnd = sf.1.motion.jobEnd
    ∧ (beamActionPushed sf).beam.current = sf.1.beam.current
    ∧ (beamActionPushed sf).station.relay = sf.1.station.relay
    ∧ (beamActionPushed sf).station.records = sf.1.station.records
    ∧ (beamActionPushed sf).station.inFlight = sf.1.station.inFlight ∧ (beamActionPushed sf).hand = sf.1.hand
    ∧ (beamActionPushed sf).link.reply = sf.1.link.reply ∧ (beamActionPushed sf).link.tx = sf.1.link.tx
    ∧ (beamActionPushed sf).link.requests = sf.1.link.requests ∧ (beamActionPushed sf).link.rx = sf.1.link.rx
    ∧ (beamActionPushed sf).link.baud = sf.1.link.baud ∧ (beamActionPushed sf).pending = sf.1.pending := by
  unfold beamActionPushed; (try dsimp only) <;> (repeat' split) <;> simp_all
@[simp] theorem startMove_frame (l : Layout) (g : Int) (s : State) :
    (startMove l g s).web = s.web ∧ (startMove l g s).params = s.params ∧ (startMove l g s).pins = s.pins
    ∧ (startMove l g s).store = s.store ∧ (startMove l g s).reader = s.reader ∧ (startMove l g s).eyes = s.eyes
    ∧ (startMove l g s).reg = s.reg ∧ (startMove l g s).lists = s.lists ∧ (startMove l g s).zones = s.zones
    ∧ (startMove l g s).cuts = s.cuts ∧ (startMove l g s).motion.jobEnd = s.motion.jobEnd
    ∧ (startMove l g s).beam.current = s.beam.current ∧ (startMove l g s).station.relay = s.station.relay
    ∧ (startMove l g s).station.records = s.station.records
    ∧ (startMove l g s).station.inFlight = s.station.inFlight ∧ (startMove l g s).hand = s.hand
    ∧ (startMove l g s).link.reply = s.link.reply ∧ (startMove l g s).link.tx = s.link.tx
    ∧ (startMove l g s).link.requests = s.link.requests ∧ (startMove l g s).link.rx = s.link.rx
    ∧ (startMove l g s).link.baud = s.link.baud ∧ (startMove l g s).pending = s.pending := by
  unfold startMove; (try dsimp only) <;> (repeat' split) <;> simp_all
@[simp] theorem State.mapReg_frame (s : State) (f : Lane → LaneReg → LaneReg) :
    (State.mapReg s f).web = s.web ∧ (State.mapReg s f).params = s.params ∧ (State.mapReg s f).pins = s.pins
    ∧ (State.mapReg s f).store = s.store ∧ (State.mapReg s f).reader = s.reader ∧ (State.mapReg s f).eyes = s.eyes
    ∧ (State.mapReg s f).lists = s.lists ∧ (State.mapReg s f).zones = s.zones ∧ (State.mapReg s f).cuts = s.cuts
    ∧ (State.mapReg s f).motion = s.motion ∧ (State.mapReg s f).beam = s.beam
    ∧ (State.mapReg s f).station = s.station ∧ (State.mapReg s f).hand = s.hand ∧ (State.mapReg s f).link = s.link
    ∧ (State.mapReg s f).pending = s.pending := by
  refine ⟨?_, ?_, ?_, ?_, ?_, ?_, ?_, ?_, ?_, ?_, ?_, ?_, ?_, ?_, ?_⟩ <;> unfold State.mapReg <;> (try dsimp only) <;>
    (repeat' (first | split | (rw [forLanes_web] <;> (try (intro _ _)) <;> (try dsimp only)) | (rw [forLanes_params] <;> (try (intro _ _)) <;> (try dsimp only)) | (rw [forLanes_pins] <;> (try (intro _ _)) <;> (try dsimp only)) | (rw [forLanes_store] <;> (try (intro _ _)) <;> (try dsimp only)) | (rw [forLanes_reader] <;> (try (intro _ _)) <;> (try dsimp only)) | (rw [forLanes_eyes] <;> (try (intro _ _)) <;> (try dsimp only)) | (rw [forLanes_lists] <;> (try (intro _ _)) <;> (try dsimp only)) | (rw [forLanes_zones] <;> (try (intro _ _)) <;> (try dsimp only)) | (rw [forLanes_cuts] <;> (try (intro _ _)) <;> (try dsimp only)) | (rw [forLanes_motion] <;> (try (intro _ _)) <;> (try dsimp only)) | (rw [forLanes_beam] <;> (try (intro _ _)) <;> (try dsimp only)) | (rw [forLanes_station] <;> (try (intro _ _)) <;> (try dsimp only)) | (rw [forLanes_hand] <;> (try (intro _ _)) <;> (try dsimp only)) | (rw [forLanes_link] <;> (try (intro _ _)) <;> (try dsimp only)) | (rw [forLanes_pending] <;> (try (intro _ _)) <;> (try dsimp only)))) <;>
    (try simp) <;> (repeat' (first | split | (rw [forLanes_web] <;> (try (intro _ _)) <;> (try dsimp only)) | (rw [forLanes_params] <;> (try (intro _ _)) <;> (try dsimp only)) | (rw [forLanes_pins] <;> (try (intro _ _)) <;> (try dsimp only)) | (rw [forLanes_store] <;> (try (intro _ _)) <;> (try dsimp only)) | (rw [forLanes_reader] <;> (try (intro _ _)) <;> (try dsimp only)) | (rw [forLanes_eyes] <;> (try (intro _ _)) <;> (try dsimp only)) | (rw [forLanes_lists] <;> (try (intro _ _)) <;> (try dsimp only)) | (rw [forLanes_zones] <;> (try (intro _ _)) <;> (try dsimp only)) | (rw [forLanes_cuts] <;> (try (intro _ _)) <;> (try dsimp only)) | (rw [forLanes_motion] <;> (try (intro _ _)) <;> (try dsimp only)) | (rw [forLanes_beam] <;> (try (intro _ _)) <;> (try dsimp only)) | (rw [forLanes_station] <;> (try (intro _ _)) <;> (try dsimp only)) | (rw [forLanes_hand] <;> (try (intro _ _)) <;> (try dsimp only)) | (rw [forLanes_link] <;> (try (intro _ _)) <;> (try dsimp only)) | (rw [forLanes_pending] <;> (try (intro _ _)) <;> (try dsimp only)))) <;> (try simp [forLanes]) <;> (try simp_all)
@[simp] theorem judgeTrigger_frame (s : State) :
    (judgeTrigger s).web = s.web ∧ (judgeTrigger s).params = s.params ∧ (judgeTrigger s).pins = s.pins
    ∧ (judgeTrigger s).store = s.store ∧ (judgeTrigger s).reader = s.reader ∧ (judgeTrigger s).lists = s.lists
    ∧ (judgeTrigger s).zones = s.zones ∧ (judgeTrigger s).cuts = s.cuts
    ∧ (judgeTrigger s).motion.jobEnd = s.motion.jobEnd ∧ (judgeTrigger s).beam.current = s.beam.current
    ∧ (judgeTrigger s).station.relay = s.station.relay ∧ (judgeTrigger s).station.records = s.station.records
    ∧ (judgeTrigger s).station.inFlight = s.station.inFlight ∧ (judgeTrigger s).hand = s.hand
    ∧ (judgeTrigger s).link.reply = s.link.reply ∧ (judgeTrigger s).link.tx = s.link.tx
    ∧ (judgeTrigger s).link.requests = s.link.requests ∧ (judgeTrigger s).link.rx = s.link.rx
    ∧ (judgeTrigger s).link.baud = s.link.baud ∧ (judgeTrigger s).pending = s.pending := by
  unfold judgeTrigger; (try dsimp only) <;> (repeat' split) <;> simp_all
@[simp] theorem reissue_frame (s : State) :
    (reissue s).web = s.web ∧ (reissue s).params = s.params ∧ (reissue s).pins = s.pins
    ∧ (reissue s).store = s.store ∧ (reissue s).reader = s.reader ∧ (reissue s).eyes = s.eyes
    ∧ (reissue s).reg = s.reg ∧ (reissue s).lists = s.lists ∧ (reissue s).zones = s.zones
    ∧ (reissue s).cuts = s.cuts ∧ (reissue s).motion.jobEnd = s.motion.jobEnd
    ∧ (reissue s).beam.current = s.beam.current ∧ (reissue s).station.relay = s.station.relay
    ∧ (reissue s).station.records = s.station.records ∧ (reissue s).station.inFlight = s.station.inFlight
    ∧ (reissue s).hand = s.hand ∧ (reissue s).link.reply = s.link.reply ∧ (reissue s).link.tx = s.link.tx
    ∧ (reissue s).link.requests = s.link.requests ∧ (reissue s).link.rx = s.link.rx
    ∧ (reissue s).link.baud = s.link.baud ∧ (reissue s).pending = s.pending := by
  unfold reissue; (try dsimp only) <;> (repeat' split) <;> simp_all
@[simp] theorem positionsAcked_frame (move : Nat) (s : State) :
    (positionsAcked move s).web = s.web ∧ (positionsAcked move s).params = s.params
    ∧ (positionsAcked move s).pins = s.pins ∧ (positionsAcked move s).store = s.store
    ∧ (positionsAcked move s).reader = s.reader ∧ (positionsAcked move s).eyes = s.eyes
    ∧ (positionsAcked move s).reg = s.reg ∧ (positionsAcked move s).lists = s.lists
    ∧ (positionsAcked move s).zones = s.zones ∧ (positionsAcked move s).cuts = s.cuts
    ∧ (positionsAcked move s).motion.jobEnd = s.motion.jobEnd
    ∧ (positionsAcked move s).beam.current = s.beam.current
    ∧ (positionsAcked move s).station.relay = s.station.relay
    ∧ (positionsAcked move s).station.records = s.station.records
    ∧ (positionsAcked move s).station.inFlight = s.station.inFlight ∧ (positionsAcked move s).hand = s.hand
    ∧ (positionsAcked move s).link.reply = s.link.reply ∧ (positionsAcked move s).link.tx = s.link.tx
    ∧ (positionsAcked move s).link.requests = s.link.requests ∧ (positionsAcked move s).link.rx = s.link.rx
    ∧ (positionsAcked move s).link.baud = s.link.baud ∧ (positionsAcked move s).pending = s.pending := by
  unfold positionsAcked; (try dsimp only) <;> (repeat' split) <;> simp_all
@[simp] theorem moveAcked_frame (move : Nat) (s : State) :
    (moveAcked move s).web = s.web ∧ (moveAcked move s).params = s.params ∧ (moveAcked move s).pins = s.pins
    ∧ (moveAcked move s).store = s.store ∧ (moveAcked move s).reader = s.reader ∧ (moveAcked move s).eyes = s.eyes
    ∧ (moveAcked move s).reg = s.reg ∧ (moveAcked move s).lists = s.lists ∧ (moveAcked move s).zones = s.zones
    ∧ (moveAcked move s).cuts = s.cuts ∧ (moveAcked move s).motion = s.motion
    ∧ (moveAcked move s).beam.current = s.beam.current ∧ (moveAcked move s).station = s.station
    ∧ (moveAcked move s).hand = s.hand ∧ (moveAcked move s).link = s.link ∧ (moveAcked move s).pending = s.pending := by
  unfold moveAcked; (try dsimp only) <;> (repeat' split) <;> simp_all
@[simp] theorem beamActionFailed_frame (move : Nat) (s : State) :
    (beamActionFailed move s).web = s.web ∧ (beamActionFailed move s).params = s.params
    ∧ (beamActionFailed move s).pins = s.pins ∧ (beamActionFailed move s).store = s.store
    ∧ (beamActionFailed move s).reader = s.reader ∧ (beamActionFailed move s).eyes = s.eyes
    ∧ (beamActionFailed move s).reg = s.reg ∧ (beamActionFailed move s).lists = s.lists
    ∧ (beamActionFailed move s).zones = s.zones ∧ (beamActionFailed move s).cuts = s.cuts
    ∧ (beamActionFailed move s).motion.jobEnd = s.motion.jobEnd
    ∧ (beamActionFailed move s).beam.current = s.beam.current
    ∧ (beamActionFailed move s).station.relay = s.station.relay
    ∧ (beamActionFailed move s).station.records = s.station.records
    ∧ (beamActionFailed move s).station.inFlight = s.station.inFlight ∧ (beamActionFailed move s).hand = s.hand
    ∧ (beamActionFailed move s).link.reply = s.link.reply ∧ (beamActionFailed move s).link.tx = s.link.tx
    ∧ (beamActionFailed move s).link.requests = s.link.requests ∧ (beamActionFailed move s).link.rx = s.link.rx
    ∧ (beamActionFailed move s).link.baud = s.link.baud ∧ (beamActionFailed move s).pending = s.pending := by
  unfold beamActionFailed; (try dsimp only) <;> (repeat' split) <;> simp_all
@[simp] theorem State.onPage_frame (s : State) (p : Fin 8) (f : Page → Page) :
    (State.onPage s p f).web = s.web ∧ (State.onPage s p f).params = s.params ∧ (State.onPage s p f).pins = s.pins
    ∧ (State.onPage s p f).reader = s.reader ∧ (State.onPage s p f).eyes = s.eyes
    ∧ (State.onPage s p f).reg = s.reg ∧ (State.onPage s p f).lists = s.lists
    ∧ (State.onPage s p f).zones = s.zones ∧ (State.onPage s p f).cuts = s.cuts
    ∧ (State.onPage s p f).motion = s.motion ∧ (State.onPage s p f).beam = s.beam
    ∧ (State.onPage s p f).station = s.station ∧ (State.onPage s p f).hand = s.hand
    ∧ (State.onPage s p f).link = s.link ∧ (State.onPage s p f).pending = s.pending := by
  unfold State.onPage; (try dsimp only) <;> (repeat' split) <;> simp_all
@[simp] theorem releasePage_frame (p : Fin 8) (s : State) :
    (releasePage p s).web = s.web ∧ (releasePage p s).params = s.params ∧ (releasePage p s).pins = s.pins
    ∧ (releasePage p s).reader = s.reader ∧ (releasePage p s).eyes = s.eyes ∧ (releasePage p s).reg = s.reg
    ∧ (releasePage p s).lists = s.lists ∧ (releasePage p s).zones = s.zones ∧ (releasePage p s).cuts = s.cuts
    ∧ (releasePage p s).motion = s.motion ∧ (releasePage p s).beam = s.beam ∧ (releasePage p s).station = s.station
    ∧ (releasePage p s).hand = s.hand ∧ (releasePage p s).link.reply = s.link.reply
    ∧ (releasePage p s).link.tx = s.link.tx ∧ (releasePage p s).link.requests = s.link.requests
    ∧ (releasePage p s).link.rx = s.link.rx ∧ (releasePage p s).link.baud = s.link.baud
    ∧ (releasePage p s).pending = s.pending := by
  unfold releasePage; (try dsimp only) <;> (repeat' split) <;> simp_all
@[simp] theorem spendPage_frame (p : Fin 8) (s : State) :
    (spendPage p s).web = s.web ∧ (spendPage p s).params = s.params ∧ (spendPage p s).pins = s.pins
    ∧ (spendPage p s).reader = s.reader ∧ (spendPage p s).eyes = s.eyes ∧ (spendPage p s).reg = s.reg
    ∧ (spendPage p s).lists = s.lists ∧ (spendPage p s).zones = s.zones ∧ (spendPage p s).cuts = s.cuts
    ∧ (spendPage p s).motion = s.motion ∧ (spendPage p s).beam = s.beam ∧ (spendPage p s).station = s.station
    ∧ (spendPage p s).hand = s.hand ∧ (spendPage p s).link.reply = s.link.reply
    ∧ (spendPage p s).link.tx = s.link.tx ∧ (spendPage p s).link.requests = s.link.requests
    ∧ (spendPage p s).link.rx = s.link.rx ∧ (spendPage p s).link.baud = s.link.baud
    ∧ (spendPage p s).pending = s.pending := by
  unfold spendPage; (try dsimp only) <;> (repeat' split) <;> simp_all
@[simp] theorem examineJobEnd_frame (s : State) :
    (examineJobEnd s).web = s.web ∧ (examineJobEnd s).params = s.params ∧ (examineJobEnd s).pins = s.pins
    ∧ (examineJobEnd s).store = s.store ∧ (examineJobEnd s).reader = s.reader ∧ (examineJobEnd s).eyes = s.eyes
    ∧ (examineJobEnd s).reg = s.reg ∧ (examineJobEnd s).lists = s.lists ∧ (examineJobEnd s).zones = s.zones
    ∧ (examineJobEnd s).cuts = s.cuts ∧ (examineJobEnd s).beam = s.beam
    ∧ (examineJobEnd s).station.relay = s.station.relay ∧ (examineJobEnd s).station.records = s.station.records
    ∧ (examineJobEnd s).station.inFlight = s.station.inFlight ∧ (examineJobEnd s).hand = s.hand
    ∧ (examineJobEnd s).link.reply = s.link.reply ∧ (examineJobEnd s).link.tx = s.link.tx
    ∧ (examineJobEnd s).link.requests = s.link.requests ∧ (examineJobEnd s).link.rx = s.link.rx
    ∧ (examineJobEnd s).link.baud = s.link.baud ∧ (examineJobEnd s).pending = s.pending := by
  unfold examineJobEnd; (try dsimp only) <;> (repeat' split) <;> simp_all
@[simp] theorem needPage_frame (s : State) :
    (needPage s).web = s.web ∧ (needPage s).params = s.params ∧ (needPage s).pins = s.pins
    ∧ (needPage s).eyes = s.eyes ∧ (needPage s).reg = s.reg ∧ (needPage s).lists = s.lists
    ∧ (needPage s).zones = s.zones ∧ (needPage s).cuts = s.cuts ∧ (needPage s).motion = s.motion
    ∧ (needPage s).beam = s.beam ∧ (needPage s).station = s.station ∧ (needPage s).hand = s.hand
    ∧ (needPage s).link.reply = s.link.reply ∧ (needPage s).link.tx = s.link.tx
    ∧ (needPage s).link.requests = s.link.requests ∧ (needPage s).link.rx = s.link.rx
    ∧ (needPage s).link.baud = s.link.baud ∧ (needPage s).pending = s.pending := by
  unfold needPage; (try dsimp only) <;> (repeat' split) <;> simp_all
@[simp] theorem recordRead_frame (p : Fin 8) (slot : Nat) (s : State) :
    (recordRead p slot s).web = s.web ∧ (recordRead p slot s).params = s.params
    ∧ (recordRead p slot s).pins = s.pins ∧ (recordRead p slot s).eyes = s.eyes ∧ (recordRead p slot s).reg = s.reg
    ∧ (recordRead p slot s).lists = s.lists ∧ (recordRead p slot s).zones = s.zones
    ∧ (recordRead p slot s).cuts = s.cuts ∧ (recordRead p slot s).motion = s.motion
    ∧ (recordRead p slot s).beam = s.beam ∧ (recordRead p slot s).station = s.station
    ∧ (recordRead p slot s).hand = s.hand ∧ (recordRead p slot s).link.reply = s.link.reply
    ∧ (recordRead p slot s).link.tx = s.link.tx ∧ (recordRead p slot s).link.requests = s.link.requests
    ∧ (recordRead p slot s).link.rx = s.link.rx ∧ (recordRead p slot s).link.baud = s.link.baud
    ∧ (recordRead p slot s).pending = s.pending := by
  unfold recordRead; (try dsimp only) <;> (repeat' split) <;> simp_all
@[simp] theorem createCopy_frame (p : Fin 8) (slot copy : Nat) (r : PanelRecord) (n : Lane) (s : State) :
    (createCopy p slot copy r n s).web = s.web ∧ (createCopy p slot copy r n s).params = s.params
    ∧ (createCopy p slot copy r n s).pins = s.pins ∧ (createCopy p slot copy r n s).eyes = s.eyes
    ∧ (createCopy p slot copy r n s).reg = s.reg ∧ (createCopy p slot copy r n s).zones = s.zones
    ∧ (createCopy p slot copy r n s).cuts = s.cuts ∧ (createCopy p slot copy r n s).motion = s.motion
    ∧ (createCopy p slot copy r n s).beam = s.beam ∧ (createCopy p slot copy r n s).station = s.station
    ∧ (createCopy p slot copy r n s).hand = s.hand ∧ (createCopy p slot copy r n s).link.reply = s.link.reply
    ∧ (createCopy p slot copy r n s).link.tx = s.link.tx
    ∧ (createCopy p slot copy r n s).link.requests = s.link.requests
    ∧ (createCopy p slot copy r n s).link.rx = s.link.rx ∧ (createCopy p slot copy r n s).link.baud = s.link.baud
    ∧ (createCopy p slot copy r n s).pending = s.pending := by
  unfold createCopy; (try dsimp only) <;> (repeat' split) <;> simp_all
@[simp] theorem readPanel_frame (p : Fin 8) (slot copy : Nat) (r : PanelRecord) (s : State) :
    (readPanel p slot copy r s).web = s.web ∧ (readPanel p slot copy r s).params = s.params
    ∧ (readPanel p slot copy r s).pins = s.pins ∧ (readPanel p slot copy r s).eyes = s.eyes
    ∧ (readPanel p slot copy r s).reg = s.reg ∧ (readPanel p slot copy r s).zones = s.zones
    ∧ (readPanel p slot copy r s).cuts = s.cuts ∧ (readPanel p slot copy r s).motion = s.motion
    ∧ (readPanel p slot copy r s).beam = s.beam ∧ (readPanel p slot copy r s).station = s.station
    ∧ (readPanel p slot copy r s).hand = s.hand ∧ (readPanel p slot copy r s).link.reply = s.link.reply
    ∧ (readPanel p slot copy r s).link.tx = s.link.tx ∧ (readPanel p slot copy r s).link.requests = s.link.requests
    ∧ (readPanel p slot copy r s).link.rx = s.link.rx ∧ (readPanel p slot copy r s).link.baud = s.link.baud
    ∧ (readPanel p slot copy r s).pending = s.pending := by
  unfold readPanel; (try dsimp only) <;> (repeat' split) <;> simp_all
@[simp] theorem readLayout_frame (p : Fin 8) (slot : Nat) (l : Layout) (s : State) :
    (readLayout p slot l s).web = s.web ∧ (readLayout p slot l s).params = s.params
    ∧ (readLayout p slot l s).pins = s.pins ∧ (readLayout p slot l s).store = s.store
    ∧ (readLayout p slot l s).lists = s.lists ∧ (readLayout p slot l s).zones = s.zones
    ∧ (readLayout p slot l s).cuts = s.cuts ∧ (readLayout p slot l s).motion.jobEnd = s.motion.jobEnd
    ∧ (readLayout p slot l s).beam.current = s.beam.current
    ∧ (readLayout p slot l s).station.relay = s.station.relay
    ∧ (readLayout p slot l s).station.records = s.station.records
    ∧ (readLayout p slot l s).station.inFlight = s.station.inFlight ∧ (readLayout p slot l s).hand = s.hand
    ∧ (readLayout p slot l s).link.reply = s.link.reply ∧ (readLayout p slot l s).link.tx = s.link.tx
    ∧ (readLayout p slot l s).link.requests = s.link.requests ∧ (readLayout p slot l s).link.rx = s.link.rx
    ∧ (readLayout p slot l s).link.baud = s.link.baud ∧ (readLayout p slot l s).pending = s.pending := by
  unfold readLayout; (try dsimp only) <;> (repeat' split) <;> simp_all
@[simp] theorem readEnd_frame (p : Fin 8) (s : State) :
    (readEnd p s).web = s.web ∧ (readEnd p s).params = s.params ∧ (readEnd p s).pins = s.pins
    ∧ (readEnd p s).eyes = s.eyes ∧ (readEnd p s).reg = s.reg ∧ (readEnd p s).lists = s.lists
    ∧ (readEnd p s).zones = s.zones ∧ (readEnd p s).cuts = s.cuts ∧ (readEnd p s).beam = s.beam
    ∧ (readEnd p s).station.relay = s.station.relay ∧ (readEnd p s).station.records = s.station.records
    ∧ (readEnd p s).station.inFlight = s.station.inFlight ∧ (readEnd p s).hand = s.hand
    ∧ (readEnd p s).link.reply = s.link.reply ∧ (readEnd p s).link.tx = s.link.tx
    ∧ (readEnd p s).link.requests = s.link.requests ∧ (readEnd p s).link.rx = s.link.rx
    ∧ (readEnd p s).link.baud = s.link.baud ∧ (readEnd p s).pending = s.pending := by
  unfold readEnd; (try dsimp only) <;> (repeat' split) <;> simp_all
@[simp] theorem readRecord_frame (p : Fin 8) (slot copy : Nat) (s : State) :
    (readRecord p slot copy s).web = s.web ∧ (readRecord p slot copy s).params = s.params
    ∧ (readRecord p slot copy s).pins = s.pins ∧ (readRecord p slot copy s).zones = s.zones
    ∧ (readRecord p slot copy s).cuts = s.cuts ∧ (readRecord p slot copy s).beam.current = s.beam.current
    ∧ (readRecord p slot copy s).station.relay = s.station.relay
    ∧ (readRecord p slot copy s).station.records = s.station.records
    ∧ (readRecord p slot copy s).station.inFlight = s.station.inFlight ∧ (readRecord p slot copy s).hand = s.hand
    ∧ (readRecord p slot copy s).link.reply = s.link.reply ∧ (readRecord p slot copy s).link.tx = s.link.tx
    ∧ (readRecord p slot copy s).link.requests = s.link.requests ∧ (readRecord p slot copy s).link.rx = s.link.rx
    ∧ (readRecord p slot copy s).link.baud = s.link.baud ∧ (readRecord p slot copy s).pending = s.pending := by
  unfold readRecord; (try dsimp only) <;> (repeat' split) <;> simp_all
@[simp] theorem readLoop_frame (k : Nat) (s : State) :
    (readLoop k s).web = s.web ∧ (readLoop k s).params = s.params ∧ (readLoop k s).pins = s.pins
    ∧ (readLoop k s).zones = s.zones ∧ (readLoop k s).cuts = s.cuts ∧ (readLoop k s).beam.current = s.beam.current
    ∧ (readLoop k s).station.relay = s.station.relay ∧ (readLoop k s).station.records = s.station.records
    ∧ (readLoop k s).station.inFlight = s.station.inFlight ∧ (readLoop k s).hand = s.hand
    ∧ (readLoop k s).link.reply = s.link.reply ∧ (readLoop k s).link.tx = s.link.tx
    ∧ (readLoop k s).link.requests = s.link.requests ∧ (readLoop k s).link.rx = s.link.rx
    ∧ (readLoop k s).link.baud = s.link.baud ∧ (readLoop k s).pending = s.pending := by
  induction k generalizing s with
  | zero => simp [readLoop]
  | succ k ih => unfold readLoop; (try dsimp only) <;> (repeat' split) <;> simp_all
@[simp] theorem readOn_frame (s : State) :
    (readOn s).web = s.web ∧ (readOn s).params = s.params ∧ (readOn s).pins = s.pins ∧ (readOn s).zones = s.zones
    ∧ (readOn s).cuts = s.cuts ∧ (readOn s).beam.current = s.beam.current
    ∧ (readOn s).station.relay = s.station.relay ∧ (readOn s).station.records = s.station.records
    ∧ (readOn s).station.inFlight = s.station.inFlight ∧ (readOn s).hand = s.hand
    ∧ (readOn s).link.reply = s.link.reply ∧ (readOn s).link.tx = s.link.tx
    ∧ (readOn s).link.requests = s.link.requests ∧ (readOn s).link.rx = s.link.rx
    ∧ (readOn s).link.baud = s.link.baud ∧ (readOn s).pending = s.pending := by
  unfold readOn; (try dsimp only) <;> (repeat' split) <;> simp_all
@[simp] theorem takePage_frame (s : State) :
    (takePage s).web = s.web ∧ (takePage s).params = s.params ∧ (takePage s).pins = s.pins
    ∧ (takePage s).zones = s.zones ∧ (takePage s).cuts = s.cuts ∧ (takePage s).beam.current = s.beam.current
    ∧ (takePage s).station.relay = s.station.relay ∧ (takePage s).station.records = s.station.records
    ∧ (takePage s).station.inFlight = s.station.inFlight ∧ (takePage s).hand = s.hand
    ∧ (takePage s).link.reply = s.link.reply ∧ (takePage s).link.tx = s.link.tx
    ∧ (takePage s).link.requests = s.link.requests ∧ (takePage s).link.rx = s.link.rx
    ∧ (takePage s).link.baud = s.link.baud ∧ (takePage s).pending = s.pending := by
  unfold takePage; (try dsimp only) <;> (repeat' split) <;> simp_all
@[simp] theorem resumeStalled_frame (s : State) :
    (resumeStalled s).web = s.web ∧ (resumeStalled s).params = s.params ∧ (resumeStalled s).pins = s.pins
    ∧ (resumeStalled s).zones = s.zones ∧ (resumeStalled s).cuts = s.cuts
    ∧ (resumeStalled s).beam.current = s.beam.current ∧ (resumeStalled s).station.relay = s.station.relay
    ∧ (resumeStalled s).station.records = s.station.records
    ∧ (resumeStalled s).station.inFlight = s.station.inFlight ∧ (resumeStalled s).hand = s.hand
    ∧ (resumeStalled s).link.reply = s.link.reply ∧ (resumeStalled s).link.tx = s.link.tx
    ∧ (resumeStalled s).link.requests = s.link.requests ∧ (resumeStalled s).link.rx = s.link.rx
    ∧ (resumeStalled s).link.baud = s.link.baud ∧ (resumeStalled s).pending = s.pending := by
  unfold resumeStalled; (try dsimp only) <;> (repeat' split) <;> simp_all
@[simp] theorem layoutRead_frame (s : State) :
    (layoutRead s).web = s.web ∧ (layoutRead s).params = s.params ∧ (layoutRead s).pins = s.pins
    ∧ (layoutRead s).zones = s.zones ∧ (layoutRead s).cuts = s.cuts ∧ (layoutRead s).beam.current = s.beam.current
    ∧ (layoutRead s).station.relay = s.station.relay ∧ (layoutRead s).station.records = s.station.records
    ∧ (layoutRead s).station.inFlight = s.station.inFlight ∧ (layoutRead s).hand = s.hand
    ∧ (layoutRead s).link.reply = s.link.reply ∧ (layoutRead s).link.tx = s.link.tx
    ∧ (layoutRead s).link.requests = s.link.requests ∧ (layoutRead s).link.rx = s.link.rx
    ∧ (layoutRead s).link.baud = s.link.baud ∧ (layoutRead s).pending = s.pending := by
  unfold layoutRead; (try dsimp only) <;> (repeat' split) <;> simp_all
@[simp] theorem completeChangeover_frame (s : State) :
    (completeChangeover s).web = s.web ∧ (completeChangeover s).params = s.params
    ∧ (completeChangeover s).pins = s.pins ∧ (completeChangeover s).zones = s.zones
    ∧ (completeChangeover s).cuts = s.cuts ∧ (completeChangeover s).station.relay = s.station.relay
    ∧ (completeChangeover s).station.records = s.station.records
    ∧ (completeChangeover s).station.inFlight = s.station.inFlight ∧ (completeChangeover s).hand = s.hand
    ∧ (completeChangeover s).link.reply = s.link.reply ∧ (completeChangeover s).link.tx = s.link.tx
    ∧ (completeChangeover s).link.requests = s.link.requests ∧ (completeChangeover s).link.rx = s.link.rx
    ∧ (completeChangeover s).link.baud = s.link.baud ∧ (completeChangeover s).pending = s.pending := by
  unfold completeChangeover; (try dsimp only) <;> (repeat' split) <;> simp_all
@[simp] theorem takeBeamStatus_frame (b : BeamStatus) (s : State) :
    (takeBeamStatus b s).web = s.web ∧ (takeBeamStatus b s).params = s.params ∧ (takeBeamStatus b s).pins = s.pins
    ∧ (takeBeamStatus b s).zones = s.zones ∧ (takeBeamStatus b s).cuts = s.cuts
    ∧ (takeBeamStatus b s).station.relay = s.station.relay
    ∧ (takeBeamStatus b s).station.records = s.station.records
    ∧ (takeBeamStatus b s).station.inFlight = s.station.inFlight ∧ (takeBeamStatus b s).hand = s.hand
    ∧ (takeBeamStatus b s).link.reply = s.link.reply ∧ (takeBeamStatus b s).link.tx = s.link.tx
    ∧ (takeBeamStatus b s).link.requests = s.link.requests ∧ (takeBeamStatus b s).link.rx = s.link.rx
    ∧ (takeBeamStatus b s).link.baud = s.link.baud ∧ (takeBeamStatus b s).pending = s.pending := by
  unfold takeBeamStatus; (try dsimp only) <;> (repeat' split) <;> simp_all
@[simp] theorem makeDone_frame (n : Lane) (q : Source) (s : State) :
    (makeDone n q s).web = s.web ∧ (makeDone n q s).params = s.params ∧ (makeDone n q s).pins = s.pins
    ∧ (makeDone n q s).zones = s.zones ∧ (makeDone n q s).cuts = s.cuts
    ∧ (makeDone n q s).beam.current = s.beam.current ∧ (makeDone n q s).station.relay = s.station.relay
    ∧ (makeDone n q s).station.records = s.station.records ∧ (makeDone n q s).station.inFlight = s.station.inFlight
    ∧ (makeDone n q s).hand = s.hand ∧ (makeDone n q s).link.reply = s.link.reply
    ∧ (makeDone n q s).link.tx = s.link.tx ∧ (makeDone n q s).link.requests = s.link.requests
    ∧ (makeDone n q s).link.rx = s.link.rx ∧ (makeDone n q s).link.baud = s.link.baud
    ∧ (makeDone n q s).pending = s.pending := by
  unfold makeDone; (try dsimp only) <;> (repeat' split) <;> simp_all
end Sys2Proof.Machine
end

