-- ==== Sys2Proof/Laws/Frames3.lean ====
section
/-! SUPPORT. What each operation leaves unchanged: the knife, the handoff, the stations and SETUP. One lemma an operation; its proof uses those before it. -/
set_option Elab.async false
set_option linter.all false
namespace Sys2Proof.Machine
@[simp] theorem sendTraverse_frame (e : Entry) (s : State) :
    (sendTraverse e s).web = s.web ∧ (sendTraverse e s).params = s.params ∧ (sendTraverse e s).pins = s.pins
    ∧ (sendTraverse e s).store = s.store ∧ (sendTraverse e s).reader = s.reader ∧ (sendTraverse e s).eyes = s.eyes
    ∧ (sendTraverse e s).reg = s.reg ∧ (sendTraverse e s).lists = s.lists ∧ (sendTraverse e s).zones = s.zones
    ∧ (sendTraverse e s).motion = s.motion ∧ (sendTraverse e s).beam = s.beam
    ∧ (sendTraverse e s).station = s.station ∧ (sendTraverse e s).hand = s.hand ∧ (sendTraverse e s).link = s.link
    ∧ (sendTraverse e s).pending = s.pending := by
  unfold sendTraverse; (try dsimp only) <;> (repeat' split) <;> simp_all
@[simp] theorem tryTraverse_frame (s : State) :
    (tryTraverse s).web = s.web ∧ (tryTraverse s).params = s.params ∧ (tryTraverse s).pins = s.pins
    ∧ (tryTraverse s).store = s.store ∧ (tryTraverse s).reader = s.reader ∧ (tryTraverse s).eyes = s.eyes
    ∧ (tryTraverse s).reg = s.reg ∧ (tryTraverse s).lists = s.lists ∧ (tryTraverse s).zones = s.zones
    ∧ (tryTraverse s).motion = s.motion ∧ (tryTraverse s).beam = s.beam ∧ (tryTraverse s).station = s.station
    ∧ (tryTraverse s).hand = s.hand ∧ (tryTraverse s).link = s.link ∧ (tryTraverse s).pending = s.pending := by
  unfold tryTraverse; (try dsimp only) <;> (repeat' split) <;> simp_all
@[simp] theorem State.onChannel_frame (s : State) (ch : Lane) (f : Channel → Channel) :
    (State.onChannel s ch f).web = s.web ∧ (State.onChannel s ch f).params = s.params
    ∧ (State.onChannel s ch f).pins = s.pins ∧ (State.onChannel s ch f).store = s.store
    ∧ (State.onChannel s ch f).reader = s.reader ∧ (State.onChannel s ch f).eyes = s.eyes
    ∧ (State.onChannel s ch f).reg = s.reg ∧ (State.onChannel s ch f).lists = s.lists
    ∧ (State.onChannel s ch f).zones = s.zones ∧ (State.onChannel s ch f).cuts = s.cuts
    ∧ (State.onChannel s ch f).motion = s.motion ∧ (State.onChannel s ch f).beam = s.beam
    ∧ (State.onChannel s ch f).station = s.station ∧ (State.onChannel s ch f).link = s.link
    ∧ (State.onChannel s ch f).pending = s.pending := by
  unfold State.onChannel; (try dsimp only) <;> (repeat' split) <;> simp_all
@[simp] theorem assertDeliver_frame (ch n : Lane) (q : Source) (st : ChannelState) (delay : Option Nat) (s : State) :
    (assertDeliver ch n q st delay s).web = s.web ∧ (assertDeliver ch n q st delay s).params = s.params
    ∧ (assertDeliver ch n q st delay s).pins = s.pins ∧ (assertDeliver ch n q st delay s).store = s.store
    ∧ (assertDeliver ch n q st delay s).reader = s.reader ∧ (assertDeliver ch n q st delay s).eyes = s.eyes
    ∧ (assertDeliver ch n q st delay s).reg = s.reg ∧ (assertDeliver ch n q st delay s).zones = s.zones
    ∧ (assertDeliver ch n q st delay s).cuts = s.cuts ∧ (assertDeliver ch n q st delay s).motion = s.motion
    ∧ (assertDeliver ch n q st delay s).beam = s.beam ∧ (assertDeliver ch n q st delay s).station = s.station
    ∧ (assertDeliver ch n q st delay s).link = s.link ∧ (assertDeliver ch n q st delay s).pending = s.pending := by
  unfold assertDeliver; (try dsimp only) <;> (repeat' split) <;> simp_all
@[simp] theorem beginCycle_frame (ch n : Lane) (q : Source) (s : State) :
    (beginCycle ch n q s).web = s.web ∧ (beginCycle ch n q s).params = s.params
    ∧ (beginCycle ch n q s).pins = s.pins ∧ (beginCycle ch n q s).store = s.store
    ∧ (beginCycle ch n q s).reader = s.reader ∧ (beginCycle ch n q s).eyes = s.eyes
    ∧ (beginCycle ch n q s).reg = s.reg ∧ (beginCycle ch n q s).zones = s.zones
    ∧ (beginCycle ch n q s).cuts = s.cuts ∧ (beginCycle ch n q s).motion = s.motion
    ∧ (beginCycle ch n q s).beam = s.beam ∧ (beginCycle ch n q s).station = s.station
    ∧ (beginCycle ch n q s).link = s.link ∧ (beginCycle ch n q s).pending = s.pending := by
  unfold beginCycle; (try dsimp only) <;> (repeat' split) <;> simp_all
@[simp] theorem takeWaiting_frame (s : State) :
    (takeWaiting s).web = s.web ∧ (takeWaiting s).params = s.params ∧ (takeWaiting s).pins = s.pins
    ∧ (takeWaiting s).store = s.store ∧ (takeWaiting s).reader = s.reader ∧ (takeWaiting s).eyes = s.eyes
    ∧ (takeWaiting s).reg = s.reg ∧ (takeWaiting s).zones = s.zones ∧ (takeWaiting s).cuts = s.cuts
    ∧ (takeWaiting s).motion = s.motion ∧ (takeWaiting s).beam = s.beam ∧ (takeWaiting s).station = s.station
    ∧ (takeWaiting s).link = s.link ∧ (takeWaiting s).pending = s.pending := by
  unfold takeWaiting; (try dsimp only) <;> (repeat' split) <;> simp_all
@[simp] theorem handCut_frame (n : Lane) (q : Source) (s : State) :
    (handCut n q s).web = s.web ∧ (handCut n q s).params = s.params ∧ (handCut n q s).pins = s.pins
    ∧ (handCut n q s).zones = s.zones ∧ (handCut n q s).cuts = s.cuts
    ∧ (handCut n q s).beam.current = s.beam.current ∧ (handCut n q s).station.relay = s.station.relay
    ∧ (handCut n q s).station.records = s.station.records ∧ (handCut n q s).station.inFlight = s.station.inFlight
    ∧ (handCut n q s).link.reply = s.link.reply ∧ (handCut n q s).link.tx = s.link.tx
    ∧ (handCut n q s).link.requests = s.link.requests ∧ (handCut n q s).link.rx = s.link.rx
    ∧ (handCut n q s).link.baud = s.link.baud ∧ (handCut n q s).pending = s.pending := by
  unfold handCut; (try dsimp only) <;> (repeat' split) <;> simp_all
@[simp] theorem endCycle_frame (ch : Lane) (note : Ctx → Ctx) (s : State) :
    (endCycle ch note s).web = s.web ∧ (endCycle ch note s).params = s.params ∧ (endCycle ch note s).pins = s.pins
    ∧ (endCycle ch note s).zones = s.zones ∧ (endCycle ch note s).beam.current = s.beam.current
    ∧ (endCycle ch note s).station.relay = s.station.relay
    ∧ (endCycle ch note s).station.records = s.station.records
    ∧ (endCycle ch note s).station.inFlight = s.station.inFlight ∧ (endCycle ch note s).link.reply = s.link.reply
    ∧ (endCycle ch note s).link.tx = s.link.tx ∧ (endCycle ch note s).link.requests = s.link.requests
    ∧ (endCycle ch note s).link.rx = s.link.rx ∧ (endCycle ch note s).link.baud = s.link.baud
    ∧ (endCycle ch note s).pending = s.pending := by
  unfold endCycle; (try dsimp only) <;> (repeat' split) <;> simp_all
@[simp] theorem completeCycle_frame (ch : Lane) (s : State) :
    (completeCycle ch s).web = s.web ∧ (completeCycle ch s).params = s.params ∧ (completeCycle ch s).pins = s.pins
    ∧ (completeCycle ch s).zones = s.zones ∧ (completeCycle ch s).beam.current = s.beam.current
    ∧ (completeCycle ch s).station.relay = s.station.relay
    ∧ (completeCycle ch s).station.records = s.station.records
    ∧ (completeCycle ch s).station.inFlight = s.station.inFlight ∧ (completeCycle ch s).link.reply = s.link.reply
    ∧ (completeCycle ch s).link.tx = s.link.tx ∧ (completeCycle ch s).link.requests = s.link.requests
    ∧ (completeCycle ch s).link.rx = s.link.rx ∧ (completeCycle ch s).link.baud = s.link.baud
    ∧ (completeCycle ch s).pending = s.pending := by
  unfold completeCycle; (try dsimp only) <;> (repeat' split) <;> simp_all
@[simp] theorem timeoutCycle_frame (ch : Lane) (s : State) :
    (timeoutCycle ch s).web = s.web ∧ (timeoutCycle ch s).params = s.params ∧ (timeoutCycle ch s).pins = s.pins
    ∧ (timeoutCycle ch s).zones = s.zones ∧ (timeoutCycle ch s).beam.current = s.beam.current
    ∧ (timeoutCycle ch s).station.relay = s.station.relay ∧ (timeoutCycle ch s).station.records = s.station.records
    ∧ (timeoutCycle ch s).station.inFlight = s.station.inFlight ∧ (timeoutCycle ch s).link.reply = s.link.reply
    ∧ (timeoutCycle ch s).link.tx = s.link.tx ∧ (timeoutCycle ch s).link.requests = s.link.requests
    ∧ (timeoutCycle ch s).link.rx = s.link.rx ∧ (timeoutCycle ch s).link.baud = s.link.baud
    ∧ (timeoutCycle ch s).pending = s.pending := by
  unfold timeoutCycle; (try dsimp only) <;> (repeat' split) <;> simp_all
@[simp] theorem recordCut_frame (actual : Int) (parts : Lanes (Option LanePart)) (n : Lane) (s : State) :
    (recordCut actual parts n s).web = s.web ∧ (recordCut actual parts n s).params = s.params
    ∧ (recordCut actual parts n s).pins = s.pins ∧ (recordCut actual parts n s).zones = s.zones
    ∧ (recordCut actual parts n s).cuts = s.cuts ∧ (recordCut actual parts n s).beam.current = s.beam.current
    ∧ (recordCut actual parts n s).station.relay = s.station.relay
    ∧ (recordCut actual parts n s).station.records = s.station.records
    ∧ (recordCut actual parts n s).station.inFlight = s.station.inFlight
    ∧ (recordCut actual parts n s).link.reply = s.link.reply ∧ (recordCut actual parts n s).link.tx = s.link.tx
    ∧ (recordCut actual parts n s).link.requests = s.link.requests
    ∧ (recordCut actual parts n s).link.rx = s.link.rx ∧ (recordCut actual parts n s).link.baud = s.link.baud
    ∧ (recordCut actual parts n s).pending = s.pending := by
  unfold recordCut; (try dsimp only) <;> (repeat' split) <;> simp_all
@[simp] theorem takeEnd_frame (e : Entry) (s : State) :
    (takeEnd e s).web = s.web ∧ (takeEnd e s).params = s.params ∧ (takeEnd e s).pins = s.pins
    ∧ (takeEnd e s).zones = s.zones ∧ (takeEnd e s).beam.current = s.beam.current
    ∧ (takeEnd e s).station.relay = s.station.relay ∧ (takeEnd e s).station.records = s.station.records
    ∧ (takeEnd e s).station.inFlight = s.station.inFlight ∧ (takeEnd e s).link.reply = s.link.reply
    ∧ (takeEnd e s).link.tx = s.link.tx ∧ (takeEnd e s).link.requests = s.link.requests
    ∧ (takeEnd e s).link.rx = s.link.rx ∧ (takeEnd e s).link.baud = s.link.baud ∧ (takeEnd e s).pending = s.pending := by
  unfold takeEnd; (try dsimp only) <;> (repeat' split) <;> simp_all
@[simp] theorem creep_frame (e : Entry) (s : State) :
    (creep e s).web = s.web ∧ (creep e s).params = s.params ∧ (creep e s).pins = s.pins
    ∧ (creep e s).store = s.store ∧ (creep e s).reader = s.reader ∧ (creep e s).eyes = s.eyes
    ∧ (creep e s).reg = s.reg ∧ (creep e s).zones = s.zones ∧ (creep e s).motion.line = s.motion.line
    ∧ (creep e s).motion.jobEnd = s.motion.jobEnd ∧ (creep e s).motion.nip = s.motion.nip
    ∧ (creep e s).beam = s.beam ∧ (creep e s).station = s.station ∧ (creep e s).hand = s.hand
    ∧ (creep e s).link = s.link ∧ (creep e s).pending = s.pending := by
  unfold creep; (try dsimp only) <;> (repeat' split) <;> simp_all
@[simp] theorem positioned_frame (s : State) :
    (positioned s).web = s.web ∧ (positioned s).params = s.params ∧ (positioned s).pins = s.pins
    ∧ (positioned s).store = s.store ∧ (positioned s).reader = s.reader ∧ (positioned s).eyes = s.eyes
    ∧ (positioned s).reg = s.reg ∧ (positioned s).lists = s.lists ∧ (positioned s).zones = s.zones
    ∧ (positioned s).motion = s.motion ∧ (positioned s).beam = s.beam ∧ (positioned s).station = s.station
    ∧ (positioned s).hand = s.hand ∧ (positioned s).link = s.link ∧ (positioned s).pending = s.pending := by
  unfold positioned; (try dsimp only) <;> (repeat' split) <;> simp_all
@[simp] theorem sequencerInPosition_frame (s : State) :
    (sequencerInPosition s).web = s.web ∧ (sequencerInPosition s).params = s.params
    ∧ (sequencerInPosition s).pins = s.pins ∧ (sequencerInPosition s).store = s.store
    ∧ (sequencerInPosition s).reader = s.reader ∧ (sequencerInPosition s).eyes = s.eyes
    ∧ (sequencerInPosition s).reg = s.reg ∧ (sequencerInPosition s).zones = s.zones
    ∧ (sequencerInPosition s).motion.line = s.motion.line ∧ (sequencerInPosition s).motion.jobEnd = s.motion.jobEnd
    ∧ (sequencerInPosition s).motion.nip = s.motion.nip ∧ (sequencerInPosition s).beam = s.beam
    ∧ (sequencerInPosition s).station = s.station ∧ (sequencerInPosition s).hand = s.hand
    ∧ (sequencerInPosition s).link = s.link ∧ (sequencerInPosition s).pending = s.pending := by
  unfold sequencerInPosition; (try dsimp only) <;> (repeat' split) <;> simp_all
@[simp] theorem outfeedInPosition_frame (s : State) :
    (outfeedInPosition s).web = s.web ∧ (outfeedInPosition s).params = s.params
    ∧ (outfeedInPosition s).pins = s.pins ∧ (outfeedInPosition s).store = s.store
    ∧ (outfeedInPosition s).reader = s.reader ∧ (outfeedInPosition s).eyes = s.eyes
    ∧ (outfeedInPosition s).reg = s.reg ∧ (outfeedInPosition s).lists = s.lists
    ∧ (outfeedInPosition s).zones = s.zones ∧ (outfeedInPosition s).cuts = s.cuts
    ∧ (outfeedInPosition s).motion.line = s.motion.line ∧ (outfeedInPosition s).motion.jobEnd = s.motion.jobEnd
    ∧ (outfeedInPosition s).motion.nip = s.motion.nip ∧ (outfeedInPosition s).beam = s.beam
    ∧ (outfeedInPosition s).station = s.station ∧ (outfeedInPosition s).hand = s.hand
    ∧ (outfeedInPosition s).link = s.link ∧ (outfeedInPosition s).pending = s.pending := by
  unfold outfeedInPosition; (try dsimp only) <;> (repeat' split) <;> simp_all
@[simp] theorem takeUpHead_frame (s : State) :
    (takeUpHead s).web = s.web ∧ (takeUpHead s).params = s.params ∧ (takeUpHead s).pins = s.pins
    ∧ (takeUpHead s).store = s.store ∧ (takeUpHead s).reader = s.reader ∧ (takeUpHead s).eyes = s.eyes
    ∧ (takeUpHead s).reg = s.reg ∧ (takeUpHead s).zones = s.zones ∧ (takeUpHead s).motion = s.motion
    ∧ (takeUpHead s).beam = s.beam ∧ (takeUpHead s).station = s.station ∧ (takeUpHead s).hand = s.hand
    ∧ (takeUpHead s).link = s.link ∧ (takeUpHead s).pending = s.pending := by
  unfold takeUpHead; (try dsimp only) <;> (repeat' split) <;> simp_all
@[simp] theorem whileRunning_web (f : State → State) (s : State) (h : (f s).web = s.web) : (whileRunning f s).web = s.web := by
  unfold whileRunning; split <;> simp [h]
@[simp] theorem whileRunning_params (f : State → State) (s : State) (h : (f s).params = s.params) : (whileRunning f s).params = s.params := by
  unfold whileRunning; split <;> simp [h]
@[simp] theorem whileRunning_pins (f : State → State) (s : State) (h : (f s).pins = s.pins) : (whileRunning f s).pins = s.pins := by
  unfold whileRunning; split <;> simp [h]
@[simp] theorem whileRunning_store (f : State → State) (s : State) (h : (f s).store = s.store) : (whileRunning f s).store = s.store := by
  unfold whileRunning; split <;> simp [h]
@[simp] theorem whileRunning_reader (f : State → State) (s : State) (h : (f s).reader = s.reader) : (whileRunning f s).reader = s.reader := by
  unfold whileRunning; split <;> simp [h]
@[simp] theorem whileRunning_eyes (f : State → State) (s : State) (h : (f s).eyes = s.eyes) : (whileRunning f s).eyes = s.eyes := by
  unfold whileRunning; split <;> simp [h]
@[simp] theorem whileRunning_reg (f : State → State) (s : State) (h : (f s).reg = s.reg) : (whileRunning f s).reg = s.reg := by
  unfold whileRunning; split <;> simp [h]
@[simp] theorem whileRunning_lists (f : State → State) (s : State) (h : (f s).lists = s.lists) : (whileRunning f s).lists = s.lists := by
  unfold whileRunning; split <;> simp [h]
@[simp] theorem whileRunning_zones (f : State → State) (s : State) (h : (f s).zones = s.zones) : (whileRunning f s).zones = s.zones := by
  unfold whileRunning; split <;> simp [h]
@[simp] theorem whileRunning_cuts (f : State → State) (s : State) (h : (f s).cuts = s.cuts) : (whileRunning f s).cuts = s.cuts := by
  unfold whileRunning; split <;> simp [h]
@[simp] theorem whileRunning_motion (f : State → State) (s : State) (h : (f s).motion = s.motion) : (whileRunning f s).motion = s.motion := by
  unfold whileRunning; split <;> simp [h]
@[simp] theorem whileRunning_beam (f : State → State) (s : State) (h : (f s).beam = s.beam) : (whileRunning f s).beam = s.beam := by
  unfold whileRunning; split <;> simp [h]
@[simp] theorem whileRunning_station (f : State → State) (s : State) (h : (f s).station = s.station) : (whileRunning f s).station = s.station := by
  unfold whileRunning; split <;> simp [h]
@[simp] theorem whileRunning_hand (f : State → State) (s : State) (h : (f s).hand = s.hand) : (whileRunning f s).hand = s.hand := by
  unfold whileRunning; split <;> simp [h]
@[simp] theorem whileRunning_link (f : State → State) (s : State) (h : (f s).link = s.link) : (whileRunning f s).link = s.link := by
  unfold whileRunning; split <;> simp [h]
@[simp] theorem whileRunning_pending (f : State → State) (s : State) (h : (f s).pending = s.pending) : (whileRunning f s).pending = s.pending := by
  unfold whileRunning; split <;> simp [h]
@[simp] theorem whileRunning_link_reply (f : State → State) (s : State) (h : (f s).link.reply = s.link.reply) : (whileRunning f s).link.reply = s.link.reply := by
  unfold whileRunning; split <;> simp [h]
@[simp] theorem whileRunning_link_tx (f : State → State) (s : State) (h : (f s).link.tx = s.link.tx) : (whileRunning f s).link.tx = s.link.tx := by
  unfold whileRunning; split <;> simp [h]
@[simp] theorem whileRunning_link_requests (f : State → State) (s : State) (h : (f s).link.requests = s.link.requests) : (whileRunning f s).link.requests = s.link.requests := by
  unfold whileRunning; split <;> simp [h]
@[simp] theorem whileRunning_link_rx (f : State → State) (s : State) (h : (f s).link.rx = s.link.rx) : (whileRunning f s).link.rx = s.link.rx := by
  unfold whileRunning; split <;> simp [h]
@[simp] theorem whileRunning_link_baud (f : State → State) (s : State) (h : (f s).link.baud = s.link.baud) : (whileRunning f s).link.baud = s.link.baud := by
  unfold whileRunning; split <;> simp [h]
@[simp] theorem whileRunning_station_relay (f : State → State) (s : State) (h : (f s).station.relay = s.station.relay) : (whileRunning f s).station.relay = s.station.relay := by
  unfold whileRunning; split <;> simp [h]
@[simp] theorem whileRunning_station_records (f : State → State) (s : State) (h : (f s).station.records = s.station.records) : (whileRunning f s).station.records = s.station.records := by
  unfold whileRunning; split <;> simp [h]
@[simp] theorem whileRunning_station_inFlight (f : State → State) (s : State) (h : (f s).station.inFlight = s.station.inFlight) : (whileRunning f s).station.inFlight = s.station.inFlight := by
  unfold whileRunning; split <;> simp [h]
@[simp] theorem whileRunning_motion_line (f : State → State) (s : State) (h : (f s).motion.line = s.motion.line) : (whileRunning f s).motion.line = s.motion.line := by
  unfold whileRunning; split <;> simp [h]
@[simp] theorem whileRunning_motion_jobEnd (f : State → State) (s : State) (h : (f s).motion.jobEnd = s.motion.jobEnd) : (whileRunning f s).motion.jobEnd = s.motion.jobEnd := by
  unfold whileRunning; split <;> simp [h]
@[simp] theorem whileRunning_motion_nip (f : State → State) (s : State) (h : (f s).motion.nip = s.motion.nip) : (whileRunning f s).motion.nip = s.motion.nip := by
  unfold whileRunning; split <;> simp [h]
@[simp] theorem whileRunning_beam_current (f : State → State) (s : State) (h : (f s).beam.current = s.beam.current) : (whileRunning f s).beam.current = s.beam.current := by
  unfold whileRunning; split <;> simp [h]
@[simp] theorem enterRunning_frame (s : State) :
    (enterRunning s).web = s.web ∧ (enterRunning s).params = s.params ∧ (enterRunning s).pins = s.pins
    ∧ (enterRunning s).store = s.store ∧ (enterRunning s).reader = s.reader ∧ (enterRunning s).eyes = s.eyes
    ∧ (enterRunning s).reg = s.reg ∧ (enterRunning s).zones = s.zones
    ∧ (enterRunning s).motion.jobEnd = s.motion.jobEnd ∧ (enterRunning s).beam.current = s.beam.current
    ∧ (enterRunning s).station.relay = s.station.relay ∧ (enterRunning s).station.records = s.station.records
    ∧ (enterRunning s).station.inFlight = s.station.inFlight ∧ (enterRunning s).hand = s.hand
    ∧ (enterRunning s).link.reply = s.link.reply ∧ (enterRunning s).link.tx = s.link.tx
    ∧ (enterRunning s).link.requests = s.link.requests ∧ (enterRunning s).link.rx = s.link.rx
    ∧ (enterRunning s).link.baud = s.link.baud ∧ (enterRunning s).pending = s.pending := by
  unfold enterRunning; (try dsimp only) <;> (repeat' split) <;> simp_all
@[simp] theorem actionFailed_frame (a : Action) (s : State) :
    (actionFailed a s).web = s.web ∧ (actionFailed a s).params = s.params ∧ (actionFailed a s).pins = s.pins
    ∧ (actionFailed a s).store = s.store ∧ (actionFailed a s).reader = s.reader ∧ (actionFailed a s).eyes = s.eyes
    ∧ (actionFailed a s).reg = s.reg ∧ (actionFailed a s).lists = s.lists ∧ (actionFailed a s).zones = s.zones
    ∧ (actionFailed a s).cuts = s.cuts ∧ (actionFailed a s).motion.jobEnd = s.motion.jobEnd
    ∧ (actionFailed a s).beam.current = s.beam.current ∧ (actionFailed a s).station.relay = s.station.relay
    ∧ (actionFailed a s).station.records = s.station.records
    ∧ (actionFailed a s).station.inFlight = s.station.inFlight ∧ (actionFailed a s).hand = s.hand
    ∧ (actionFailed a s).link.reply = s.link.reply ∧ (actionFailed a s).link.tx = s.link.tx
    ∧ (actionFailed a s).link.requests = s.link.requests ∧ (actionFailed a s).link.rx = s.link.rx
    ∧ (actionFailed a s).link.baud = s.link.baud ∧ (actionFailed a s).pending = s.pending := by
  unfold actionFailed; (try dsimp only) <;> (repeat' split) <;> simp_all
@[simp] theorem actionAcked_frame (a : Action) (s : State) :
    (actionAcked a s).web = s.web ∧ (actionAcked a s).params = s.params ∧ (actionAcked a s).pins = s.pins
    ∧ (actionAcked a s).store = s.store ∧ (actionAcked a s).reader = s.reader ∧ (actionAcked a s).eyes = s.eyes
    ∧ (actionAcked a s).reg = s.reg ∧ (actionAcked a s).lists = s.lists ∧ (actionAcked a s).zones = s.zones
    ∧ (actionAcked a s).cuts = s.cuts ∧ (actionAcked a s).motion.jobEnd = s.motion.jobEnd
    ∧ (actionAcked a s).beam.current = s.beam.current ∧ (actionAcked a s).station.relay = s.station.relay
    ∧ (actionAcked a s).station.records = s.station.records
    ∧ (actionAcked a s).station.inFlight = s.station.inFlight ∧ (actionAcked a s).hand = s.hand
    ∧ (actionAcked a s).link.reply = s.link.reply ∧ (actionAcked a s).link.tx = s.link.tx
    ∧ (actionAcked a s).link.requests = s.link.requests ∧ (actionAcked a s).link.rx = s.link.rx
    ∧ (actionAcked a s).link.baud = s.link.baud ∧ (actionAcked a s).pending = s.pending := by
  unfold actionAcked; (try dsimp only) <;> (repeat' split) <;> simp_all
@[simp] theorem sendTxn_frame (t : Txn) (s : State) :
    (sendTxn t s).web = s.web ∧ (sendTxn t s).params = s.params ∧ (sendTxn t s).pins = s.pins
    ∧ (sendTxn t s).store = s.store ∧ (sendTxn t s).reader = s.reader ∧ (sendTxn t s).eyes = s.eyes
    ∧ (sendTxn t s).reg = s.reg ∧ (sendTxn t s).lists = s.lists ∧ (sendTxn t s).zones = s.zones
    ∧ (sendTxn t s).cuts = s.cuts ∧ (sendTxn t s).motion = s.motion ∧ (sendTxn t s).beam = s.beam
    ∧ (sendTxn t s).station.relay = s.station.relay ∧ (sendTxn t s).station.records = s.station.records
    ∧ (sendTxn t s).hand = s.hand ∧ (sendTxn t s).link = s.link ∧ (sendTxn t s).pending = s.pending := by
  unfold sendTxn; (try dsimp only) <;> (repeat' split) <;> simp_all
@[simp] theorem arbiter_frame (k : Nat) (s : State) :
    (arbiter k s).web = s.web ∧ (arbiter k s).params = s.params ∧ (arbiter k s).pins = s.pins
    ∧ (arbiter k s).store = s.store ∧ (arbiter k s).reader = s.reader ∧ (arbiter k s).eyes = s.eyes
    ∧ (arbiter k s).reg = s.reg ∧ (arbiter k s).lists = s.lists ∧ (arbiter k s).zones = s.zones
    ∧ (arbiter k s).cuts = s.cuts ∧ (arbiter k s).motion.jobEnd = s.motion.jobEnd
    ∧ (arbiter k s).beam.current = s.beam.current ∧ (arbiter k s).station.relay = s.station.relay
    ∧ (arbiter k s).station.records = s.station.records ∧ (arbiter k s).hand = s.hand
    ∧ (arbiter k s).link.reply = s.link.reply ∧ (arbiter k s).link.tx = s.link.tx
    ∧ (arbiter k s).link.requests = s.link.requests ∧ (arbiter k s).link.rx = s.link.rx
    ∧ (arbiter k s).link.baud = s.link.baud ∧ (arbiter k s).pending = s.pending := by
  induction k generalizing s with
  | zero => simp [arbiter]
  | succ k ih => unfold arbiter; (try dsimp only) <;> (repeat' split) <;> simp_all
@[simp] theorem runArbiter_frame (s : State) :
    (runArbiter s).web = s.web ∧ (runArbiter s).params = s.params ∧ (runArbiter s).pins = s.pins
    ∧ (runArbiter s).store = s.store ∧ (runArbiter s).reader = s.reader ∧ (runArbiter s).eyes = s.eyes
    ∧ (runArbiter s).reg = s.reg ∧ (runArbiter s).lists = s.lists ∧ (runArbiter s).zones = s.zones
    ∧ (runArbiter s).cuts = s.cuts ∧ (runArbiter s).motion.jobEnd = s.motion.jobEnd
    ∧ (runArbiter s).beam.current = s.beam.current ∧ (runArbiter s).station.relay = s.station.relay
    ∧ (runArbiter s).station.records = s.station.records ∧ (runArbiter s).hand = s.hand
    ∧ (runArbiter s).link.reply = s.link.reply ∧ (runArbiter s).link.tx = s.link.tx
    ∧ (runArbiter s).link.requests = s.link.requests ∧ (runArbiter s).link.rx = s.link.rx
    ∧ (runArbiter s).link.baud = s.link.baud ∧ (runArbiter s).pending = s.pending := by
  unfold runArbiter; (try dsimp only) <;> (repeat' split) <;> simp_all
@[simp] theorem jobEndStop_frame (s : State) :
    (jobEndStop s).web = s.web ∧ (jobEndStop s).params = s.params ∧ (jobEndStop s).pins = s.pins
    ∧ (jobEndStop s).store = s.store ∧ (jobEndStop s).reader = s.reader ∧ (jobEndStop s).lists = s.lists
    ∧ (jobEndStop s).zones = s.zones ∧ (jobEndStop s).cuts = s.cuts ∧ (jobEndStop s).beam = s.beam
    ∧ (jobEndStop s).station.relay = s.station.relay ∧ (jobEndStop s).station.records = s.station.records
    ∧ (jobEndStop s).station.inFlight = s.station.inFlight ∧ (jobEndStop s).hand = s.hand
    ∧ (jobEndStop s).link.reply = s.link.reply ∧ (jobEndStop s).link.tx = s.link.tx
    ∧ (jobEndStop s).link.requests = s.link.requests ∧ (jobEndStop s).link.rx = s.link.rx
    ∧ (jobEndStop s).link.baud = s.link.baud ∧ (jobEndStop s).pending = s.pending := by
  unfold jobEndStop; (try dsimp only) <;> (repeat' split) <;> simp_all
@[simp] theorem endHolding_frame (s : State) :
    (endHolding s).web = s.web ∧ (endHolding s).params = s.params ∧ (endHolding s).pins = s.pins
    ∧ (endHolding s).store = s.store ∧ (endHolding s).reader = s.reader ∧ (endHolding s).lists = s.lists
    ∧ (endHolding s).zones = s.zones ∧ (endHolding s).cuts = s.cuts ∧ (endHolding s).beam = s.beam
    ∧ (endHolding s).station.relay = s.station.relay ∧ (endHolding s).station.records = s.station.records
    ∧ (endHolding s).station.inFlight = s.station.inFlight ∧ (endHolding s).hand = s.hand
    ∧ (endHolding s).link.reply = s.link.reply ∧ (endHolding s).link.tx = s.link.tx
    ∧ (endHolding s).link.requests = s.link.requests ∧ (endHolding s).link.rx = s.link.rx
    ∧ (endHolding s).link.baud = s.link.baud ∧ (endHolding s).pending = s.pending := by
  unfold endHolding; (try dsimp only) <;> (repeat' split) <;> simp_all
@[simp] theorem reactMotion_frame (before s : State) :
    (reactMotion before s).web = s.web ∧ (reactMotion before s).params = s.params
    ∧ (reactMotion before s).pins = s.pins ∧ (reactMotion before s).store = s.store
    ∧ (reactMotion before s).reader = s.reader ∧ (reactMotion before s).lists = s.lists
    ∧ (reactMotion before s).zones = s.zones ∧ (reactMotion before s).beam = s.beam
    ∧ (reactMotion before s).station.relay = s.station.relay
    ∧ (reactMotion before s).station.records = s.station.records
    ∧ (reactMotion before s).station.inFlight = s.station.inFlight ∧ (reactMotion before s).hand = s.hand
    ∧ (reactMotion before s).link.reply = s.link.reply ∧ (reactMotion before s).link.tx = s.link.tx
    ∧ (reactMotion before s).link.requests = s.link.requests ∧ (reactMotion before s).link.rx = s.link.rx
    ∧ (reactMotion before s).link.baud = s.link.baud ∧ (reactMotion before s).pending = s.pending := by
  unfold reactMotion; (try dsimp only) <;> (repeat' split) <;> simp_all
@[simp] theorem settle_frame (before s : State) :
    (settle before s).web = s.web ∧ (settle before s).params = s.params ∧ (settle before s).pins = s.pins
    ∧ (settle before s).store = s.store ∧ (settle before s).reader = s.reader ∧ (settle before s).lists = s.lists
    ∧ (settle before s).zones = s.zones ∧ (settle before s).beam.current = s.beam.current
    ∧ (settle before s).station.relay = s.station.relay ∧ (settle before s).station.records = s.station.records
    ∧ (settle before s).hand = s.hand ∧ (settle before s).link.reply = s.link.reply
    ∧ (settle before s).link.tx = s.link.tx ∧ (settle before s).link.requests = s.link.requests
    ∧ (settle before s).link.rx = s.link.rx ∧ (settle before s).link.baud = s.link.baud
    ∧ (settle before s).pending = s.pending := by
  unfold settle; (try dsimp only) <;> (repeat' split) <;> simp_all
@[simp] theorem settleAll_frame (before s : State) :
    (settleAll before s).web = s.web ∧ (settleAll before s).params = s.params ∧ (settleAll before s).pins = s.pins
    ∧ (settleAll before s).store = s.store ∧ (settleAll before s).reader = s.reader
    ∧ (settleAll before s).zones = s.zones ∧ (settleAll before s).beam.current = s.beam.current
    ∧ (settleAll before s).station.relay = s.station.relay
    ∧ (settleAll before s).station.records = s.station.records ∧ (settleAll before s).hand = s.hand
    ∧ (settleAll before s).link.reply = s.link.reply ∧ (settleAll before s).link.tx = s.link.tx
    ∧ (settleAll before s).link.requests = s.link.requests ∧ (settleAll before s).link.rx = s.link.rx
    ∧ (settleAll before s).link.baud = s.link.baud ∧ (settleAll before s).pending = s.pending := by
  unfold settleAll; (try dsimp only) <;> (repeat' split) <;> simp_all
@[simp] theorem State.onRecord_frame (s : State) (r : Role) (f : StationRecord → StationRecord) :
    (State.onRecord s r f).web = s.web ∧ (State.onRecord s r f).params = s.params
    ∧ (State.onRecord s r f).pins = s.pins ∧ (State.onRecord s r f).store = s.store
    ∧ (State.onRecord s r f).reader = s.reader ∧ (State.onRecord s r f).eyes = s.eyes
    ∧ (State.onRecord s r f).reg = s.reg ∧ (State.onRecord s r f).lists = s.lists
    ∧ (State.onRecord s r f).zones = s.zones ∧ (State.onRecord s r f).cuts = s.cuts
    ∧ (State.onRecord s r f).motion = s.motion ∧ (State.onRecord s r f).beam = s.beam
    ∧ (State.onRecord s r f).station.relay = s.station.relay
    ∧ (State.onRecord s r f).station.inFlight = s.station.inFlight ∧ (State.onRecord s r f).hand = s.hand
    ∧ (State.onRecord s r f).link = s.link ∧ (State.onRecord s r f).pending = s.pending := by
  unfold State.onRecord; (try dsimp only) <;> (repeat' split) <;> simp_all
@[simp] theorem lossOf_frame (r : Role) (s : State) :
    (lossOf r s).web = s.web ∧ (lossOf r s).params = s.params ∧ (lossOf r s).pins = s.pins
    ∧ (lossOf r s).store = s.store ∧ (lossOf r s).reader = s.reader ∧ (lossOf r s).eyes = s.eyes
    ∧ (lossOf r s).reg = s.reg ∧ (lossOf r s).lists = s.lists ∧ (lossOf r s).zones = s.zones
    ∧ (lossOf r s).cuts = s.cuts ∧ (lossOf r s).motion.jobEnd = s.motion.jobEnd
    ∧ (lossOf r s).beam.current = s.beam.current ∧ (lossOf r s).station.relay = s.station.relay
    ∧ (lossOf r s).station.records = s.station.records ∧ (lossOf r s).station.inFlight = s.station.inFlight
    ∧ (lossOf r s).hand = s.hand ∧ (lossOf r s).link.reply = s.link.reply ∧ (lossOf r s).link.tx = s.link.tx
    ∧ (lossOf r s).link.requests = s.link.requests ∧ (lossOf r s).link.rx = s.link.rx
    ∧ (lossOf r s).link.baud = s.link.baud ∧ (lossOf r s).pending = s.pending := by
  unfold lossOf; (try dsimp only) <;> (repeat' split) <;> simp_all
@[simp] theorem goodOutcome_frame (r : Role) (s : State) :
    (goodOutcome r s).web = s.web ∧ (goodOutcome r s).params = s.params ∧ (goodOutcome r s).pins = s.pins
    ∧ (goodOutcome r s).store = s.store ∧ (goodOutcome r s).reader = s.reader ∧ (goodOutcome r s).eyes = s.eyes
    ∧ (goodOutcome r s).reg = s.reg ∧ (goodOutcome r s).lists = s.lists ∧ (goodOutcome r s).zones = s.zones
    ∧ (goodOutcome r s).cuts = s.cuts ∧ (goodOutcome r s).motion = s.motion ∧ (goodOutcome r s).beam = s.beam
    ∧ (goodOutcome r s).station.relay = s.station.relay ∧ (goodOutcome r s).station.inFlight = s.station.inFlight
    ∧ (goodOutcome r s).hand = s.hand ∧ (goodOutcome r s).link.reply = s.link.reply
    ∧ (goodOutcome r s).link.tx = s.link.tx ∧ (goodOutcome r s).link.requests = s.link.requests
    ∧ (goodOutcome r s).link.rx = s.link.rx ∧ (goodOutcome r s).link.baud = s.link.baud
    ∧ (goodOutcome r s).pending = s.pending := by
  unfold goodOutcome; (try dsimp only) <;> (repeat' split) <;> simp_all
@[simp] theorem failedOutcome_frame (r : Role) (s : State) :
    (failedOutcome r s).web = s.web ∧ (failedOutcome r s).params = s.params ∧ (failedOutcome r s).pins = s.pins
    ∧ (failedOutcome r s).store = s.store ∧ (failedOutcome r s).reader = s.reader
    ∧ (failedOutcome r s).eyes = s.eyes ∧ (failedOutcome r s).reg = s.reg ∧ (failedOutcome r s).lists = s.lists
    ∧ (failedOutcome r s).zones = s.zones ∧ (failedOutcome r s).cuts = s.cuts
    ∧ (failedOutcome r s).motion.jobEnd = s.motion.jobEnd ∧ (failedOutcome r s).beam.current = s.beam.current
    ∧ (failedOutcome r s).station.relay = s.station.relay
    ∧ (failedOutcome r s).station.inFlight = s.station.inFlight ∧ (failedOutcome r s).hand = s.hand
    ∧ (failedOutcome r s).link.reply = s.link.reply ∧ (failedOutcome r s).link.tx = s.link.tx
    ∧ (failedOutcome r s).link.requests = s.link.requests ∧ (failedOutcome r s).link.rx = s.link.rx
    ∧ (failedOutcome r s).link.baud = s.link.baud ∧ (failedOutcome r s).pending = s.pending := by
  unfold failedOutcome; (try dsimp only) <;> (repeat' split) <;> simp_all
@[simp] theorem watchdog_frame (t : Txn) (o : TxnOutcome) (s : State) :
    (watchdog t o s).web = s.web ∧ (watchdog t o s).params = s.params ∧ (watchdog t o s).pins = s.pins
    ∧ (watchdog t o s).store = s.store ∧ (watchdog t o s).reader = s.reader ∧ (watchdog t o s).eyes = s.eyes
    ∧ (watchdog t o s).reg = s.reg ∧ (watchdog t o s).lists = s.lists ∧ (watchdog t o s).zones = s.zones
    ∧ (watchdog t o s).cuts = s.cuts ∧ (watchdog t o s).motion.jobEnd = s.motion.jobEnd
    ∧ (watchdog t o s).beam.current = s.beam.current ∧ (watchdog t o s).station.relay = s.station.relay
    ∧ (watchdog t o s).station.inFlight = s.station.inFlight ∧ (watchdog t o s).hand = s.hand
    ∧ (watchdog t o s).link.reply = s.link.reply ∧ (watchdog t o s).link.tx = s.link.tx
    ∧ (watchdog t o s).link.requests = s.link.requests ∧ (watchdog t o s).link.rx = s.link.rx
    ∧ (watchdog t o s).link.baud = s.link.baud ∧ (watchdog t o s).pending = s.pending := by
  unfold watchdog; (try dsimp only) <;> (repeat' split) <;> simp_all
@[simp] theorem laminatorAnswer_frame (a : LaminatorStatus) (s : State) :
    (laminatorAnswer a s).web = s.web ∧ (laminatorAnswer a s).params = s.params
    ∧ (laminatorAnswer a s).pins = s.pins ∧ (laminatorAnswer a s).store = s.store
    ∧ (laminatorAnswer a s).reader = s.reader ∧ (laminatorAnswer a s).eyes = s.eyes
    ∧ (laminatorAnswer a s).reg = s.reg ∧ (laminatorAnswer a s).lists = s.lists
    ∧ (laminatorAnswer a s).zones = s.zones ∧ (laminatorAnswer a s).cuts = s.cuts
    ∧ (laminatorAnswer a s).motion.jobEnd = s.motion.jobEnd ∧ (laminatorAnswer a s).beam = s.beam
    ∧ (laminatorAnswer a s).station.relay = s.station.relay
    ∧ (laminatorAnswer a s).station.records = s.station.records
    ∧ (laminatorAnswer a s).station.inFlight = s.station.inFlight ∧ (laminatorAnswer a s).hand = s.hand
    ∧ (laminatorAnswer a s).link.reply = s.link.reply ∧ (laminatorAnswer a s).link.tx = s.link.tx
    ∧ (laminatorAnswer a s).link.requests = s.link.requests ∧ (laminatorAnswer a s).link.rx = s.link.rx
    ∧ (laminatorAnswer a s).link.baud = s.link.baud ∧ (laminatorAnswer a s).pending = s.pending := by
  unfold laminatorAnswer; (try dsimp only) <;> (repeat' split) <;> simp_all
@[simp] theorem reportSplices_frame (k : Nat) (s : State) :
    (reportSplices k s).web = s.web ∧ (reportSplices k s).params = s.params ∧ (reportSplices k s).pins = s.pins
    ∧ (reportSplices k s).store = s.store ∧ (reportSplices k s).reader = s.reader
    ∧ (reportSplices k s).eyes = s.eyes ∧ (reportSplices k s).reg = s.reg ∧ (reportSplices k s).lists = s.lists
    ∧ (reportSplices k s).cuts = s.cuts ∧ (reportSplices k s).motion = s.motion ∧ (reportSplices k s).beam = s.beam
    ∧ (reportSplices k s).station = s.station ∧ (reportSplices k s).hand = s.hand
    ∧ (reportSplices k s).link.reply = s.link.reply ∧ (reportSplices k s).link.tx = s.link.tx
    ∧ (reportSplices k s).link.requests = s.link.requests ∧ (reportSplices k s).link.rx = s.link.rx
    ∧ (reportSplices k s).link.baud = s.link.baud ∧ (reportSplices k s).pending = s.pending := by
  induction k generalizing s with
  | zero => simp [reportSplices]
  | succ k ih => unfold reportSplices; (try dsimp only) <;> (repeat' split) <;> simp_all
@[simp] theorem unwindAnswer_frame (wasLost : Bool) (a : UnwindStatus) (s : State) :
    (unwindAnswer wasLost a s).web = s.web ∧ (unwindAnswer wasLost a s).params = s.params
    ∧ (unwindAnswer wasLost a s).pins = s.pins ∧ (unwindAnswer wasLost a s).store = s.store
    ∧ (unwindAnswer wasLost a s).reader = s.reader ∧ (unwindAnswer wasLost a s).eyes = s.eyes
    ∧ (unwindAnswer wasLost a s).reg = s.reg ∧ (unwindAnswer wasLost a s).lists = s.lists
    ∧ (unwindAnswer wasLost a s).cuts = s.cuts ∧ (unwindAnswer wasLost a s).motion = s.motion
    ∧ (unwindAnswer wasLost a s).beam = s.beam ∧ (unwindAnswer wasLost a s).station.relay = s.station.relay
    ∧ (unwindAnswer wasLost a s).station.records = s.station.records
    ∧ (unwindAnswer wasLost a s).station.inFlight = s.station.inFlight ∧ (unwindAnswer wasLost a s).hand = s.hand
    ∧ (unwindAnswer wasLost a s).link.reply = s.link.reply ∧ (unwindAnswer wasLost a s).link.tx = s.link.tx
    ∧ (unwindAnswer wasLost a s).link.requests = s.link.requests ∧ (unwindAnswer wasLost a s).link.rx = s.link.rx
    ∧ (unwindAnswer wasLost a s).link.baud = s.link.baud ∧ (unwindAnswer wasLost a s).pending = s.pending := by
  unfold unwindAnswer; (try dsimp only) <;> (repeat' split) <;> simp_all
@[simp] theorem trimAnswer_frame (a : TrimStatus) (s : State) :
    (trimAnswer a s).web = s.web ∧ (trimAnswer a s).params = s.params ∧ (trimAnswer a s).pins = s.pins
    ∧ (trimAnswer a s).store = s.store ∧ (trimAnswer a s).reader = s.reader ∧ (trimAnswer a s).eyes = s.eyes
    ∧ (trimAnswer a s).reg = s.reg ∧ (trimAnswer a s).lists = s.lists ∧ (trimAnswer a s).zones = s.zones
    ∧ (trimAnswer a s).cuts = s.cuts ∧ (trimAnswer a s).motion.jobEnd = s.motion.jobEnd
    ∧ (trimAnswer a s).beam = s.beam ∧ (trimAnswer a s).station.relay = s.station.relay
    ∧ (trimAnswer a s).station.records = s.station.records ∧ (trimAnswer a s).station.inFlight = s.station.inFlight
    ∧ (trimAnswer a s).hand = s.hand ∧ (trimAnswer a s).link.reply = s.link.reply
    ∧ (trimAnswer a s).link.tx = s.link.tx ∧ (trimAnswer a s).link.requests = s.link.requests
    ∧ (trimAnswer a s).link.rx = s.link.rx ∧ (trimAnswer a s).link.baud = s.link.baud
    ∧ (trimAnswer a s).pending = s.pending := by
  unfold trimAnswer; (try dsimp only) <;> (repeat' split) <;> simp_all
@[simp] theorem pollAnswer_frame (r : Role) (wasLost : Bool) (p : List Byte) (s : State) :
    (pollAnswer r wasLost p s).web = s.web ∧ (pollAnswer r wasLost p s).params = s.params
    ∧ (pollAnswer r wasLost p s).pins = s.pins ∧ (pollAnswer r wasLost p s).cuts = s.cuts
    ∧ (pollAnswer r wasLost p s).station.relay = s.station.relay
    ∧ (pollAnswer r wasLost p s).station.records = s.station.records
    ∧ (pollAnswer r wasLost p s).station.inFlight = s.station.inFlight ∧ (pollAnswer r wasLost p s).hand = s.hand
    ∧ (pollAnswer r wasLost p s).link.reply = s.link.reply ∧ (pollAnswer r wasLost p s).link.tx = s.link.tx
    ∧ (pollAnswer r wasLost p s).link.requests = s.link.requests ∧ (pollAnswer r wasLost p s).link.rx = s.link.rx
    ∧ (pollAnswer r wasLost p s).link.baud = s.link.baud ∧ (pollAnswer r wasLost p s).pending = s.pending := by
  unfold pollAnswer; (try dsimp only) <;> (repeat' split) <;> simp_all
@[simp] theorem endRelay_frame (r : Relay) (st : Status) (rest : List Byte) (s : State) :
    (endRelay r st rest s).web = s.web ∧ (endRelay r st rest s).params = s.params
    ∧ (endRelay r st rest s).pins = s.pins ∧ (endRelay r st rest s).store = s.store
    ∧ (endRelay r st rest s).reader = s.reader ∧ (endRelay r st rest s).eyes = s.eyes
    ∧ (endRelay r st rest s).reg = s.reg ∧ (endRelay r st rest s).lists = s.lists
    ∧ (endRelay r st rest s).zones = s.zones ∧ (endRelay r st rest s).cuts = s.cuts
    ∧ (endRelay r st rest s).motion = s.motion ∧ (endRelay r st rest s).beam = s.beam
    ∧ (endRelay r st rest s).station.records = s.station.records
    ∧ (endRelay r st rest s).station.inFlight = s.station.inFlight ∧ (endRelay r st rest s).hand = s.hand
    ∧ (endRelay r st rest s).link.tx = s.link.tx ∧ (endRelay r st rest s).link.requests = s.link.requests
    ∧ (endRelay r st rest s).link.rx = s.link.rx ∧ (endRelay r st rest s).link.baud = s.link.baud
    ∧ (endRelay r st rest s).pending = s.pending := by
  unfold endRelay; (try dsimp only) <;> (repeat' split) <;> simp_all
@[simp] theorem chunkOutcome_frame (o : TxnOutcome) (s : State) :
    (chunkOutcome o s).web = s.web ∧ (chunkOutcome o s).params = s.params ∧ (chunkOutcome o s).pins = s.pins
    ∧ (chunkOutcome o s).store = s.store ∧ (chunkOutcome o s).reader = s.reader ∧ (chunkOutcome o s).eyes = s.eyes
    ∧ (chunkOutcome o s).reg = s.reg ∧ (chunkOutcome o s).lists = s.lists ∧ (chunkOutcome o s).zones = s.zones
    ∧ (chunkOutcome o s).cuts = s.cuts ∧ (chunkOutcome o s).motion = s.motion ∧ (chunkOutcome o s).beam = s.beam
    ∧ (chunkOutcome o s).station.records = s.station.records
    ∧ (chunkOutcome o s).station.inFlight = s.station.inFlight ∧ (chunkOutcome o s).hand = s.hand
    ∧ (chunkOutcome o s).link.tx = s.link.tx ∧ (chunkOutcome o s).link.requests = s.link.requests
    ∧ (chunkOutcome o s).link.rx = s.link.rx ∧ (chunkOutcome o s).link.baud = s.link.baud
    ∧ (chunkOutcome o s).pending = s.pending := by
  unfold chunkOutcome; (try dsimp only) <;> (repeat' split) <;> simp_all
@[simp] theorem ownerOutcome_frame (t : Txn) (wasLost : Bool) (o : TxnOutcome) (s : State) :
    (ownerOutcome t wasLost o s).web = s.web ∧ (ownerOutcome t wasLost o s).params = s.params
    ∧ (ownerOutcome t wasLost o s).pins = s.pins ∧ (ownerOutcome t wasLost o s).cuts = s.cuts
    ∧ (ownerOutcome t wasLost o s).station.records = s.station.records
    ∧ (ownerOutcome t wasLost o s).station.inFlight = s.station.inFlight
    ∧ (ownerOutcome t wasLost o s).hand = s.hand ∧ (ownerOutcome t wasLost o s).link.tx = s.link.tx
    ∧ (ownerOutcome t wasLost o s).link.requests = s.link.requests
    ∧ (ownerOutcome t wasLost o s).link.rx = s.link.rx ∧ (ownerOutcome t wasLost o s).link.baud = s.link.baud
    ∧ (ownerOutcome t wasLost o s).pending = s.pending := by
  unfold ownerOutcome; (try dsimp only) <;> (repeat' split) <;> simp_all
@[simp] theorem takeOutcome_frame (t : Txn) (o : TxnOutcome) (s : State) :
    (takeOutcome t o s).web = s.web ∧ (takeOutcome t o s).params = s.params ∧ (takeOutcome t o s).pins = s.pins
    ∧ (takeOutcome t o s).cuts = s.cuts ∧ (takeOutcome t o s).hand = s.hand
    ∧ (takeOutcome t o s).link.tx = s.link.tx ∧ (takeOutcome t o s).link.requests = s.link.requests
    ∧ (takeOutcome t o s).link.rx = s.link.rx ∧ (takeOutcome t o s).link.baud = s.link.baud
    ∧ (takeOutcome t o s).pending = s.pending := by
  unfold takeOutcome; (try dsimp only) <;> (repeat' split) <;> simp_all
@[simp] theorem fallDue_frame (r : Role) (s : State) :
    (fallDue r s).web = s.web ∧ (fallDue r s).params = s.params ∧ (fallDue r s).pins = s.pins
    ∧ (fallDue r s).store = s.store ∧ (fallDue r s).reader = s.reader ∧ (fallDue r s).eyes = s.eyes
    ∧ (fallDue r s).reg = s.reg ∧ (fallDue r s).lists = s.lists ∧ (fallDue r s).zones = s.zones
    ∧ (fallDue r s).cuts = s.cuts ∧ (fallDue r s).motion.jobEnd = s.motion.jobEnd
    ∧ (fallDue r s).beam.current = s.beam.current ∧ (fallDue r s).station.relay = s.station.relay
    ∧ (fallDue r s).station.inFlight = s.station.inFlight ∧ (fallDue r s).hand = s.hand
    ∧ (fallDue r s).link.reply = s.link.reply ∧ (fallDue r s).link.tx = s.link.tx
    ∧ (fallDue r s).link.requests = s.link.requests ∧ (fallDue r s).link.rx = s.link.rx
    ∧ (fallDue r s).link.baud = s.link.baud ∧ (fallDue r s).pending = s.pending := by
  unfold fallDue; (try dsimp only) <;> (repeat' split) <;> simp_all
@[simp] theorem install_frame (new : ParamSet) (s : State) :
    (install new s).pins = s.pins ∧ (install new s).store = s.store ∧ (install new s).reader = s.reader
    ∧ (install new s).eyes = s.eyes ∧ (install new s).lists = s.lists ∧ (install new s).zones = s.zones
    ∧ (install new s).cuts = s.cuts ∧ (install new s).motion = s.motion ∧ (install new s).beam = s.beam
    ∧ (install new s).hand = s.hand ∧ (install new s).link = s.link ∧ (install new s).pending = s.pending := by
  unfold install; (try dsimp only) <;> (repeat' split) <;> simp_all
@[simp] theorem doSetup_frame (tag : Byte) (pairs : List (Byte × Word32)) (s : State) :
    (doSetup tag pairs s).pins = s.pins ∧ (doSetup tag pairs s).store = s.store
    ∧ (doSetup tag pairs s).reader = s.reader ∧ (doSetup tag pairs s).eyes = s.eyes
    ∧ (doSetup tag pairs s).lists = s.lists ∧ (doSetup tag pairs s).zones = s.zones
    ∧ (doSetup tag pairs s).cuts = s.cuts ∧ (doSetup tag pairs s).motion = s.motion
    ∧ (doSetup tag pairs s).beam = s.beam ∧ (doSetup tag pairs s).hand = s.hand
    ∧ (doSetup tag pairs s).link.tx = s.link.tx ∧ (doSetup tag pairs s).link.requests = s.link.requests
    ∧ (doSetup tag pairs s).link.rx = s.link.rx ∧ (doSetup tag pairs s).link.baud = s.link.baud
    ∧ (doSetup tag pairs s).pending = s.pending := by
  unfold doSetup; (try dsimp only) <;> (repeat' split) <;> simp_all
end Sys2Proof.Machine
end

