-- ==== Sys2Proof/Laws/Frames4.lean ====
section
/-! SUPPORT. What each operation leaves unchanged: the requests, the line link and the other commands. One lemma an operation; its proof uses those before it. -/
set_option Elab.async false
set_option linter.all false
namespace Sys2Proof.Machine
@[simp] theorem doStatus_frame (tag : Byte) (s : State) :
    (doStatus tag s).web = s.web ∧ (doStatus tag s).params = s.params ∧ (doStatus tag s).pins = s.pins
    ∧ (doStatus tag s).store = s.store ∧ (doStatus tag s).reader = s.reader ∧ (doStatus tag s).eyes = s.eyes
    ∧ (doStatus tag s).reg = s.reg ∧ (doStatus tag s).lists = s.lists ∧ (doStatus tag s).zones = s.zones
    ∧ (doStatus tag s).cuts = s.cuts ∧ (doStatus tag s).motion = s.motion ∧ (doStatus tag s).beam = s.beam
    ∧ (doStatus tag s).station = s.station ∧ (doStatus tag s).hand = s.hand ∧ (doStatus tag s).link.tx = s.link.tx
    ∧ (doStatus tag s).link.requests = s.link.requests ∧ (doStatus tag s).link.rx = s.link.rx
    ∧ (doStatus tag s).link.baud = s.link.baud ∧ (doStatus tag s).pending = s.pending := by
  unfold doStatus; (try dsimp only) <;> (repeat' split) <;> simp_all
@[simp] theorem threadBlocks_frame (p : Nat) (s : State) :
    (threadBlocks p s).params = s.params ∧ (threadBlocks p s).pins = s.pins ∧ (threadBlocks p s).reader = s.reader
    ∧ (threadBlocks p s).eyes = s.eyes ∧ (threadBlocks p s).motion.jobEnd = s.motion.jobEnd
    ∧ (threadBlocks p s).motion.nip = s.motion.nip ∧ (threadBlocks p s).beam = s.beam
    ∧ (threadBlocks p s).station = s.station ∧ (threadBlocks p s).hand = s.hand ∧ (threadBlocks p s).link = s.link
    ∧ (threadBlocks p s).pending = s.pending := by
  refine ⟨?_, ?_, ?_, ?_, ?_, ?_, ?_, ?_, ?_, ?_, ?_⟩ <;> unfold threadBlocks <;> (try dsimp only) <;>
    (repeat' (first | split | (rw [forLanes_params] <;> (try (intro _ _)) <;> (try dsimp only)) | (rw [forLanes_pins] <;> (try (intro _ _)) <;> (try dsimp only)) | (rw [forLanes_reader] <;> (try (intro _ _)) <;> (try dsimp only)) | (rw [forLanes_eyes] <;> (try (intro _ _)) <;> (try dsimp only)) | (rw [forLanes_motion_jobEnd] <;> (try (intro _ _)) <;> (try dsimp only)) | (rw [forLanes_motion_nip] <;> (try (intro _ _)) <;> (try dsimp only)) | (rw [forLanes_beam] <;> (try (intro _ _)) <;> (try dsimp only)) | (rw [forLanes_station] <;> (try (intro _ _)) <;> (try dsimp only)) | (rw [forLanes_hand] <;> (try (intro _ _)) <;> (try dsimp only)) | (rw [forLanes_link] <;> (try (intro _ _)) <;> (try dsimp only)) | (rw [forLanes_pending] <;> (try (intro _ _)) <;> (try dsimp only)))) <;>
    (try simp) <;> (repeat' (first | split | (rw [forLanes_params] <;> (try (intro _ _)) <;> (try dsimp only)) | (rw [forLanes_pins] <;> (try (intro _ _)) <;> (try dsimp only)) | (rw [forLanes_reader] <;> (try (intro _ _)) <;> (try dsimp only)) | (rw [forLanes_eyes] <;> (try (intro _ _)) <;> (try dsimp only)) | (rw [forLanes_motion_jobEnd] <;> (try (intro _ _)) <;> (try dsimp only)) | (rw [forLanes_motion_nip] <;> (try (intro _ _)) <;> (try dsimp only)) | (rw [forLanes_beam] <;> (try (intro _ _)) <;> (try dsimp only)) | (rw [forLanes_station] <;> (try (intro _ _)) <;> (try dsimp only)) | (rw [forLanes_hand] <;> (try (intro _ _)) <;> (try dsimp only)) | (rw [forLanes_link] <;> (try (intro _ _)) <;> (try dsimp only)) | (rw [forLanes_pending] <;> (try (intro _ _)) <;> (try dsimp only)))) <;> (try simp [forLanes]) <;> (try simp_all)
@[simp] theorem threadAll_frame (p : Nat) (s : State) :
    (threadAll p s).params = s.params ∧ (threadAll p s).pins = s.pins
    ∧ (threadAll p s).beam.current = s.beam.current ∧ (threadAll p s).station.relay = s.station.relay
    ∧ (threadAll p s).station.records = s.station.records ∧ (threadAll p s).station.inFlight = s.station.inFlight
    ∧ (threadAll p s).hand = s.hand ∧ (threadAll p s).link.reply = s.link.reply
    ∧ (threadAll p s).link.tx = s.link.tx ∧ (threadAll p s).link.requests = s.link.requests
    ∧ (threadAll p s).link.rx = s.link.rx ∧ (threadAll p s).link.baud = s.link.baud
    ∧ (threadAll p s).pending = s.pending := by
  unfold threadAll; (try dsimp only) <;> (repeat' split) <;> simp_all
@[simp] theorem doThread_frame (tag : Byte) (p : Word32) (s : State) :
    (doThread tag p s).params = s.params ∧ (doThread tag p s).pins = s.pins
    ∧ (doThread tag p s).beam.current = s.beam.current ∧ (doThread tag p s).station.relay = s.station.relay
    ∧ (doThread tag p s).station.records = s.station.records ∧ (doThread tag p s).hand = s.hand
    ∧ (doThread tag p s).link.tx = s.link.tx ∧ (doThread tag p s).link.requests = s.link.requests
    ∧ (doThread tag p s).link.rx = s.link.rx ∧ (doThread tag p s).link.baud = s.link.baud
    ∧ (doThread tag p s).pending = s.pending := by
  unfold doThread; (try dsimp only) <;> (repeat' split) <;> simp_all
@[simp] theorem doRun_frame (tag : Byte) (s : State) :
    (doRun tag s).web = s.web ∧ (doRun tag s).params = s.params ∧ (doRun tag s).pins = s.pins
    ∧ (doRun tag s).store = s.store ∧ (doRun tag s).reader = s.reader ∧ (doRun tag s).zones = s.zones
    ∧ (doRun tag s).beam.current = s.beam.current ∧ (doRun tag s).station.relay = s.station.relay
    ∧ (doRun tag s).station.records = s.station.records ∧ (doRun tag s).hand = s.hand
    ∧ (doRun tag s).link.tx = s.link.tx ∧ (doRun tag s).link.requests = s.link.requests
    ∧ (doRun tag s).link.rx = s.link.rx ∧ (doRun tag s).link.baud = s.link.baud ∧ (doRun tag s).pending = s.pending := by
  unfold doRun; (try dsimp only) <;> (repeat' split) <;> simp_all
@[simp] theorem doHold_frame (tag : Byte) (s : State) :
    (doHold tag s).web = s.web ∧ (doHold tag s).params = s.params ∧ (doHold tag s).pins = s.pins
    ∧ (doHold tag s).store = s.store ∧ (doHold tag s).reader = s.reader ∧ (doHold tag s).lists = s.lists
    ∧ (doHold tag s).zones = s.zones ∧ (doHold tag s).beam.current = s.beam.current
    ∧ (doHold tag s).station.relay = s.station.relay ∧ (doHold tag s).station.records = s.station.records
    ∧ (doHold tag s).hand = s.hand ∧ (doHold tag s).link.tx = s.link.tx
    ∧ (doHold tag s).link.requests = s.link.requests ∧ (doHold tag s).link.rx = s.link.rx
    ∧ (doHold tag s).link.baud = s.link.baud ∧ (doHold tag s).pending = s.pending := by
  unfold doHold; (try dsimp only) <;> (repeat' split) <;> simp_all
@[simp] theorem doResume_frame (tag : Byte) (s : State) :
    (doResume tag s).web = s.web ∧ (doResume tag s).params = s.params ∧ (doResume tag s).pins = s.pins
    ∧ (doResume tag s).store = s.store ∧ (doResume tag s).reader = s.reader ∧ (doResume tag s).zones = s.zones
    ∧ (doResume tag s).beam.current = s.beam.current ∧ (doResume tag s).station.relay = s.station.relay
    ∧ (doResume tag s).station.records = s.station.records ∧ (doResume tag s).hand = s.hand
    ∧ (doResume tag s).link.tx = s.link.tx ∧ (doResume tag s).link.requests = s.link.requests
    ∧ (doResume tag s).link.rx = s.link.rx ∧ (doResume tag s).link.baud = s.link.baud
    ∧ (doResume tag s).pending = s.pending := by
  unfold doResume; (try dsimp only) <;> (repeat' split) <;> simp_all
@[simp] theorem doRecover_frame (tag : Byte) (s : State) :
    (doRecover tag s).web = s.web ∧ (doRecover tag s).params = s.params ∧ (doRecover tag s).pins = s.pins
    ∧ (doRecover tag s).store = s.store ∧ (doRecover tag s).reader = s.reader ∧ (doRecover tag s).lists = s.lists
    ∧ (doRecover tag s).zones = s.zones ∧ (doRecover tag s).beam.current = s.beam.current
    ∧ (doRecover tag s).station.relay = s.station.relay ∧ (doRecover tag s).station.records = s.station.records
    ∧ (doRecover tag s).hand = s.hand ∧ (doRecover tag s).link.tx = s.link.tx
    ∧ (doRecover tag s).link.requests = s.link.requests ∧ (doRecover tag s).link.rx = s.link.rx
    ∧ (doRecover tag s).link.baud = s.link.baud ∧ (doRecover tag s).pending = s.pending := by
  unfold doRecover; (try dsimp only) <;> (repeat' split) <;> simp_all
@[simp] theorem resetBlocks_frame (s : State) :
    (resetBlocks s).params = s.params ∧ (resetBlocks s).pins = s.pins ∧ (resetBlocks s).motion = s.motion
    ∧ (resetBlocks s).station = s.station ∧ (resetBlocks s).link = s.link ∧ (resetBlocks s).pending = s.pending := by
  refine ⟨?_, ?_, ?_, ?_, ?_, ?_⟩ <;> unfold resetBlocks <;> (try dsimp only) <;>
    (repeat' (first | split | (rw [forLanes_params] <;> (try (intro _ _)) <;> (try dsimp only)) | (rw [forLanes_pins] <;> (try (intro _ _)) <;> (try dsimp only)) | (rw [forLanes_motion] <;> (try (intro _ _)) <;> (try dsimp only)) | (rw [forLanes_station] <;> (try (intro _ _)) <;> (try dsimp only)) | (rw [forLanes_link] <;> (try (intro _ _)) <;> (try dsimp only)) | (rw [forLanes_pending] <;> (try (intro _ _)) <;> (try dsimp only)))) <;>
    (try simp) <;> (repeat' (first | split | (rw [forLanes_params] <;> (try (intro _ _)) <;> (try dsimp only)) | (rw [forLanes_pins] <;> (try (intro _ _)) <;> (try dsimp only)) | (rw [forLanes_motion] <;> (try (intro _ _)) <;> (try dsimp only)) | (rw [forLanes_station] <;> (try (intro _ _)) <;> (try dsimp only)) | (rw [forLanes_link] <;> (try (intro _ _)) <;> (try dsimp only)) | (rw [forLanes_pending] <;> (try (intro _ _)) <;> (try dsimp only)))) <;> (try simp [forLanes]) <;> (try simp_all)
@[simp] theorem doLineReset_frame (tag : Byte) (s : State) :
    (doLineReset tag s).params = s.params ∧ (doLineReset tag s).pins = s.pins
    ∧ (doLineReset tag s).station.relay = s.station.relay ∧ (doLineReset tag s).station.records = s.station.records
    ∧ (doLineReset tag s).link.tx = s.link.tx ∧ (doLineReset tag s).link.requests = s.link.requests
    ∧ (doLineReset tag s).link.rx = s.link.rx ∧ (doLineReset tag s).link.baud = s.link.baud
    ∧ (doLineReset tag s).pending = s.pending := by
  unfold doLineReset; (try dsimp only) <;> (repeat' split) <;> simp_all
@[simp] theorem doPageLoad_frame (tag page first : Byte) (records : List RawRecord) (s : State) :
    (doPageLoad tag page first records s).web = s.web ∧ (doPageLoad tag page first records s).params = s.params
    ∧ (doPageLoad tag page first records s).pins = s.pins ∧ (doPageLoad tag page first records s).reader = s.reader
    ∧ (doPageLoad tag page first records s).eyes = s.eyes ∧ (doPageLoad tag page first records s).reg = s.reg
    ∧ (doPageLoad tag page first records s).lists = s.lists ∧ (doPageLoad tag page first records s).zones = s.zones
    ∧ (doPageLoad tag page first records s).cuts = s.cuts ∧ (doPageLoad tag page first records s).motion = s.motion
    ∧ (doPageLoad tag page first records s).beam = s.beam
    ∧ (doPageLoad tag page first records s).station = s.station
    ∧ (doPageLoad tag page first records s).hand = s.hand
    ∧ (doPageLoad tag page first records s).link.tx = s.link.tx
    ∧ (doPageLoad tag page first records s).link.requests = s.link.requests
    ∧ (doPageLoad tag page first records s).link.rx = s.link.rx
    ∧ (doPageLoad tag page first records s).link.baud = s.link.baud
    ∧ (doPageLoad tag page first records s).pending = s.pending := by
  unfold doPageLoad; (try dsimp only) <;> (repeat' split) <;> simp_all
@[simp] theorem readerAtArmed_frame (p : Fin 8) (s : State) :
    (readerAtArmed p s).web = s.web ∧ (readerAtArmed p s).params = s.params ∧ (readerAtArmed p s).pins = s.pins
    ∧ (readerAtArmed p s).zones = s.zones ∧ (readerAtArmed p s).cuts = s.cuts
    ∧ (readerAtArmed p s).beam.current = s.beam.current ∧ (readerAtArmed p s).station.relay = s.station.relay
    ∧ (readerAtArmed p s).station.records = s.station.records
    ∧ (readerAtArmed p s).station.inFlight = s.station.inFlight ∧ (readerAtArmed p s).hand = s.hand
    ∧ (readerAtArmed p s).link.reply = s.link.reply ∧ (readerAtArmed p s).link.tx = s.link.tx
    ∧ (readerAtArmed p s).link.requests = s.link.requests ∧ (readerAtArmed p s).link.rx = s.link.rx
    ∧ (readerAtArmed p s).link.baud = s.link.baud ∧ (readerAtArmed p s).pending = s.pending := by
  unfold readerAtArmed; (try dsimp only) <;> (repeat' split) <;> simp_all
@[simp] theorem doPageArm_frame (tag page : Byte) (s : State) :
    (doPageArm tag page s).web = s.web ∧ (doPageArm tag page s).params = s.params
    ∧ (doPageArm tag page s).pins = s.pins ∧ (doPageArm tag page s).zones = s.zones
    ∧ (doPageArm tag page s).beam.current = s.beam.current ∧ (doPageArm tag page s).station.relay = s.station.relay
    ∧ (doPageArm tag page s).station.records = s.station.records ∧ (doPageArm tag page s).hand = s.hand
    ∧ (doPageArm tag page s).link.tx = s.link.tx ∧ (doPageArm tag page s).link.requests = s.link.requests
    ∧ (doPageArm tag page s).link.rx = s.link.rx ∧ (doPageArm tag page s).link.baud = s.link.baud
    ∧ (doPageArm tag page s).pending = s.pending := by
  unfold doPageArm; (try dsimp only) <;> (repeat' split) <;> simp_all
@[simp] theorem doPageClear_frame (tag page : Byte) (s : State) :
    (doPageClear tag page s).web = s.web ∧ (doPageClear tag page s).params = s.params
    ∧ (doPageClear tag page s).pins = s.pins ∧ (doPageClear tag page s).reader = s.reader
    ∧ (doPageClear tag page s).eyes = s.eyes ∧ (doPageClear tag page s).reg = s.reg
    ∧ (doPageClear tag page s).lists = s.lists ∧ (doPageClear tag page s).zones = s.zones
    ∧ (doPageClear tag page s).cuts = s.cuts ∧ (doPageClear tag page s).motion = s.motion
    ∧ (doPageClear tag page s).beam = s.beam ∧ (doPageClear tag page s).station = s.station
    ∧ (doPageClear tag page s).hand = s.hand ∧ (doPageClear tag page s).link.tx = s.link.tx
    ∧ (doPageClear tag page s).link.requests = s.link.requests ∧ (doPageClear tag page s).link.rx = s.link.rx
    ∧ (doPageClear tag page s).link.baud = s.link.baud ∧ (doPageClear tag page s).pending = s.pending := by
  unfold doPageClear; (try dsimp only) <;> (repeat' split) <;> simp_all
@[simp] theorem doPageQuery_frame (tag page : Byte) (s : State) :
    (doPageQuery tag page s).web = s.web ∧ (doPageQuery tag page s).params = s.params
    ∧ (doPageQuery tag page s).pins = s.pins ∧ (doPageQuery tag page s).store = s.store
    ∧ (doPageQuery tag page s).reader = s.reader ∧ (doPageQuery tag page s).eyes = s.eyes
    ∧ (doPageQuery tag page s).reg = s.reg ∧ (doPageQuery tag page s).lists = s.lists
    ∧ (doPageQuery tag page s).zones = s.zones ∧ (doPageQuery tag page s).cuts = s.cuts
    ∧ (doPageQuery tag page s).motion = s.motion ∧ (doPageQuery tag page s).beam = s.beam
    ∧ (doPageQuery tag page s).station = s.station ∧ (doPageQuery tag page s).hand = s.hand
    ∧ (doPageQuery tag page s).link.tx = s.link.tx ∧ (doPageQuery tag page s).link.requests = s.link.requests
    ∧ (doPageQuery tag page s).link.rx = s.link.rx ∧ (doPageQuery tag page s).link.baud = s.link.baud
    ∧ (doPageQuery tag page s).pending = s.pending := by
  unfold doPageQuery; (try dsimp only) <;> (repeat' split) <;> simp_all
@[simp] theorem doPanelQuery_frame (tag lane : Byte) (s : State) :
    (doPanelQuery tag lane s).web = s.web ∧ (doPanelQuery tag lane s).params = s.params
    ∧ (doPanelQuery tag lane s).pins = s.pins ∧ (doPanelQuery tag lane s).store = s.store
    ∧ (doPanelQuery tag lane s).reader = s.reader ∧ (doPanelQuery tag lane s).eyes = s.eyes
    ∧ (doPanelQuery tag lane s).reg = s.reg ∧ (doPanelQuery tag lane s).lists = s.lists
    ∧ (doPanelQuery tag lane s).zones = s.zones ∧ (doPanelQuery tag lane s).cuts = s.cuts
    ∧ (doPanelQuery tag lane s).motion = s.motion ∧ (doPanelQuery tag lane s).beam = s.beam
    ∧ (doPanelQuery tag lane s).station = s.station ∧ (doPanelQuery tag lane s).hand = s.hand
    ∧ (doPanelQuery tag lane s).link.tx = s.link.tx ∧ (doPanelQuery tag lane s).link.requests = s.link.requests
    ∧ (doPanelQuery tag lane s).link.rx = s.link.rx ∧ (doPanelQuery tag lane s).link.baud = s.link.baud
    ∧ (doPanelQuery tag lane s).pending = s.pending := by
  unfold doPanelQuery; (try dsimp only) <;> (repeat' split) <;> simp_all
@[simp] theorem doFlagPanel_frame (tag lane : Byte) (panelId : Word16) (s : State) :
    (doFlagPanel tag lane panelId s).web = s.web ∧ (doFlagPanel tag lane panelId s).params = s.params
    ∧ (doFlagPanel tag lane panelId s).pins = s.pins ∧ (doFlagPanel tag lane panelId s).store = s.store
    ∧ (doFlagPanel tag lane panelId s).reader = s.reader ∧ (doFlagPanel tag lane panelId s).eyes = s.eyes
    ∧ (doFlagPanel tag lane panelId s).reg = s.reg ∧ (doFlagPanel tag lane panelId s).zones = s.zones
    ∧ (doFlagPanel tag lane panelId s).cuts = s.cuts ∧ (doFlagPanel tag lane panelId s).motion = s.motion
    ∧ (doFlagPanel tag lane panelId s).beam = s.beam ∧ (doFlagPanel tag lane panelId s).station = s.station
    ∧ (doFlagPanel tag lane panelId s).hand = s.hand ∧ (doFlagPanel tag lane panelId s).link.tx = s.link.tx
    ∧ (doFlagPanel tag lane panelId s).link.requests = s.link.requests
    ∧ (doFlagPanel tag lane panelId s).link.rx = s.link.rx
    ∧ (doFlagPanel tag lane panelId s).link.baud = s.link.baud
    ∧ (doFlagPanel tag lane panelId s).pending = s.pending := by
  unfold doFlagPanel; (try dsimp only) <;> (repeat' split) <;> simp_all
@[simp] theorem doZoneAdd_frame (tag : Byte) (offset length : Word32) (s : State) :
    (doZoneAdd tag offset length s).web = s.web ∧ (doZoneAdd tag offset length s).params = s.params
    ∧ (doZoneAdd tag offset length s).pins = s.pins ∧ (doZoneAdd tag offset length s).store = s.store
    ∧ (doZoneAdd tag offset length s).reader = s.reader ∧ (doZoneAdd tag offset length s).eyes = s.eyes
    ∧ (doZoneAdd tag offset length s).reg = s.reg ∧ (doZoneAdd tag offset length s).lists = s.lists
    ∧ (doZoneAdd tag offset length s).cuts = s.cuts ∧ (doZoneAdd tag offset length s).motion = s.motion
    ∧ (doZoneAdd tag offset length s).beam = s.beam ∧ (doZoneAdd tag offset length s).station = s.station
    ∧ (doZoneAdd tag offset length s).hand = s.hand ∧ (doZoneAdd tag offset length s).link.tx = s.link.tx
    ∧ (doZoneAdd tag offset length s).link.requests = s.link.requests
    ∧ (doZoneAdd tag offset length s).link.rx = s.link.rx ∧ (doZoneAdd tag offset length s).link.baud = s.link.baud
    ∧ (doZoneAdd tag offset length s).pending = s.pending := by
  unfold doZoneAdd; (try dsimp only) <;> (repeat' split) <;> simp_all
@[simp] theorem doStationRelay_frame (tag targetType target direction width : Byte) (index : Word16) (data : List Byte) (s : State) :
    (doStationRelay tag targetType target direction width index data s).web = s.web
    ∧ (doStationRelay tag targetType target direction width index data s).params = s.params
    ∧ (doStationRelay tag targetType target direction width index data s).pins = s.pins
    ∧ (doStationRelay tag targetType target direction width index data s).store = s.store
    ∧ (doStationRelay tag targetType target direction width index data s).reader = s.reader
    ∧ (doStationRelay tag targetType target direction width index data s).eyes = s.eyes
    ∧ (doStationRelay tag targetType target direction width index data s).reg = s.reg
    ∧ (doStationRelay tag targetType target direction width index data s).lists = s.lists
    ∧ (doStationRelay tag targetType target direction width index data s).zones = s.zones
    ∧ (doStationRelay tag targetType target direction width index data s).cuts = s.cuts
    ∧ (doStationRelay tag targetType target direction width index data s).motion.jobEnd = s.motion.jobEnd
    ∧ (doStationRelay tag targetType target direction width index data s).beam.current = s.beam.current
    ∧ (doStationRelay tag targetType target direction width index data s).station.records = s.station.records
    ∧ (doStationRelay tag targetType target direction width index data s).hand = s.hand
    ∧ (doStationRelay tag targetType target direction width index data s).link.tx = s.link.tx
    ∧ (doStationRelay tag targetType target direction width index data s).link.requests = s.link.requests
    ∧ (doStationRelay tag targetType target direction width index data s).link.rx = s.link.rx
    ∧ (doStationRelay tag targetType target direction width index data s).link.baud = s.link.baud
    ∧ (doStationRelay tag targetType target direction width index data s).pending = s.pending := by
  unfold doStationRelay; (try dsimp only) <;> (repeat' split) <;> simp_all
@[simp] theorem handle_frame (tag : Byte) (r : Request) (s : State) :
    (handle tag r s).pins = s.pins ∧ (handle tag r s).link.tx = s.link.tx
    ∧ (handle tag r s).link.requests = s.link.requests ∧ (handle tag r s).link.rx = s.link.rx
    ∧ (handle tag r s).link.baud = s.link.baud ∧ (handle tag r s).pending = s.pending := by
  unfold handle; (try dsimp only) <;> (repeat' split) <;> simp_all
@[simp] theorem takeFrame_frame (f : Frame) (s : State) :
    (takeFrame f s).pins = s.pins ∧ (takeFrame f s).link.tx = s.link.tx
    ∧ (takeFrame f s).link.requests = s.link.requests ∧ (takeFrame f s).link.rx = s.link.rx
    ∧ (takeFrame f s).link.baud = s.link.baud ∧ (takeFrame f s).pending = s.pending := by
  unfold takeFrame; (try dsimp only) <;> (repeat' split) <;> simp_all
@[simp] theorem startTx_frame (s : State) :
    (startTx s).web = s.web ∧ (startTx s).params = s.params ∧ (startTx s).pins = s.pins
    ∧ (startTx s).store = s.store ∧ (startTx s).reader = s.reader ∧ (startTx s).eyes = s.eyes
    ∧ (startTx s).reg = s.reg ∧ (startTx s).lists = s.lists ∧ (startTx s).zones = s.zones
    ∧ (startTx s).cuts = s.cuts ∧ (startTx s).motion = s.motion ∧ (startTx s).beam = s.beam
    ∧ (startTx s).station = s.station ∧ (startTx s).hand = s.hand ∧ (startTx s).pending = s.pending := by
  unfold startTx; (try dsimp only) <;> (repeat' split) <;> simp_all
@[simp] theorem takeWaitingFrames_frame (k : Nat) (s : State) :
    (takeWaitingFrames k s).pins = s.pins ∧ (takeWaitingFrames k s).pending = s.pending := by
  induction k generalizing s with
  | zero => simp [takeWaitingFrames]
  | succ k ih => unfold takeWaitingFrames; (try dsimp only) <;> (repeat' split) <;> simp_all
@[simp] theorem runLink_frame (s : State) :
    (runLink s).pins = s.pins ∧ (runLink s).pending = s.pending := by
  unfold runLink; (try dsimp only) <;> (repeat' split) <;> simp_all
@[simp] theorem enqueue_frame (f : Frame) (s : State) :
    (enqueue f s).web = s.web ∧ (enqueue f s).params = s.params ∧ (enqueue f s).pins = s.pins
    ∧ (enqueue f s).store = s.store ∧ (enqueue f s).reader = s.reader ∧ (enqueue f s).eyes = s.eyes
    ∧ (enqueue f s).reg = s.reg ∧ (enqueue f s).lists = s.lists ∧ (enqueue f s).zones = s.zones
    ∧ (enqueue f s).cuts = s.cuts ∧ (enqueue f s).motion = s.motion ∧ (enqueue f s).beam = s.beam
    ∧ (enqueue f s).station = s.station ∧ (enqueue f s).hand = s.hand ∧ (enqueue f s).link.reply = s.link.reply
    ∧ (enqueue f s).link.tx = s.link.tx ∧ (enqueue f s).link.rx = s.link.rx ∧ (enqueue f s).link.baud = s.link.baud
    ∧ (enqueue f s).pending = s.pending := by
  unfold enqueue; simp; split <;> simp
@[simp] theorem arrive_frame (f : Frame) (s : State) :
    (arrive f s).pins = s.pins ∧ (arrive f s).pending = s.pending := by
  unfold arrive; (try dsimp only) <;> (repeat' split) <;> simp_all
@[simp] theorem setRx_frame (bs : List Byte) (s : State) :
    (setRx bs s).web = s.web ∧ (setRx bs s).params = s.params ∧ (setRx bs s).pins = s.pins
    ∧ (setRx bs s).store = s.store ∧ (setRx bs s).reader = s.reader ∧ (setRx bs s).eyes = s.eyes
    ∧ (setRx bs s).reg = s.reg ∧ (setRx bs s).lists = s.lists ∧ (setRx bs s).zones = s.zones
    ∧ (setRx bs s).cuts = s.cuts ∧ (setRx bs s).motion = s.motion ∧ (setRx bs s).beam = s.beam
    ∧ (setRx bs s).station = s.station ∧ (setRx bs s).hand = s.hand ∧ (setRx bs s).link.reply = s.link.reply
    ∧ (setRx bs s).link.tx = s.link.tx ∧ (setRx bs s).link.requests = s.link.requests
    ∧ (setRx bs s).link.baud = s.link.baud ∧ (setRx bs s).pending = s.pending := by
  unfold setRx; (try dsimp only) <;> (repeat' split) <;> simp_all
@[simp] theorem huntByte_frame (b : Byte) (s : State) :
    (huntByte b s).web = s.web ∧ (huntByte b s).params = s.params ∧ (huntByte b s).pins = s.pins
    ∧ (huntByte b s).store = s.store ∧ (huntByte b s).reader = s.reader ∧ (huntByte b s).eyes = s.eyes
    ∧ (huntByte b s).reg = s.reg ∧ (huntByte b s).lists = s.lists ∧ (huntByte b s).zones = s.zones
    ∧ (huntByte b s).cuts = s.cuts ∧ (huntByte b s).motion = s.motion ∧ (huntByte b s).beam = s.beam
    ∧ (huntByte b s).station = s.station ∧ (huntByte b s).hand = s.hand ∧ (huntByte b s).link.reply = s.link.reply
    ∧ (huntByte b s).link.tx = s.link.tx ∧ (huntByte b s).link.requests = s.link.requests
    ∧ (huntByte b s).link.baud = s.link.baud ∧ (huntByte b s).pending = s.pending := by
  unfold huntByte; (try dsimp only) <;> (repeat' split) <;> simp_all
@[simp] theorem lengthByte_frame (b : Byte) (s : State) :
    (lengthByte b s).web = s.web ∧ (lengthByte b s).params = s.params ∧ (lengthByte b s).pins = s.pins
    ∧ (lengthByte b s).store = s.store ∧ (lengthByte b s).reader = s.reader ∧ (lengthByte b s).eyes = s.eyes
    ∧ (lengthByte b s).reg = s.reg ∧ (lengthByte b s).lists = s.lists ∧ (lengthByte b s).zones = s.zones
    ∧ (lengthByte b s).cuts = s.cuts ∧ (lengthByte b s).motion = s.motion ∧ (lengthByte b s).beam = s.beam
    ∧ (lengthByte b s).station = s.station ∧ (lengthByte b s).hand = s.hand
    ∧ (lengthByte b s).link.reply = s.link.reply ∧ (lengthByte b s).link.tx = s.link.tx
    ∧ (lengthByte b s).link.requests = s.link.requests ∧ (lengthByte b s).link.baud = s.link.baud
    ∧ (lengthByte b s).pending = s.pending := by
  unfold lengthByte; (try dsimp only) <;> (repeat' split) <;> simp_all
@[simp] theorem frameByte_frame (b : Byte) (s : State) :
    (frameByte b s).pins = s.pins ∧ (frameByte b s).pending = s.pending := by
  unfold frameByte; (try dsimp only) <;> (repeat' split) <;> simp_all
@[simp] theorem receiveByte_frame (b : Byte) (s : State) :
    (receiveByte b s).pins = s.pins ∧ (receiveByte b s).pending = s.pending := by
  unfold receiveByte; (try dsimp only) <;> (repeat' split) <;> simp_all
@[simp] theorem receiveBytes_frame (bs : List Byte) (s : State) :
    (receiveBytes bs s).pins = s.pins ∧ (receiveBytes bs s).pending = s.pending := by
  unfold receiveBytes; (try dsimp only) <;> (repeat' split) <;> simp_all
@[simp] theorem outfeedAdvanced_frame (s : State) :
    (outfeedAdvanced s).web = s.web ∧ (outfeedAdvanced s).params = s.params ∧ (outfeedAdvanced s).pins = s.pins
    ∧ (outfeedAdvanced s).store = s.store ∧ (outfeedAdvanced s).reader = s.reader
    ∧ (outfeedAdvanced s).motion.jobEnd = s.motion.jobEnd ∧ (outfeedAdvanced s).beam = s.beam
    ∧ (outfeedAdvanced s).station.relay = s.station.relay ∧ (outfeedAdvanced s).station.records = s.station.records
    ∧ (outfeedAdvanced s).station.inFlight = s.station.inFlight ∧ (outfeedAdvanced s).hand = s.hand
    ∧ (outfeedAdvanced s).link.reply = s.link.reply ∧ (outfeedAdvanced s).link.tx = s.link.tx
    ∧ (outfeedAdvanced s).link.requests = s.link.requests ∧ (outfeedAdvanced s).link.rx = s.link.rx
    ∧ (outfeedAdvanced s).link.baud = s.link.baud ∧ (outfeedAdvanced s).pending = s.pending := by
  unfold outfeedAdvanced; (try dsimp only) <;> (repeat' split) <;> simp_all
@[simp] theorem State.setCounter_frame (s : State) (e : Encoder) (c : Counter) :
    (State.setCounter s e c).params = s.params ∧ (State.setCounter s e c).pins = s.pins
    ∧ (State.setCounter s e c).store = s.store ∧ (State.setCounter s e c).reader = s.reader
    ∧ (State.setCounter s e c).eyes = s.eyes ∧ (State.setCounter s e c).reg = s.reg
    ∧ (State.setCounter s e c).lists = s.lists ∧ (State.setCounter s e c).zones = s.zones
    ∧ (State.setCounter s e c).cuts = s.cuts ∧ (State.setCounter s e c).motion = s.motion
    ∧ (State.setCounter s e c).beam = s.beam ∧ (State.setCounter s e c).station = s.station
    ∧ (State.setCounter s e c).hand = s.hand ∧ (State.setCounter s e c).link = s.link
    ∧ (State.setCounter s e c).pending = s.pending := by
  unfold State.setCounter; (try dsimp only) <;> (repeat' split) <;> simp_all
@[simp] theorem holdCleared_frame (before : State) (e : Encoder) (hold : Nat) (s : State) :
    (holdCleared before e hold s).web = s.web ∧ (holdCleared before e hold s).params = s.params
    ∧ (holdCleared before e hold s).pins = s.pins ∧ (holdCleared before e hold s).store = s.store
    ∧ (holdCleared before e hold s).reader = s.reader ∧ (holdCleared before e hold s).zones = s.zones
    ∧ (holdCleared before e hold s).beam.current = s.beam.current
    ∧ (holdCleared before e hold s).station.relay = s.station.relay
    ∧ (holdCleared before e hold s).station.records = s.station.records
    ∧ (holdCleared before e hold s).hand = s.hand ∧ (holdCleared before e hold s).link.reply = s.link.reply
    ∧ (holdCleared before e hold s).link.tx = s.link.tx
    ∧ (holdCleared before e hold s).link.requests = s.link.requests
    ∧ (holdCleared before e hold s).link.rx = s.link.rx ∧ (holdCleared before e hold s).link.baud = s.link.baud
    ∧ (holdCleared before e hold s).pending = s.pending := by
  unfold holdCleared; (try dsimp only) <;> (repeat' split) <;> simp_all
@[simp] theorem advanced_frame (before : State) (e : Encoder) (s : State) :
    (advanced before e s).web = s.web ∧ (advanced before e s).params = s.params
    ∧ (advanced before e s).pins = s.pins ∧ (advanced before e s).store = s.store
    ∧ (advanced before e s).reader = s.reader ∧ (advanced before e s).beam.current = s.beam.current
    ∧ (advanced before e s).station.relay = s.station.relay
    ∧ (advanced before e s).station.records = s.station.records ∧ (advanced before e s).hand = s.hand
    ∧ (advanced before e s).link.reply = s.link.reply ∧ (advanced before e s).link.tx = s.link.tx
    ∧ (advanced before e s).link.requests = s.link.requests ∧ (advanced before e s).link.rx = s.link.rx
    ∧ (advanced before e s).link.baud = s.link.baud ∧ (advanced before e s).pending = s.pending := by
  unfold advanced; (try dsimp only) <;> (repeat' split) <;> simp_all
@[simp] theorem forwardCount_frame (e : Encoder) (s : State) :
    (forwardCount e s).params = s.params ∧ (forwardCount e s).pins = s.pins ∧ (forwardCount e s).store = s.store
    ∧ (forwardCount e s).reader = s.reader ∧ (forwardCount e s).beam.current = s.beam.current
    ∧ (forwardCount e s).station.relay = s.station.relay ∧ (forwardCount e s).station.records = s.station.records
    ∧ (forwardCount e s).hand = s.hand ∧ (forwardCount e s).link.reply = s.link.reply
    ∧ (forwardCount e s).link.tx = s.link.tx ∧ (forwardCount e s).link.requests = s.link.requests
    ∧ (forwardCount e s).link.rx = s.link.rx ∧ (forwardCount e s).link.baud = s.link.baud
    ∧ (forwardCount e s).pending = s.pending := by
  unfold forwardCount; (try dsimp only) <;> (repeat' split) <;> simp_all
@[simp] theorem reverseCount_frame (e : Encoder) (s : State) :
    (reverseCount e s).params = s.params ∧ (reverseCount e s).pins = s.pins ∧ (reverseCount e s).store = s.store
    ∧ (reverseCount e s).reader = s.reader ∧ (reverseCount e s).lists = s.lists
    ∧ (reverseCount e s).zones = s.zones ∧ (reverseCount e s).beam.current = s.beam.current
    ∧ (reverseCount e s).station.relay = s.station.relay ∧ (reverseCount e s).station.records = s.station.records
    ∧ (reverseCount e s).hand = s.hand ∧ (reverseCount e s).link.reply = s.link.reply
    ∧ (reverseCount e s).link.tx = s.link.tx ∧ (reverseCount e s).link.requests = s.link.requests
    ∧ (reverseCount e s).link.rx = s.link.rx ∧ (reverseCount e s).link.baud = s.link.baud
    ∧ (reverseCount e s).pending = s.pending := by
  unfold reverseCount; (try dsimp only) <;> (repeat' split) <;> simp_all
@[simp] theorem setDark_frame (n : Lane) (b : Bool) (s : State) :
    (setDark n b s).web = s.web ∧ (setDark n b s).params = s.params ∧ (setDark n b s).store = s.store
    ∧ (setDark n b s).reader = s.reader ∧ (setDark n b s).eyes = s.eyes ∧ (setDark n b s).reg = s.reg
    ∧ (setDark n b s).lists = s.lists ∧ (setDark n b s).zones = s.zones ∧ (setDark n b s).cuts = s.cuts
    ∧ (setDark n b s).motion = s.motion ∧ (setDark n b s).beam = s.beam ∧ (setDark n b s).station = s.station
    ∧ (setDark n b s).hand = s.hand ∧ (setDark n b s).link = s.link ∧ (setDark n b s).pending = s.pending := by
  unfold setDark; (try dsimp only) <;> (repeat' split) <;> simp_all
@[simp] theorem leadingEdge_frame (n : Lane) (s : State) :
    (leadingEdge n s).web = s.web ∧ (leadingEdge n s).params = s.params ∧ (leadingEdge n s).store = s.store
    ∧ (leadingEdge n s).reader = s.reader ∧ (leadingEdge n s).reg = s.reg ∧ (leadingEdge n s).lists = s.lists
    ∧ (leadingEdge n s).zones = s.zones ∧ (leadingEdge n s).cuts = s.cuts ∧ (leadingEdge n s).motion = s.motion
    ∧ (leadingEdge n s).beam = s.beam ∧ (leadingEdge n s).station = s.station ∧ (leadingEdge n s).hand = s.hand
    ∧ (leadingEdge n s).link = s.link ∧ (leadingEdge n s).pending = s.pending := by
  unfold leadingEdge; (try dsimp only) <;> (repeat' split) <;> simp_all
@[simp] theorem trailingEdge_frame (n : Lane) (s : State) :
    (trailingEdge n s).web = s.web ∧ (trailingEdge n s).params = s.params ∧ (trailingEdge n s).store = s.store
    ∧ (trailingEdge n s).reader = s.reader ∧ (trailingEdge n s).zones = s.zones
    ∧ (trailingEdge n s).beam.current = s.beam.current ∧ (trailingEdge n s).station.relay = s.station.relay
    ∧ (trailingEdge n s).station.records = s.station.records ∧ (trailingEdge n s).hand = s.hand
    ∧ (trailingEdge n s).link.reply = s.link.reply ∧ (trailingEdge n s).link.tx = s.link.tx
    ∧ (trailingEdge n s).link.requests = s.link.requests ∧ (trailingEdge n s).link.rx = s.link.rx
    ∧ (trailingEdge n s).link.baud = s.link.baud ∧ (trailingEdge n s).pending = s.pending := by
  unfold trailingEdge; (try dsimp only) <;> (repeat' split) <;> simp_all
@[simp] theorem inspectChange_frame (n : Lane) (asserted : Bool) (s : State) :
    (inspectChange n asserted s).web = s.web ∧ (inspectChange n asserted s).params = s.params
    ∧ (inspectChange n asserted s).store = s.store ∧ (inspectChange n asserted s).reader = s.reader
    ∧ (inspectChange n asserted s).reg = s.reg ∧ (inspectChange n asserted s).zones = s.zones
    ∧ (inspectChange n asserted s).cuts = s.cuts ∧ (inspectChange n asserted s).motion = s.motion
    ∧ (inspectChange n asserted s).beam = s.beam ∧ (inspectChange n asserted s).station = s.station
    ∧ (inspectChange n asserted s).hand = s.hand ∧ (inspectChange n asserted s).link = s.link
    ∧ (inspectChange n asserted s).pending = s.pending := by
  unfold inspectChange; (try dsimp only) <;> (repeat' split) <;> simp_all
@[simp] theorem inPosition_frame (s : State) :
    (inPosition s).web = s.web ∧ (inPosition s).params = s.params ∧ (inPosition s).pins = s.pins
    ∧ (inPosition s).store = s.store ∧ (inPosition s).reader = s.reader ∧ (inPosition s).zones = s.zones
    ∧ (inPosition s).beam.current = s.beam.current ∧ (inPosition s).station.relay = s.station.relay
    ∧ (inPosition s).station.records = s.station.records ∧ (inPosition s).hand = s.hand
    ∧ (inPosition s).link.reply = s.link.reply ∧ (inPosition s).link.tx = s.link.tx
    ∧ (inPosition s).link.requests = s.link.requests ∧ (inPosition s).link.rx = s.link.rx
    ∧ (inPosition s).link.baud = s.link.baud ∧ (inPosition s).pending = s.pending := by
  unfold inPosition; (try dsimp only) <;> (repeat' split) <;> simp_all
@[simp] theorem traverseEnd_frame (s : State) :
    (traverseEnd s).web = s.web ∧ (traverseEnd s).params = s.params ∧ (traverseEnd s).pins = s.pins
    ∧ (traverseEnd s).zones = s.zones ∧ (traverseEnd s).beam.current = s.beam.current
    ∧ (traverseEnd s).station.relay = s.station.relay ∧ (traverseEnd s).station.records = s.station.records
    ∧ (traverseEnd s).link.reply = s.link.reply ∧ (traverseEnd s).link.tx = s.link.tx
    ∧ (traverseEnd s).link.requests = s.link.requests ∧ (traverseEnd s).link.rx = s.link.rx
    ∧ (traverseEnd s).link.baud = s.link.baud ∧ (traverseEnd s).pending = s.pending := by
  unfold traverseEnd; (try dsimp only) <;> (repeat' split) <;> simp_all
@[simp] theorem indexExpired_frame (s : State) :
    (indexExpired s).web = s.web ∧ (indexExpired s).params = s.params ∧ (indexExpired s).pins = s.pins
    ∧ (indexExpired s).store = s.store ∧ (indexExpired s).reader = s.reader ∧ (indexExpired s).lists = s.lists
    ∧ (indexExpired s).zones = s.zones ∧ (indexExpired s).beam.current = s.beam.current
    ∧ (indexExpired s).station.relay = s.station.relay ∧ (indexExpired s).station.records = s.station.records
    ∧ (indexExpired s).hand = s.hand ∧ (indexExpired s).link.reply = s.link.reply
    ∧ (indexExpired s).link.tx = s.link.tx ∧ (indexExpired s).link.requests = s.link.requests
    ∧ (indexExpired s).link.rx = s.link.rx ∧ (indexExpired s).link.baud = s.link.baud
    ∧ (indexExpired s).pending = s.pending := by
  unfold indexExpired; (try dsimp only) <;> (repeat' split) <;> simp_all
@[simp] theorem cutExpired_frame (s : State) :
    (cutExpired s).web = s.web ∧ (cutExpired s).params = s.params ∧ (cutExpired s).pins = s.pins
    ∧ (cutExpired s).store = s.store ∧ (cutExpired s).reader = s.reader ∧ (cutExpired s).lists = s.lists
    ∧ (cutExpired s).zones = s.zones ∧ (cutExpired s).beam.current = s.beam.current
    ∧ (cutExpired s).station.relay = s.station.relay ∧ (cutExpired s).station.records = s.station.records
    ∧ (cutExpired s).hand = s.hand ∧ (cutExpired s).link.reply = s.link.reply ∧ (cutExpired s).link.tx = s.link.tx
    ∧ (cutExpired s).link.requests = s.link.requests ∧ (cutExpired s).link.rx = s.link.rx
    ∧ (cutExpired s).link.baud = s.link.baud ∧ (cutExpired s).pending = s.pending := by
  unfold cutExpired; (try dsimp only) <;> (repeat' split) <;> simp_all
@[simp] theorem tripInput_frame (i : TripInput) (asserted : Bool) (s : State) :
    (tripInput i asserted s).web = s.web ∧ (tripInput i asserted s).params = s.params
    ∧ (tripInput i asserted s).store = s.store ∧ (tripInput i asserted s).reader = s.reader
    ∧ (tripInput i asserted s).lists = s.lists ∧ (tripInput i asserted s).zones = s.zones
    ∧ (tripInput i asserted s).beam.current = s.beam.current
    ∧ (tripInput i asserted s).station.relay = s.station.relay
    ∧ (tripInput i asserted s).station.records = s.station.records ∧ (tripInput i asserted s).hand = s.hand
    ∧ (tripInput i asserted s).link.reply = s.link.reply ∧ (tripInput i asserted s).link.tx = s.link.tx
    ∧ (tripInput i asserted s).link.requests = s.link.requests ∧ (tripInput i asserted s).link.rx = s.link.rx
    ∧ (tripInput i asserted s).link.baud = s.link.baud ∧ (tripInput i asserted s).pending = s.pending := by
  unfold tripInput; (try dsimp only) <;> (repeat' split) <;> simp_all
@[simp] theorem dwellExpired_frame (s : State) :
    (dwellExpired s).web = s.web ∧ (dwellExpired s).params = s.params ∧ (dwellExpired s).pins = s.pins
    ∧ (dwellExpired s).store = s.store ∧ (dwellExpired s).reader = s.reader ∧ (dwellExpired s).lists = s.lists
    ∧ (dwellExpired s).beam.current = s.beam.current ∧ (dwellExpired s).station.relay = s.station.relay
    ∧ (dwellExpired s).station.records = s.station.records ∧ (dwellExpired s).hand = s.hand
    ∧ (dwellExpired s).link.reply = s.link.reply ∧ (dwellExpired s).link.tx = s.link.tx
    ∧ (dwellExpired s).link.requests = s.link.requests ∧ (dwellExpired s).link.rx = s.link.rx
    ∧ (dwellExpired s).link.baud = s.link.baud ∧ (dwellExpired s).pending = s.pending := by
  unfold dwellExpired; (try dsimp only) <;> (repeat' split) <;> simp_all
@[simp] theorem beamExpired_frame (s : State) :
    (beamExpired s).web = s.web ∧ (beamExpired s).params = s.params ∧ (beamExpired s).pins = s.pins
    ∧ (beamExpired s).store = s.store ∧ (beamExpired s).reader = s.reader ∧ (beamExpired s).lists = s.lists
    ∧ (beamExpired s).zones = s.zones ∧ (beamExpired s).beam.current = s.beam.current
    ∧ (beamExpired s).station.relay = s.station.relay ∧ (beamExpired s).station.records = s.station.records
    ∧ (beamExpired s).hand = s.hand ∧ (beamExpired s).link.reply = s.link.reply
    ∧ (beamExpired s).link.tx = s.link.tx ∧ (beamExpired s).link.requests = s.link.requests
    ∧ (beamExpired s).link.rx = s.link.rx ∧ (beamExpired s).link.baud = s.link.baud
    ∧ (beamExpired s).pending = s.pending := by
  unfold beamExpired; (try dsimp only) <;> (repeat' split) <;> simp_all
@[simp] theorem stationAnswered_frame (a : Answer) (s : State) :
    (stationAnswered a s).web = s.web ∧ (stationAnswered a s).params = s.params
    ∧ (stationAnswered a s).pins = s.pins ∧ (stationAnswered a s).hand = s.hand
    ∧ (stationAnswered a s).link.tx = s.link.tx ∧ (stationAnswered a s).link.requests = s.link.requests
    ∧ (stationAnswered a s).link.rx = s.link.rx ∧ (stationAnswered a s).link.baud = s.link.baud
    ∧ (stationAnswered a s).pending = s.pending := by
  unfold stationAnswered; (try dsimp only) <;> (repeat' split) <;> simp_all
@[simp] theorem replyExpired_frame (s : State) :
    (replyExpired s).web = s.web ∧ (replyExpired s).params = s.params ∧ (replyExpired s).pins = s.pins
    ∧ (replyExpired s).hand = s.hand ∧ (replyExpired s).link.tx = s.link.tx
    ∧ (replyExpired s).link.requests = s.link.requests ∧ (replyExpired s).link.rx = s.link.rx
    ∧ (replyExpired s).link.baud = s.link.baud ∧ (replyExpired s).pending = s.pending := by
  unfold replyExpired; (try dsimp only) <;> (repeat' split) <;> simp_all
@[simp] theorem delayExpired_frame (ch : Lane) (s : State) :
    (delayExpired ch s).web = s.web ∧ (delayExpired ch s).params = s.params ∧ (delayExpired ch s).pins = s.pins
    ∧ (delayExpired ch s).zones = s.zones ∧ (delayExpired ch s).beam.current = s.beam.current
    ∧ (delayExpired ch s).station.relay = s.station.relay ∧ (delayExpired ch s).station.records = s.station.records
    ∧ (delayExpired ch s).link.reply = s.link.reply ∧ (delayExpired ch s).link.tx = s.link.tx
    ∧ (delayExpired ch s).link.requests = s.link.requests ∧ (delayExpired ch s).link.rx = s.link.rx
    ∧ (delayExpired ch s).link.baud = s.link.baud ∧ (delayExpired ch s).pending = s.pending := by
  unfold delayExpired; (try dsimp only) <;> (repeat' split) <;> simp_all
@[simp] theorem releaseChannel_frame (ch : Lane) (s : State) :
    (releaseChannel ch s).web = s.web ∧ (releaseChannel ch s).params = s.params
    ∧ (releaseChannel ch s).pins = s.pins ∧ (releaseChannel ch s).store = s.store
    ∧ (releaseChannel ch s).reader = s.reader ∧ (releaseChannel ch s).eyes = s.eyes
    ∧ (releaseChannel ch s).reg = s.reg ∧ (releaseChannel ch s).lists = s.lists
    ∧ (releaseChannel ch s).zones = s.zones ∧ (releaseChannel ch s).cuts = s.cuts
    ∧ (releaseChannel ch s).motion = s.motion ∧ (releaseChannel ch s).beam = s.beam
    ∧ (releaseChannel ch s).station = s.station ∧ (releaseChannel ch s).link = s.link
    ∧ (releaseChannel ch s).pending = s.pending := by
  unfold releaseChannel; (try dsimp only) <;> (repeat' split) <;> simp_all
@[simp] theorem acceptTaken_frame (ch : Lane) (asserted : Bool) (before s : State) :
    (acceptTaken ch asserted before s).web = s.web ∧ (acceptTaken ch asserted before s).params = s.params
    ∧ (acceptTaken ch asserted before s).pins = s.pins ∧ (acceptTaken ch asserted before s).zones = s.zones
    ∧ (acceptTaken ch asserted before s).beam.current = s.beam.current
    ∧ (acceptTaken ch asserted before s).station.relay = s.station.relay
    ∧ (acceptTaken ch asserted before s).station.records = s.station.records
    ∧ (acceptTaken ch asserted before s).link.reply = s.link.reply
    ∧ (acceptTaken ch asserted before s).link.tx = s.link.tx
    ∧ (acceptTaken ch asserted before s).link.requests = s.link.requests
    ∧ (acceptTaken ch asserted before s).link.rx = s.link.rx
    ∧ (acceptTaken ch asserted before s).link.baud = s.link.baud
    ∧ (acceptTaken ch asserted before s).pending = s.pending := by
  unfold acceptTaken; (try dsimp only) <;> (repeat' split) <;> simp_all
@[simp] theorem acceptChange_frame (n : Lane) (high : Bool) (s : State) :
    (acceptChange n high s).web = s.web ∧ (acceptChange n high s).params = s.params
    ∧ (acceptChange n high s).zones = s.zones ∧ (acceptChange n high s).beam.current = s.beam.current
    ∧ (acceptChange n high s).station.relay = s.station.relay
    ∧ (acceptChange n high s).station.records = s.station.records
    ∧ (acceptChange n high s).link.reply = s.link.reply ∧ (acceptChange n high s).link.tx = s.link.tx
    ∧ (acceptChange n high s).link.requests = s.link.requests ∧ (acceptChange n high s).link.rx = s.link.rx
    ∧ (acceptChange n high s).link.baud = s.link.baud ∧ (acceptChange n high s).pending = s.pending := by
  unfold acceptChange; (try dsimp only) <;> (repeat' split) <;> simp_all
@[simp] theorem handoffExpired_frame (ch : Lane) (s : State) :
    (handoffExpired ch s).web = s.web ∧ (handoffExpired ch s).params = s.params
    ∧ (handoffExpired ch s).pins = s.pins ∧ (handoffExpired ch s).zones = s.zones
    ∧ (handoffExpired ch s).beam.current = s.beam.current ∧ (handoffExpired ch s).station.relay = s.station.relay
    ∧ (handoffExpired ch s).station.records = s.station.records ∧ (handoffExpired ch s).link.reply = s.link.reply
    ∧ (handoffExpired ch s).link.tx = s.link.tx ∧ (handoffExpired ch s).link.requests = s.link.requests
    ∧ (handoffExpired ch s).link.rx = s.link.rx ∧ (handoffExpired ch s).link.baud = s.link.baud
    ∧ (handoffExpired ch s).pending = s.pending := by
  unfold handoffExpired; (try dsimp only) <;> (repeat' split) <;> simp_all
@[simp] theorem busyChange_frame (n : Lane) (high : Bool) (s : State) :
    (busyChange n high s).web = s.web ∧ (busyChange n high s).params = s.params
    ∧ (busyChange n high s).store = s.store ∧ (busyChange n high s).reader = s.reader
    ∧ (busyChange n high s).lists = s.lists ∧ (busyChange n high s).zones = s.zones
    ∧ (busyChange n high s).beam.current = s.beam.current ∧ (busyChange n high s).station.relay = s.station.relay
    ∧ (busyChange n high s).station.records = s.station.records ∧ (busyChange n high s).hand = s.hand
    ∧ (busyChange n high s).link.reply = s.link.reply ∧ (busyChange n high s).link.tx = s.link.tx
    ∧ (busyChange n high s).link.requests = s.link.requests ∧ (busyChange n high s).link.rx = s.link.rx
    ∧ (busyChange n high s).link.baud = s.link.baud ∧ (busyChange n high s).pending = s.pending := by
  unfold busyChange; (try dsimp only) <;> (repeat' split) <;> simp_all
@[simp] theorem requestArrives_frame (tag : Byte) (r : Request) (s : State) :
    (requestArrives tag r s).pins = s.pins ∧ (requestArrives tag r s).pending = s.pending := by
  unfold requestArrives; (try dsimp only) <;> (repeat' split) <;> simp_all
end Sys2Proof.Machine
end

