-- ==== Sys2Proof/Laws/Link.lean ====
section
/-! SUPPORT. What the Line Link does with a frame that arrives while nothing waits, and with the replies and events it holds. -/
set_option Elab.async false
set_option linter.all false
namespace Sys2Proof.Machine

/-- A link that has nothing to send, or whose transmitter is busy, sends nothing. -/
theorem sendNext_idle (l : LineLink) (hr : l.reply = none) (he : l.tx = none → l.events = []) : sendNext l = l := by
  obtain ⟨rx, rq, rp, tx, ev, el, bd⟩ := l
  cases tx with
  | some f => rfl
  | none => simp at hr he; subst hr; have := he; subst this; rfl

theorem startTx_idle (s : State) (hr : s.link.reply = none) (he : s.link.tx = none → s.link.events = []) :
    startTx s = s := by
  unfold startTx State.onLink; rw [sendNext_idle _ hr he]

/-- On a link that keeps its law the transmitter has nothing to start. -/
theorem startTx_lawful (s : State) (h : LinkLaw s) : startTx s = s := by
  unfold startTx State.onLink
  have : sendNext s.link = s.link := by
    cases hx : s.link.tx with
    | some f => simp [sendNext, hx]
    | none => exact sendNext_idle _ (h.1 hx).1 (fun _ => (h.1 hx).2)
  rw [this]

/-- A reply made on a link in which none waits. -/
theorem sendNext_reply (l : LineLink) (f : Frame) (h : l.reply = none) :
    sendNext { l with reply := some f } = linkReplied l f := by
  obtain ⟨rx, rq, rp, tx, ev, el, bd⟩ := l
  simp at h; subst h
  cases tx <;> simp [sendNext, linkReplied]

/-- What the start of a transmission leaves unchanged in the link. -/
@[simp] theorem startTx_link_rest (s : State) :
    (startTx s).link.requests = s.link.requests ∧ (startTx s).link.rx = s.link.rx ∧ (startTx s).link.baud = s.link.baud
    ∧ (startTx s).link.eventsLost = s.link.eventsLost := by
  unfold startTx sendNext; simp; (repeat' split) <;> simp

theorem takeWaitingFrames_empty (k : Nat) (s : State) (h : s.link.requests = []) :
    takeWaitingFrames k s = startTx s := by
  cases k with
  | zero => rfl
  | succ k =>
    simp only [takeWaitingFrames, startTx_link_rest, h]
    split <;> rfl

theorem runLink_empty (s : State) (h : s.link.requests = []) : runLink s = startTx s := takeWaitingFrames_empty _ s h

/-- A frame that arrives on a ready link is taken at once (R181). -/
theorem arrive_ready (f : Frame) (s : State) (h : s.linkReady) : arrive f s = startTx (takeFrame f s) := by
  obtain ⟨hr, hq, hrel, he⟩ := h
  have e1 : enqueue f s = s.onLink fun l => { l with requests := [f] } := by
    simp [enqueue, State.onLink, hq, requestMax]
  have e2 : startTx (s.onLink fun l => { l with requests := [f] }) = s.onLink fun l => { l with requests := [f] } :=
    startTx_idle _ (by simpa using hr) (by simpa using he)
  have e3 : (s.onLink fun l => { l with requests := [f] }).onLink (fun l => { l with requests := [] }) = s := by
    simp only [State.onLink]; rw [← hq]
  unfold arrive runLink
  rw [e1]
  show takeWaitingFrames (3 + 1) _ = _
  unfold takeWaitingFrames
  have hm : (s.onLink fun l => { l with requests := [f] }).mayTake = true := by simp [State.mayTake, hr, hrel]
  simp only [e2, hm, if_true]
  have hl : (s.onLink fun l => { l with requests := [f] }).link.requests = [f] := by simp
  simp only [hl, e3]
  exact takeWaitingFrames_empty _ _ (by simp [hq])

/-- A request that its frame spells is handled at once on a ready link. -/
theorem requestArrives_ready (tag : Byte) (r : Request) (s : State) (h : s.linkReady)
    (hx : examine (requestKind r) (requestPayload r) = .request r) : requestArrives tag r s = startTx (handle tag r s) := by
  unfold requestArrives
  rw [arrive_ready _ _ h]
  simp [takeFrame, requestFrame, hx]

/-- A reply is made and transmitted, or waits. -/
theorem startTx_reply (kind tag : Byte) (st : Status) (rest : List Byte) (s : State) (h : s.link.reply = none) :
    startTx (reply kind tag st rest s) = { s with link := linkReplied s.link (replyFrame kind tag st rest) } := by
  unfold startTx reply State.onLink
  simp only [sendNext_reply _ _ h]

/-- Whatever keeps the reply and the transmitter, its reply begins or waits. -/
theorem replied_of (s u : State) (f : Frame) (hr : u.link.reply = some f) (ht : u.link.tx = s.link.tx) :
    Replied s (startTx u) f := by
  unfold Replied startTx sendNext
  simp only [State.onLink_link, ht]
  constructor
  · intro h; rw [h] at ht ⊢; simp [ht, hr]
  · intro h
    obtain ⟨g, hg⟩ := Option.ne_none_iff_exists'.mp h
    simp [ht, hg, hr]

end Sys2Proof.Machine
end

