-- ==== Sys2Proof/Laws/Settle.lean ====
section
/-! SUPPORT. What follows every command (`settle`) in a line that stands: hold reasons may be added, and nothing else of the
motion or of the Cut Queue changes. While an entry is executing, the Cut Queue stands in every line state. -/
set_option Elab.async false
set_option linter.all false
namespace Sys2Proof.Machine

/-- The motion of t is that of s but for the hold set. -/
def HoldsOnly (s t : State) : Prop := ∃ h, t.motion = { s.motion with holds := h }

theorem HoldsOnly.rfl (s : State) : HoldsOnly s s := ⟨s.motion.holds, by simp⟩

theorem HoldsOnly.trans {s t u : State} (a : HoldsOnly s t) (b : HoldsOnly t u) : HoldsOnly s u := by
  obtain ⟨h, a⟩ := a; obtain ⟨k, b⟩ := b; exact ⟨k, by rw [b, a]⟩

theorem HoldsOnly.of_eq {s t : State} (h : t.motion = s.motion) : HoldsOnly s t := ⟨s.motion.holds, by rw [h]⟩

theorem HoldsOnly.line {s t : State} (a : HoldsOnly s t) : t.motion.line = s.motion.line := by
  obtain ⟨h, a⟩ := a; rw [a]

theorem addReason_holdsOnly (r : HoldReason) (s : State) : HoldsOnly s (addReason r s) := by
  unfold addReason; split
  · exact HoldsOnly.rfl s
  · exact ⟨s.motion.holds.add r, by simp⟩

theorem raiseHold_holdsOnly (r : HoldReason) (s : State) (h : s.motion.line ≠ .running) : HoldsOnly s (raiseHold r s) := by
  unfold raiseHold
  split
  · exact HoldsOnly.rfl s
  · next e => exact absurd e h
  all_goals exact addReason_holdsOnly r s

theorem failChangeover_holdsOnly (s : State) (h : s.motion.line ≠ .running) : HoldsOnly s (failChangeover s) := by
  unfold failChangeover
  split
  · exact (HoldsOnly.of_eq (by simp)).trans (raiseHold_holdsOnly _ _ (by simpa using h))
  all_goals exact HoldsOnly.rfl s

theorem beamActionPushed_holdsOnly (sf : State × Bool) (h : sf.1.motion.line ≠ .running) :
    HoldsOnly sf.1 (beamActionPushed sf) := by
  unfold beamActionPushed; split
  · exact failChangeover_holdsOnly _ h
  · exact HoldsOnly.rfl _

theorem startMove_holdsOnly (l : Layout) (g : Int) (s : State) (h : s.motion.line ≠ .running) :
    HoldsOnly s (startMove l g s) := by
  unfold startMove
  exact (HoldsOnly.of_eq (by simp)).trans (beamActionPushed_holdsOnly _ (by simpa using h))

theorem judgeTrigger_holdsOnly (s : State) (h : s.motion.line ≠ .running) : HoldsOnly s (judgeTrigger s) := by
  unfold judgeTrigger
  split
  · split
    · exact (HoldsOnly.of_eq (by simp)).trans (startMove_holdsOnly _ _ _ (by simpa using h))
    · exact HoldsOnly.rfl s
  all_goals exact HoldsOnly.rfl s

theorem actionFailed_holdsOnly (a : Action) (s : State) (h : s.motion.line ≠ .running) : HoldsOnly s (actionFailed a s) := by
  unfold actionFailed beamActionFailed
  split
  · exact raiseHold_holdsOnly _ _ h
  · exact raiseHold_holdsOnly _ _ h
  all_goals split <;> first | exact failChangeover_holdsOnly _ h | exact HoldsOnly.rfl s

theorem arbiter_holdsOnly (k : Nat) (s : State) (h : s.motion.line ≠ .running) : HoldsOnly s (arbiter k s) := by
  induction k generalizing s with
  | zero => exact HoldsOnly.rfl s
  | succ k ih =>
    unfold arbiter
    split
    · exact HoldsOnly.rfl s
    · split
      · next a r _ =>
        have h1 : (s.onStation fun x => { x with actions := r }).motion.line ≠ .running := by simpa using h
        have b1 : HoldsOnly s (s.onStation fun x => { x with actions := r }) := HoldsOnly.of_eq (by simp)
        dsimp only
        split
        · have b2 := actionFailed_holdsOnly a _ h1
          exact b1.trans (b2.trans (ih _ (by rw [b2.line]; exact h1)))
        · exact HoldsOnly.of_eq (by simp)
      · split
        · exact HoldsOnly.of_eq (by simp)
        · split
          · exact HoldsOnly.of_eq (by simp)
          · exact HoldsOnly.rfl s

theorem runArbiter_holdsOnly (s : State) (h : s.motion.line ≠ .running) : HoldsOnly s (runArbiter s) :=
  arbiter_holdsOnly 40 s h

/-- The line states in which the Motion Controller has nothing to bring about. -/
def standing : LineState → Bool
  | .idle | .ready | .held | .tripped => true
  | .running | .holding => false

theorem standing_not_running {l : LineState} (h : standing l = true) : l ≠ .running := by
  intro e; rw [e] at h; exact Bool.noConfusion h

theorem reactMotion_standing (b s : State) (h : standing s.motion.line = true) : reactMotion b s = s := by
  unfold reactMotion
  cases e : s.motion.line <;> simp_all [standing]

/-- In a line that stands, what follows a command adds hold reasons at most. -/
theorem settle_holdsOnly (b s : State) (h : standing s.motion.line = true) : HoldsOnly s (settle b s) := by
  unfold settle
  have n : ∀ {l}, standing l = true → l ≠ .running := standing_not_running
  have h1 := judgeTrigger_holdsOnly s (n h)
  have s1 : standing (judgeTrigger s).motion.line = true := by rw [h1.line]; exact h
  have h2 := runArbiter_holdsOnly (judgeTrigger s) (n s1)
  have s2 : standing (runArbiter (judgeTrigger s)).motion.line = true := by rw [h2.line]; exact s1
  have h3 := runArbiter_holdsOnly _ (n s2)
  dsimp only
  rw [reactMotion_standing _ _ s1, reactMotion_standing _ _ s2]
  exact h1.trans (h2.trans h3)

/-- In a line that stands, what follows a command leaves the Cut Queue as it is. -/
theorem settle_cuts_standing (b s : State) (h : standing s.motion.line = true) : (settle b s).cuts = s.cuts := by
  unfold settle
  have n : ∀ {l}, standing l = true → l ≠ .running := standing_not_running
  have h1 := judgeTrigger_holdsOnly s (n h)
  have s1 : standing (judgeTrigger s).motion.line = true := by rw [h1.line]; exact h
  have h2 := runArbiter_holdsOnly (judgeTrigger s) (n s1)
  have s2 : standing (runArbiter (judgeTrigger s)).motion.line = true := by rw [h2.line]; exact s1
  dsimp only
  rw [reactMotion_standing _ _ s1, reactMotion_standing _ _ s2]
  simp

/-! ## While an entry executes -/

theorem judgeOutfeed_executing (s : State) (h : s.headExecuting = true) : judgeOutfeed s = s := by
  unfold judgeOutfeed; simp [h]

theorem indexable_executing (s : State) (h : s.headExecuting = true) : s.indexable = none := by
  unfold State.indexable State.headExecuting at *
  split <;> simp_all
  intro e; simp_all [executing]

theorem judgeHolding_cuts (a b : Bool) (s : State) (h : s.headExecuting = true) : (judgeHolding a b s).cuts = s.cuts := by
  unfold judgeHolding
  rw [indexable_executing s h]
  simp only [ite_self]
  split <;> simp

theorem headExecuting_of_cuts {s t : State} (h : t.cuts = s.cuts) : t.headExecuting = s.headExecuting := by
  unfold State.headExecuting State.headEntry; rw [h]

theorem reactMotion_cuts (b s : State) (h : s.headExecuting = true) : (reactMotion b s).cuts = s.cuts := by
  unfold reactMotion
  split
  · split
    · rw [judgeOutfeed_executing s h]
    · rfl
  · simp [judgeHolding_cuts _ _ s h]
  all_goals rfl

/-- While the head entry executes, what follows a command leaves the Cut Queue as it is. -/
theorem settle_cuts_executing (b s : State) (h : s.headExecuting = true) : (settle b s).cuts = s.cuts := by
  unfold settle
  have c1 : (judgeTrigger s).cuts = s.cuts := by simp
  have h1 : (judgeTrigger s).headExecuting = true := by rw [headExecuting_of_cuts c1]; exact h
  have c2 := reactMotion_cuts b _ h1
  have c3 : (runArbiter (reactMotion b (judgeTrigger s))).cuts = (reactMotion b (judgeTrigger s)).cuts := by simp
  have h3 : (runArbiter (reactMotion b (judgeTrigger s))).headExecuting = true := by
    rw [headExecuting_of_cuts c3, headExecuting_of_cuts c2]; exact h1
  dsimp only
  simp [reactMotion_cuts _ _ h3, c2]

end Sys2Proof.Machine
end

