-- ==== Sys2Proof/Laws/Motion.lean ====
section
/-! SUPPORT. What the commanded speed, a hold, a trip and the job end leave in the Motion Controller. -/
set_option Elab.async false
set_option linter.all false
namespace Sys2Proof.Machine

/-- The commanded speed after it was worked out afresh is the one wanted; the nip closes for a speed above 0 (R146). -/
theorem commandSpeed_motion (s : State) :
    (commandSpeed s).1.motion
      = { s.motion with
          speed := s.wantedSpeed
          nip := if s.wantedSpeed ≠ s.motion.speed ∧ s.wantedSpeed ≠ 0 ∧ s.motion.nip = .opened then .closed
                 else s.motion.nip } := by
  have hw : ∀ a (t : State), (pushAction a t).1.motion = t.motion := fun a t => by simp
  have hl : ∀ a (t : State), (pushAction a t).1.wantedSpeed = t.wantedSpeed := fun a t => by
    unfold State.wantedSpeed State.par; simp
  have hn : (s.onMotion fun m => { m with nip := .closed }).wantedSpeed = s.wantedSpeed := rfl
  unfold commandSpeed
  by_cases h1 : s.wantedSpeed = s.motion.speed
  · rw [if_pos h1]; simp [h1]
  · rw [if_neg h1]
    by_cases h2 : s.wantedSpeed ≠ 0 ∧ s.motion.nip = .opened
    · simp only [if_pos h2, hl, hn]
      simp [h1, h2]
    · simp only [if_neg h2]
      rw [if_neg (by tauto)]
      simp

theorem commandSpeed_line (s : State) : (commandSpeed s).1.motion.line = s.motion.line := by rw [commandSpeed_motion]

theorem stationIfFailed_holdsOnly (sf : State × Bool) : HoldsOnly sf.1 (stationIfFailed sf) := by
  unfold stationIfFailed; split
  · exact addReason_holdsOnly _ _
  · exact HoldsOnly.rfl _

/-- On entering HOLDING the line is HOLDING, the commanded speed 0, and hold reasons may be added (R142). -/
theorem enterHolding_motion (s : State) :
    ∃ h, (enterHolding s).motion = { s.motion with line := .holding, speed := 0, holds := h } := by
  unfold enterHolding
  obtain ⟨h, e⟩ := stationIfFailed_holdsOnly (commandSpeed (queueLine .state (s.onMotion fun m => { m with line := .holding })))
  refine ⟨h, ?_⟩
  rw [e, commandSpeed_motion]
  have : (queueLine .state (s.onMotion fun m => { m with line := .holding })).wantedSpeed = 0 := by
    unfold State.wantedSpeed; simp
  simp [this]

/-- On entering TRIPPED: the cause in the set and first, HALT, the outfeed STOPPED, the commanded speed 0 (R143, R144). -/
theorem enterTripped_motion (c : TripCause) (s : State) :
    ∃ h, (enterTripped c s).motion
      = { s.motion with line := .tripped, trips := s.motion.trips.add c, firstCause := some c, drive := some .halt,
                        outfeed := .stopped, speed := 0, holds := h } := by
  unfold enterTripped
  simp only [tripHead_frame]
  obtain ⟨h, e⟩ := stationIfFailed_holdsOnly (commandSpeed (queueLine .state (s.onMotion fun m =>
    { m with line := .tripped, trips := m.trips.add c, firstCause := some c, drive := some .halt, outfeed := .stopped })))
  refine ⟨h, ?_⟩
  rw [e, commandSpeed_motion]
  have : (queueLine .state (s.onMotion fun m =>
    { m with line := .tripped, trips := m.trips.add c, firstCause := some c, drive := some .halt, outfeed := .stopped })).wantedSpeed
      = 0 := by unfold State.wantedSpeed; simp
  simp [this]

@[simp] theorem TripSet.has_add (t : TripSet) (c : TripCause) : (t.add c).has c = true := by cases c <;> rfl
@[simp] theorem HoldSet.has_add (h : HoldSet) (r : HoldReason) : (h.add r).has r = true := by cases r <;> rfl

/-- In IDLE a trip cause is ignored (R143). -/
theorem raiseTrip_idle (c : TripCause) (s : State) (h : s.motion.line = .idle) : raiseTrip c s = s := by
  unfold raiseTrip; rw [h]

/-- In any other line state the line is then TRIPPED with the cause in the set (R143). -/
theorem raiseTrip_tripped (c : TripCause) (s : State) (h : s.motion.line ≠ .idle) :
    (raiseTrip c s).motion.line = .tripped ∧ (raiseTrip c s).motion.trips.has c = true := by
  have e : ∀ u : State, (enterTripped c u).motion.line = .tripped ∧ (enterTripped c u).motion.trips.has c = true := by
    intro u; obtain ⟨k, hk⟩ := enterTripped_motion c u; rw [hk]; simp
  unfold raiseTrip
  split
  · next g => exact absurd g h
  · next g => split
              · next g2 => exact ⟨g, g2⟩
              · simp [g]
  all_goals exact e s

/-- A first trip is the first cause (R143). -/
theorem raiseTrip_first (c : TripCause) (s : State) (h : s.motion.line ≠ .idle) (h2 : s.motion.line ≠ .tripped) :
    raiseTrip c s = enterTripped c s := by
  unfold raiseTrip; split <;> simp_all

/-- The head of the Cut Queue and its timers at a trip (R118). -/
theorem enterTripped_cuts (c : TripCause) (s : State) : (enterTripped c s).cuts = (tripHead s).cuts := by
  have e : ∀ u v : State, u.cuts = v.cuts → (tripHead u).cuts = (tripHead v).cuts := by
    intro u v h
    unfold tripHead State.headEntry State.onHead; rw [h]
    split <;> simp [h]
  unfold enterTripped
  exact e _ _ (by simp)

end Sys2Proof.Machine
end

