-- ==== Sys2Proof/Laws/PerInstr.lean ====
section
/-! SUPPORT. For every command: the payload of a well-formed request fits a frame (R179, R181). -/
set_option Elab.async false
set_option linter.all false
namespace Sys2Proof.Laws.RequestFits
open Sys2Proof.Machine

/-- If the command is a well-formed request, its payload has at most 240 bytes. -/
def Statement (i : Instr) : Prop :=
  ∀ tag r, requestOf i = some (tag, r) → i.wf = true → (requestPayload r).length ≤ payloadMax

/-- Five bytes for each pair. -/
theorem pairs_length (pairs : List (Byte × Word32)) :
    (pairs.flatMap fun q => q.1 :: word32Bytes q.2).length = 5 * pairs.length := by
  induction pairs with
  | nil => rfl
  | cons a r ih => simp only [List.flatMap_cons, List.length_append, ih, List.length_cons]; simp [word32Bytes]; omega

/-- Sixteen bytes for each record. -/
theorem records_length (rs : List RawRecord) : (rs.flatMap fun v => v.toList).length = 16 * rs.length := by
  induction rs with
  | nil => rfl
  | cons a r ih => simp only [List.flatMap_cons, List.length_append, ih, List.length_cons]; simp; omega

theorem powerOn (s1Fitted : Bool) : Statement (.powerOn s1Fitted) := by
  intro t r h; simp [requestOf] at h
theorem forwardCount (e : Encoder) : Statement (.forwardCount e) := by
  intro t r h; simp [requestOf] at h
theorem reverseCount (e : Encoder) : Statement (.reverseCount e) := by
  intro t r h; simp [requestOf] at h
theorem quadratureDoubleChange (e : Encoder) : Statement (.quadratureDoubleChange e) := by
  intro t r h; simp [requestOf] at h
theorem leadingEdge (n : Lane) : Statement (.leadingEdge n) := by
  intro t r h; simp [requestOf] at h
theorem trailingEdge (n : Lane) : Statement (.trailingEdge n) := by
  intro t r h; simp [requestOf] at h
theorem inspectAssert (n : Lane) (asserted : Bool) : Statement (.inspectAssert n asserted) := by
  intro t r h; simp [requestOf] at h
theorem inPosition : Statement .inPosition := by
  intro t r h; simp [requestOf] at h
theorem traverseEnd : Statement .traverseEnd := by
  intro t r h; simp [requestOf] at h
theorem indexTimeout : Statement .indexTimeout := by
  intro t r h; simp [requestOf] at h
theorem cutTimeout : Statement .cutTimeout := by
  intro t r h; simp [requestOf] at h
theorem tripInputAsserted (i : TripInput) (asserted : Bool) : Statement (.tripInputAsserted i asserted) := by
  intro t r h; simp [requestOf] at h
theorem dwellExpiry : Statement .dwellExpiry := by
  intro t r h; simp [requestOf] at h
theorem beamTimeout : Statement .beamTimeout := by
  intro t r h; simp [requestOf] at h
theorem pollDue (r : Role) : Statement (.pollDue r) := by
  intro t r h; simp [requestOf] at h
theorem stationAnswer (a : Answer) : Statement (.stationAnswer a) := by
  intro t r h; simp [requestOf] at h
theorem replyTimeout : Statement .replyTimeout := by
  intro t r h; simp [requestOf] at h
theorem delayTimerExpiry (ch : Lane) : Statement (.delayTimerExpiry ch) := by
  intro t r h; simp [requestOf] at h
theorem acceptChange (n : Lane) (high : Bool) : Statement (.acceptChange n high) := by
  intro t r h; simp [requestOf] at h
theorem handoffTimeout (ch : Lane) : Statement (.handoffTimeout ch) := by
  intro t r h; simp [requestOf] at h
theorem busyChange (n : Lane) (high : Bool) : Statement (.busyChange n high) := by
  intro t r h; simp [requestOf] at h
theorem lineFrameReceived (bytes : List Byte) : Statement (.lineFrameReceived bytes) := by
  intro t r h; simp [requestOf] at h
theorem frameGapTimeout (next : Byte) : Statement (.frameGapTimeout next) := by
  intro t r h; simp [requestOf] at h
theorem frameSent : Statement .frameSent := by
  intro t r h; simp [requestOf] at h
theorem badKind (kind tag : Byte) (payload : List Byte) : Statement (.badKind kind tag payload) := by
  intro t r h; simp [requestOf] at h
theorem status (tag : Byte) : Statement (.status tag) := by
  intro t r h w
  simp only [requestOf, Option.some.injEq, Prod.mk.injEq] at h
  obtain ⟨rfl, rfl⟩ := h
  decide
theorem setup (tag : Byte) (pairs : List (Byte × Word32)) : Statement (.setup tag pairs) := by
  intro t r h w
  simp only [requestOf, Option.some.injEq, Prod.mk.injEq] at h
  obtain ⟨rfl, rfl⟩ := h
  simp only [Instr.wf, decide_eq_true_eq] at w
  simp only [requestPayload, pairs_length, payloadMax]; omega
theorem thread (tag : Byte) (p : Word32) : Statement (.thread tag p) := by
  intro t r h w
  simp only [requestOf, Option.some.injEq, Prod.mk.injEq] at h
  obtain ⟨rfl, rfl⟩ := h
  simp [requestPayload, word32Bytes, word16Bytes, payloadMax]
theorem run (tag : Byte) : Statement (.run tag) := by
  intro t r h w
  simp only [requestOf, Option.some.injEq, Prod.mk.injEq] at h
  obtain ⟨rfl, rfl⟩ := h
  decide
theorem hold (tag : Byte) : Statement (.hold tag) := by
  intro t r h w
  simp only [requestOf, Option.some.injEq, Prod.mk.injEq] at h
  obtain ⟨rfl, rfl⟩ := h
  decide
theorem resume (tag : Byte) : Statement (.resume tag) := by
  intro t r h w
  simp only [requestOf, Option.some.injEq, Prod.mk.injEq] at h
  obtain ⟨rfl, rfl⟩ := h
  decide
theorem recover (tag : Byte) : Statement (.recover tag) := by
  intro t r h w
  simp only [requestOf, Option.some.injEq, Prod.mk.injEq] at h
  obtain ⟨rfl, rfl⟩ := h
  decide
theorem lineReset (tag : Byte) : Statement (.lineReset tag) := by
  intro t r h w
  simp only [requestOf, Option.some.injEq, Prod.mk.injEq] at h
  obtain ⟨rfl, rfl⟩ := h
  decide
theorem pageLoad (tag : Byte) (page first : Byte) (records : List RawRecord) : Statement (.pageLoad tag page first records) := by
  intro t r h w
  simp only [requestOf, Option.some.injEq, Prod.mk.injEq] at h
  obtain ⟨rfl, rfl⟩ := h
  simp only [Instr.wf, decide_eq_true_eq] at w
  simp only [requestPayload, List.length_cons, records_length, payloadMax]; omega
theorem pageArm (tag : Byte) (page : Byte) : Statement (.pageArm tag page) := by
  intro t r h w
  simp only [requestOf, Option.some.injEq, Prod.mk.injEq] at h
  obtain ⟨rfl, rfl⟩ := h
  simp [requestPayload, word32Bytes, word16Bytes, payloadMax]
theorem pageClear (tag : Byte) (page : Byte) : Statement (.pageClear tag page) := by
  intro t r h w
  simp only [requestOf, Option.some.injEq, Prod.mk.injEq] at h
  obtain ⟨rfl, rfl⟩ := h
  simp [requestPayload, word32Bytes, word16Bytes, payloadMax]
theorem pageQuery (tag : Byte) (page : Byte) : Statement (.pageQuery tag page) := by
  intro t r h w
  simp only [requestOf, Option.some.injEq, Prod.mk.injEq] at h
  obtain ⟨rfl, rfl⟩ := h
  simp [requestPayload, word32Bytes, word16Bytes, payloadMax]
theorem panelQuery (tag : Byte) (lane : Byte) : Statement (.panelQuery tag lane) := by
  intro t r h w
  simp only [requestOf, Option.some.injEq, Prod.mk.injEq] at h
  obtain ⟨rfl, rfl⟩ := h
  simp [requestPayload, word32Bytes, word16Bytes, payloadMax]
theorem flagPanel (tag : Byte) (lane : Byte) (panelId : Word16) : Statement (.flagPanel tag lane panelId) := by
  intro t r h w
  simp only [requestOf, Option.some.injEq, Prod.mk.injEq] at h
  obtain ⟨rfl, rfl⟩ := h
  simp [requestPayload, word32Bytes, word16Bytes, payloadMax]
theorem zoneAdd (tag : Byte) (offset length : Word32) : Statement (.zoneAdd tag offset length) := by
  intro t r h w
  simp only [requestOf, Option.some.injEq, Prod.mk.injEq] at h
  obtain ⟨rfl, rfl⟩ := h
  simp [requestPayload, word32Bytes, word16Bytes, payloadMax]
theorem stationRelay (tag : Byte) (targetType target direction width : Byte) (index : Word16) (data : List Byte) : Statement (.stationRelay tag targetType target direction width index data) := by
  intro t r h w
  simp only [requestOf, Option.some.injEq, Prod.mk.injEq] at h
  obtain ⟨rfl, rfl⟩ := h
  simp only [Instr.wf] at w
  have : data.length ≤ 64 := by split at w <;> simp at w <;> omega
  simp only [requestPayload, word16Bytes, List.length_cons, List.length_append, List.length_nil, payloadMax]; omega
theorem frameLengthDiscard (length : Byte) : Statement (.frameLengthDiscard length) := by
  intro t r h; simp [requestOf] at h

end Sys2Proof.Laws.RequestFits
end

