-- ==== Sys2Proof/Laws/Station.lean ====
section
/-! SUPPORT. What an answer on the station link can give (R156), what is in flight after a transaction is sent (R168), and what the
judgement of the outfeed does at a guard (R127, R150). -/
set_option linter.all false
namespace Sys2Proof.Machine

/-- An answer is sound exactly when its check is the CRC over address, kind and payload and its address the request's (R156). -/
theorem answerSound_iff (t : Txn) (a : Answer) :
    answerSound t a = true ↔ a.check = crc16 (a.addr :: a.kind :: a.payload) ∧ a.addr.toNat = t.addr := by
  simp [answerSound, stationCheck]

/-- The kind of a NAK is never the kind of its request (R156). -/
theorem kindCode_ne_nak (k : TxnKind) : kindCode k + 0x80 ≠ kindCode k := by
  intro h
  have h' := congrArg (fun x => x - kindCode k) h
  simp [BitVec.add_comm] at h'

/-- A sound answer of the request's kind and of its length is an ACK with its payload (R156). -/
theorem judgeAnswer_ack (t : Txn) (a : Answer) (h : answerSound t a = true) (hk : a.kind = kindCode t.kind)
    (hp : ackPayloadOk t a.payload = true) : judgeAnswer t a = .ack a.payload := by
  simp [judgeAnswer, h, hk, hp]

/-- A sound answer of the request's kind plus 0x80 with one byte is a NAK with that code (R156). -/
theorem judgeAnswer_nak (t : Txn) (a : Answer) (c : Byte) (h : answerSound t a = true) (hk : a.kind = kindCode t.kind + 0x80)
    (hp : a.payload = [c]) : judgeAnswer t a = .nak c := by
  have := kindCode_ne_nak t.kind
  simp [judgeAnswer, h, hk, hp]

/-- An answer that is not sound, or of neither kind, is a failure (R156, log entry 9). -/
theorem judgeAnswer_bad (t : Txn) (a : Answer)
    (h : answerSound t a = false ∨ (a.kind ≠ kindCode t.kind ∧ a.kind ≠ kindCode t.kind + 0x80)) :
    judgeAnswer t a = .badAnswer := by
  rcases h with h | ⟨h1, h2⟩
  · simp [judgeAnswer, h]
  · simp only [judgeAnswer, if_neg h1, if_neg h2, ite_self]

/-- A transaction sent is in flight with REPLY_TIMEOUT as it stands (R168). -/
@[simp] theorem sendTxn_inFlight (t : Txn) (s : State) :
    (sendTxn t s).station.inFlight = some { t with timeout := (s.par .replyTimeout).toNat } := rfl

/-- An outfeed short of a guard it is not bounded to is bounded to it, with nothing to index and the starve flag clear (R150). -/
theorem judgeOutfeed_bounds (s : State) (g : Int) (he : s.headExecuting = false) (hs : s.motion.starve = false)
    (hi : s.indexable = none) (hg : s.guardStop = some g) (hx : s.outPos < g) (hb : s.motion.outfeed ≠ .bounded g) :
    judgeOutfeed s = sendDrive (.stopAt (g - s.outPos)) (.bounded g) s := by
  simp [judgeOutfeed, he, hs, hi, hg, hx, hb]

end Sys2Proof.Machine
end

