-- ==== Sys2Proof/Tests/Slice0.lean ====
section
/-! SUPPORT. Tests: the well-formedness checks, examples of the rules, small steps, and for every statement of
Certificates/Slice0 a state and operands that meet its hypotheses, clause by clause. -/
set_option Elab.async false
set_option linter.all false
namespace Sys2Proof.Machine

/-! ## Small states -/

/-- The state after a command. -/
def after (c : Instr) (s : State) : State :=
  match exec c s with
  | .next t => t
  | .fault _ => s
  | .refused _ => s

/-- Reset with another line state. -/
def lineAt (l : LineState) (s : State) : State := s.onMotion fun m => { m with line := l }

/-- The source of the test panel. -/
def src0 : Source := ⟨0, 0, 1⟩

/-- A panel context of lane 0. -/
def ctx0 (st : CtxState) : Ctx :=
  { panelId := 7, tag := 7, src := src0, nominal := 60000, lead := 0, pitch := 0, coded := false, synth := false,
    pauseAfter := true, state := st, startEntry := none, endEntry := some 0, startTarget := some 100, endTarget := some 20000,
    startActual := some 100, endActual := none, fEndLock := some 0, reasons := Reasons.empty, notes := Notes.empty }

/-- The end cut of that panel. -/
def cut0 (st : CutStatus) : Entry := ⟨20000, onePart .lane0 ⟨some src0, none⟩, st, 0, 0⟩

/-- A state with that panel and its end cut, in a line state. -/
def cutting (st : CutStatus) (l : LineState) : State :=
  ((lineAt l State.reset).onList .lane0 fun _ => [ctx0 .active]).onCuts fun c =>
    { c with entries := [cut0 st], nextOrder := 1, indexTimer := some 4000, cutTimer := some 3000 }

/-- The outfeed at a coordinate. -/
def outAt (x : Nat) (s : State) : State := s.onWeb fun w => { w with outfeed := { w.outfeed with coord := x } }

/-- A transaction in flight, so that the arbiter waits. -/
def busyLink (s : State) : State := s.onStation fun t => { t with inFlight := some ⟨9, .relay, .write, [], 0, 0⟩ }

/-- An eye in a decode state, its signal dark or light. -/
def eyeAt (d : Decode) (dark : Bool) (s : State) : State :=
  (s.onEye .lane0 fun e => { e with decode := d }).onPins fun p => { p with eyeDark := p.eyeDark.set .lane0 dark }

/-- Lane 0 in a registration state. -/
def regAt (st : RegState) (miss : Nat) (s : State) : State := s.onReg .lane0 fun r => { r with state := st, miss := miss }

/-- Page 0 in a state. -/
def pageAt (st : PageState) (s : State) : State := s.onPage 0 fun p => { p with state := st }

/-- The LAMINATOR and the BEAM present and ready. -/
def ready (s : State) : State :=
  s.onStation fun t =>
    { t with records := ⟨⟨.present, 0⟩, ⟨.present, 0⟩, ⟨.present, 0⟩, ⟨.present, 0⟩⟩,
             laminator := some ⟨true, .opened, 0, false⟩ }

/-- Channel 0 of the handoff with the test panel. -/
def offer (st : ChannelState) (s : State) : State :=
  (s.onList .lane0 fun _ => [ctx0 .delivering]).onChannel .lane0 fun _ => ⟨st, some (.lane0, src0), some 20, some 30, false⟩

theorem reset_params (s : State) (h : s.params = defaultParams) : ParamsLaw s := by
  unfold ParamsLaw State.par; rw [h]
  exact ⟨by intro p; cases p <;> decide +kernel, by decide +kernel⟩

/-! ## Well-formedness: an ill-formed command for each check -/

theorem test_wf_setup :
    (Instr.setup 1 []).wf = false ∧ (Instr.setup 1 (List.replicate 49 (1, 1))).wf = false
    ∧ (Instr.setup 1 (List.replicate 48 (1, 1))).wf = true := by decide +kernel
theorem test_wf_page_load :
    (Instr.pageLoad 1 0 0 []).wf = false ∧ (Instr.pageLoad 1 0 0 (List.replicate 15 (Vector.replicate 16 0))).wf = false
    ∧ (Instr.pageLoad 1 0 0 (List.replicate 14 (Vector.replicate 16 0))).wf = true := by decide +kernel
theorem test_wf_station_relay :
    (Instr.stationRelay 1 0 0 0 1 0 [1, 2]).wf = false ∧ (Instr.stationRelay 1 0 0 1 1 0 []).wf = false
    ∧ (Instr.stationRelay 1 0 0 1 1 0 (List.replicate 65 0)).wf = false ∧ (Instr.stationRelay 1 0 0 0 1 0 [64]).wf = true := by
  decide +kernel
theorem test_wf_bad_kind :
    (Instr.badKind 0x05 1 []).wf = false ∧ (Instr.badKind 0x55 1 (List.replicate 241 0)).wf = false
    ∧ (Instr.badKind 0x55 1 []).wf = true := by decide +kernel
theorem test_wf_frame_length_discard :
    (Instr.frameLengthDiscard 240).wf = false ∧ (Instr.frameLengthDiscard 241).wf = true := by decide +kernel
theorem test_wf_station_answer :
    (Instr.stationAnswer ⟨0, 1, [], 0⟩).wf = false ∧ (Instr.stationAnswer ⟨16, 1, [], 0⟩).wf = false
    ∧ (Instr.stationAnswer ⟨1, 1, List.replicate 17 0, 0⟩).wf = false
    ∧ (Instr.stationAnswer ⟨1, 1, List.replicate 16 0, 0⟩).wf = true := by decide +kernel

/-! ## Examples of the rules -/

/-- The CRC of the digits 1 to 9. -/
theorem test_crc : crc16 [0x31, 0x32, 0x33, 0x34, 0x35, 0x36, 0x37, 0x38, 0x39] = 0x29B1#16 := by decide +kernel
/-- R62: a correction of 262.5 becomes 263, and one of -262.5 becomes -263. -/
theorem test_round_half_away : roundDiv 262500000 1000000 = 263 ∧ roundDiv (-262500000) 1000000 = -263 := by decide +kernel
/-- R51: a code of all light cells fails parity in mode 1 and holds in mode 0. -/
theorem test_blank_code : parityHolds 1 (List.replicate 10 false) = false ∧ parityHolds 0 (List.replicate 10 false) = true := by
  decide +kernel
/-- R171: code 18 is range 1 with factor 2, 20 ms; code 47 the longest delay, 1500 ms. -/
theorem test_settle_delay : settleDelay 18 = 20 ∧ settleDelay 47 = 1500 ∧ settleDelay 15 = 15 := by decide +kernel
/-- R167: a write of 40 bytes with width 2 goes in chunks of 14, 14 and 12. -/
theorem test_relay_chunks :
    let r : Relay := ⟨1, 3, true, 2, 1000, List.replicate 40 0, 0, 0, []⟩
    (chunkTxn r).payload.length = 17 ∧ (r.acked []).index = 1014 ∧ ((r.acked []).acked []).index = 1028
    ∧ (((r.acked []).acked []).acked []).complete = true ∧ (((r.acked []).acked []).acked []).carried = 40 := by decide +kernel
/-- R20: END passes whatever its other bytes are; kinds outside 1 to 3 fail. -/
theorem test_record_kinds :
    recordOk #v[3, 9, 9, 9, 9, 9, 9, 9, 9, 9, 9, 9, 9, 9, 9, 9] = true ∧ recordOk (Vector.replicate 16 0) = false
    ∧ recordOk (Vector.replicate 16 4) = false := by decide +kernel
/-- R188: the bytes of a PANEL record for lane 0, ID 258, 60,000 long, lead 5,000, pitch 10,000, 2 copies, CODED. -/
theorem test_panel_record :
    parseRecord #v[1, 0, 1, 2, 0, 0, 0xEA, 0x60, 0, 0x13, 0x88, 0, 0x27, 0x10, 2, 1]
      = .panel ⟨0, 258, 60000, 5000, 10000, 2, true, false, false, false⟩
    ∧ recordOk #v[1, 0, 1, 2, 0, 0, 0xEA, 0x60, 0, 0x13, 0x88, 0, 0x27, 0x10, 2, 1] = true := by decide +kernel
/-- R188: the bytes of a LAYOUT record for two lanes. -/
theorem test_layout_record :
    parseRecord #v[2, 2, 0, 0x4E, 0x20, 0x03, 0xE8, 0x27, 0x10, 0, 0, 0, 0, 0x4E, 0x20, 5]
      = .layout ⟨2, 20000, 1000, 10000, 0, 0, 20000, 5⟩ := by decide +kernel

/-! ## Small steps -/

theorem test_thread : (after (.thread 1 200000) State.reset).motion.line = .ready
    ∧ (after (.thread 1 200000) State.reset).link.tx = some ⟨0x83, 1, [0]⟩ := by decide +kernel
theorem test_thread_out_of_range :
    (after (.thread 1 149999) State.reset).link.tx = some ⟨0x83, 1, [0x30, 0]⟩ := by decide +kernel
theorem test_forward_count : (after (.forwardCount .infeed) State.reset).web.infeed = ⟨1, 0, 0⟩ := by decide +kernel
theorem test_reverse_count : (after (.reverseCount .outfeed) State.reset).web.outfeed = ⟨0, 0, 1⟩ := by decide +kernel
theorem test_trip : (after (.tripInputAsserted .estop true) (lineAt .running State.reset)).motion.line = .tripped := by
  decide +kernel
theorem test_index_timeout : (after .indexTimeout (cutting .indexing .running)).cuts.entries = [cut0 .locked] := by
  decide +kernel
theorem test_in_position :
    (after .inPosition (outAt 19960 (cutting .indexing .running))).cuts.entries = [cut0 .cutting] := by decide +kernel
theorem test_creep :
    (after .inPosition (outAt 19940 (cutting .indexing .running))).cuts.entries
      = [{ cut0 .indexing with creeps := 1 }] := by decide +kernel
theorem test_traverse_end :
    (after .traverseEnd (outAt 20000 (cutting .cutting .running))).cuts.entries = []
    ∧ (after .traverseEnd (outAt 20000 (cutting .cutting .running))).motion.holds.planPause = true := by decide +kernel
theorem test_setup_cross_check :
    (after (.setup 1 [(8, 40), (9, 30)]) State.reset).link.tx = some ⟨0x82, 1, [0x30, 9]⟩ := by decide +kernel
theorem test_setup_clamped :
    (after (.setup 1 [(13, 5000)]) State.reset).link.tx = some ⟨0x82, 1, [1, 13]⟩
    ∧ (after (.setup 1 [(13, 5000)]) State.reset).par .markWin = 2000 := by decide +kernel
theorem test_page_load_and_arm :
    let s := after .frameSent (after (.pageLoad 1 0 0 [#v[3, 0, 0, 0, 0, 0, 0, 0, 0, 0, 0, 0, 0, 0, 0, 0]]) State.reset)
    (after (.pageArm 2 0) s).store.pages[0].state = .armed := by decide +kernel
theorem test_poll_due :
    (after (.pollDue .unwind) State.reset).station.inFlight = some ⟨3, .poll .unwind, .poll, [], 0, 5⟩ := by decide +kernel
/-- R156, R162: a good answer of the UNWIND, whose code is the model's free value. -/
theorem test_first_answer (a : Answer) (h : a.addr = 3) (hk : a.kind = kindCode .poll) (hp : a.payload = [7, 0])
    (hc : a.check = crc16 (a.addr :: a.kind :: a.payload)) :
    let t : Txn := ⟨3, .poll .unwind, .poll, [], 0, 5⟩
    judgeAnswer t a = .ack [7, 0]
    ∧ (takeOutcome t (.ack [7, 0]) (after (.pollDue .unwind) State.reset)).station.spliceRecord = some 7 :=
  ⟨hp ▸ judgeAnswer_ack _ a ((answerSound_iff _ a).mpr ⟨hc, by rw [h]; rfl⟩) hk (by rw [hp]; decide), by decide +kernel⟩
/-- R127, R150: an outfeed bounded to a point beyond the guard is bounded to the guard. -/
theorem test_bounded_again :
    let l : Layout := ⟨1, 0, 0, 0, 0, 0, 0, 4⟩
    let s := (lineAt .running State.reset).onBeam fun b => { b with changeover := .moving l 90000 }
    (∃ g, s.guardStop = some g
      ∧ (judgeOutfeed (s.onMotion fun m => { m with outfeed := .bounded (g + 500) })).motion.drive = some (.stopAt (g - s.outPos))
      ∧ (judgeOutfeed (s.onMotion fun m => { m with outfeed := .bounded g })).motion.drive = none) := by
  refine ⟨_, rfl, ?_, ?_⟩ <;> decide +kernel
theorem test_delay_expiry :
    (after (.delayTimerExpiry .lane0) (offer .settling State.reset)).hand.channels.l0.state = .offered := by decide +kernel
theorem test_accept :
    (after (.acceptChange .lane0 true) (offer .offered State.reset)).lists.l0 = [] := by decide +kernel
theorem test_handoff_timeout :
    (after (.handoffTimeout .lane0) (offer .offered (lineAt .ready State.reset))).motion.holds.handoffTimeout = true := by
  decide +kernel
theorem test_line_reset : (after (.lineReset 1) (cutting .cutting .running)).cuts = Cuts.cleared := by decide +kernel
theorem test_frame_bytes :
    (after (.lineFrameReceived (frameBytes ⟨5, 9, []⟩)) State.reset).link.tx = some ⟨0x85, 9, [0x20]⟩ := by decide +kernel
theorem test_bad_crc : after (.lineFrameReceived [0xC3, 0, 5, 9, 0, 0]) State.reset = State.reset := by decide +kernel

/-! ## States that meet the hypotheses of the statements, clause by clause -/

/-- A channel with given registers. -/
def webAt (e : Encoder) (c : Counter) (s : State) : State := s.onWeb fun w => w.set e c

/-- One parameter with another value. -/
def parAt (p : Param) (v : Int) (s : State) : State := { s with params := s.params.set (paramIndex p) v }

/-- A command at the front of the queue. -/
def waits : State := { State.reset with pending := [.frameSent] }

/-- Lane 0's panel, with its end cut as the queue's only entry. -/
abbrev cut1 (l : LineState) : State := cutting .cutting l

theorem test_witness_StepExecutesFrontCommand : waits.pending = .frameSent :: [] ∧ State.reset.pending = [] :=
  ⟨rfl, rfl⟩

theorem test_witness_ForwardCountScalesExactly :
    (let s := webAt .outfeed ⟨3999999999, 0, 0⟩ State.reset
     (s.web.get .outfeed).hold = 0 ∧ (s.ratio .outfeed).1 / (s.ratio .outfeed).2 = 1
     ∧ 3999999999 + (0 + (s.ratio .outfeed).1) / (s.ratio .outfeed).2 ≤ 4000000000)
    ∧ (let s := parAt .outScaleD 2 (webAt .outfeed ⟨4000000000, 0, 0⟩ State.reset)
       (s.web.get .outfeed).hold = 0 ∧ (0 + (s.ratio .outfeed).1) / (s.ratio .outfeed).2 = 0)
    ∧ WebLaw State.reset ∧ 0 < 3 ∧ 3999999990 + 15 * 2 / 3 ≤ 4000000000 :=
  ⟨by decide +kernel, by decide +kernel, ⟨reset_params _ rfl, by unfold CounterLaw; decide +kernel,
    by unfold CounterLaw; decide +kernel⟩, by decide, by decide⟩

theorem test_witness_HoldBackAndCeilingStopCounts_1 :
    (let s := webAt .infeed ⟨3999999999, 0, 1⟩ State.reset
     0 < (s.web.get .infeed).hold ∧ (s.web.get .infeed).hold = 1
     ∧ (s.web.get .infeed).coord + ((s.web.get .infeed).rem + (s.ratio .infeed).1) / (s.ratio .infeed).2 ≤ 4000000000)
    ∧ (let h (d : Decode) (dark held : Bool) : State :=
         (webAt .outfeed ⟨5, 0, 1⟩ (eyeAt d dark State.reset)).onEye .lane0 fun e => { e with held := held }
       let n : Lane := .lane0
       (h .watching true true).web.outfeed.hold = 1 ∧ (h .watching true true).pins.eyeDark.get n = ((h .watching true true).eyes.get n).held
       ∧ (h .watching true false).pins.eyeDark.get n = true ∧ ((h .watching true false).eyes.get n).held = false
       ∧ ((h .watching true false).eyes.get n).decode = .watching ∧ ((h .clearing true false).eyes.get n).decode ≠ .watching
       ∧ (h .clearing false true).pins.eyeDark.get n = false ∧ ((h .clearing false true).eyes.get n).held = true
       ∧ ((h (.inBar 3 false) false true).eyes.get n).decode = .inBar 3 false
       ∧ ((h (.inCode 3 false [] true) false true).eyes.get n).decode = .inCode 3 false [] true
       ∧ ((h .off false true).eyes.get n).decode = .off) := by
  decide +kernel

/-- R41: the edges taken as the hold-back returns to 0: a decode begun, a PITCH, a malformed bar, a START, a start bar judged. -/
theorem test_witness_HoldBackAndCeilingStopCounts_edges :
    let h (d : Decode) (dark : Bool) : State :=
      after (.forwardCount .outfeed) ((webAt .outfeed ⟨5, 0, 1⟩ (eyeAt d dark State.reset)).onEye .lane0 fun e => { e with held := !dark })
    let b := State.reset.beamPos + 5
    let short := State.reset.par .barShortMax
    let long := State.reset.par .barLongMin
    short + 1 < long ∧ ((h .watching true).eyes.get .lane0).decode = .inBar b false
    ∧ ((h .clearing true).eyes.get .lane0).decode = .clearing ∧ ((h .clearing false).eyes.get .lane0).decode = .watching
    ∧ (∀ len ∈ [short, short + 1, long], ((h (.inBar (b - len) false) false).eyes.get .lane0).decode = .watching
        ∧ (h (.inBar (b - len) false) false).link.tx.isSome = decide (len = short + 1))
    ∧ ((h (.inCode (b - short) false [] true) false).eyes.get .lane0).decode = .inCode (b - short) true [] true
    ∧ ((h (.inCode (b - short - 1) false [] true) false).eyes.get .lane0).decode = .inCode (b - short - 1) false [] true := by
  decide +kernel

theorem test_witness_HoldBackAndCeilingStopCounts_2 :
    (let s := webAt .infeed ⟨4000000000, 0, 0⟩ State.reset
     let u := lineAt .running s
     (s.web.get .infeed).hold = 0 ∧ 0 < ((s.web.get .infeed).rem + (s.ratio .infeed).1) / (s.ratio .infeed).2
     ∧ 4000000000 < (s.web.get .infeed).coord + ((s.web.get .infeed).rem + (s.ratio .infeed).1) / (s.ratio .infeed).2
     ∧ s.motion.line = .idle ∧ u.motion.line ≠ .idle)
    ∧ (let s := webAt .infeed ⟨3999999999, 0, 0⟩ State.reset
       (s.web.get .infeed).coord + ((s.web.get .infeed).rem + (s.ratio .infeed).1) / (s.ratio .infeed).2 = 4000000000) := by
  decide +kernel

theorem test_witness_ReverseCountRaisesHoldBack :
    ((webAt .infeed ⟨0, 0, 65534⟩ State.reset).web.get .infeed).hold < 65535
    ∧ ((webAt .infeed ⟨0, 0, 65535⟩ State.reset).web.get .infeed).hold = 65535 := by decide +kernel

/-- R41: the level an eye keeps as the outfeed's hold-back rises from 0, and neither at a later count nor at one of the infeed. -/
theorem test_witness_ReverseCountRaisesHoldBack_held :
    let s (h : Nat) := webAt .outfeed ⟨9, 0, h⟩ (eyeAt .watching true State.reset)
    let u (e : Encoder) (h : Nat) := after (.reverseCount e) (s h)
    LinkLaw (s 0) ∧ (u .outfeed 0).eyes.l0.held = true ∧ (u .outfeed 0).eyes.l1.held = false
    ∧ (u .outfeed 1).eyes = (s 1).eyes ∧ (u .infeed 0).eyes = (s 0).eyes ∧ (u .outfeed 0).web.outfeed = ⟨9, 0, 1⟩
    ∧ (after (.reverseCount .outfeed) (lineAt .running (s 65535))).motion.line = .tripped
    ∧ (u .outfeed 65535).motion.line = .idle := by
  unfold LinkLaw; decide +kernel

theorem test_witness_AdvanceJudgesContent :
    (∀ e ∈ [Encoder.infeed, .outfeed], ∀ l ∈ [LineState.ready, .running], ∀ b ∈ [Band.normal, .slowed, .stopped],
      let s := (lineAt l (webAt e ⟨3999999999, 0, 0⟩ State.reset)).onMotion fun m => { m with band := b }
      s.motion.line ≠ .idle ∧ (s.web.get e).hold = 0 ∧ s.motion.band = b
      ∧ 0 < ((s.web.get e).rem + (s.ratio e).1) / (s.ratio e).2
      ∧ (s.web.get e).coord + ((s.web.get e).rem + (s.ratio e).1) / (s.ratio e).2 ≤ 4000000000)
    ∧ (let h := State.reset.par .cHigh
       State.reset.par .cMin < State.reset.par .cLow ∧ State.reset.par .cLow < h ∧ h < State.reset.par .cMax
       ∧ ∀ d ∈ [(-1 : Int), 0],
         (webAt .infeed ⟨(h + d).toNat - 1, 0, 0⟩ State.reset).content + (1 : Nat) = h + d) := by decide +kernel

/-- R146, R157, R165: the speed changes with the nip OPEN, CLOSED, to STOPPED, and with room for two actions, for one, for none. -/
theorem test_witness_AdvanceJudgesContent_actions :
    let s (b : Band) (n : Nip) (v : Int) (k : Nat) : State :=
      ((lineAt .running State.reset).onMotion fun m => { m with band := b, nip := n, speed := v }).onStation fun t =>
        { t with actions := List.replicate k (.speed 3) }
    let run := State.reset.par .runSpeed
    State.reset.web.infeed.hold = 0 ∧ (s .normal .opened 0 14).motion.line ≠ .idle ∧ run ≠ 0
    ∧ (judgeContent (s .normal .opened 0 14)).station.actions = List.replicate 14 (.speed 3) ++ [.nip .closed, .speed run]
    ∧ (judgeContent (s .normal .closed 0 0)).station.actions = [.speed run]
    ∧ (judgeContent (s .normal .closed run 0)).station.actions = []
    ∧ (∀ k ∈ [15, 16], (judgeContent (s .normal .opened 0 k)).station.actions.length = 16
        ∧ (judgeContent (s .normal .opened 0 k)).motion.line = .holding
        ∧ (judgeContent (s .normal .opened 0 k)).motion.holds.station = true)
    ∧ (let u := webAt .infeed ⟨(State.reset.par .cHigh).toNat + 1, 0, 0⟩ (s .stopped .opened 0 0)
       (judgeContent u).motion.band = .stopped ∧ (judgeContent u).station.actions = []) := by decide +kernel

/-- An outfeed about to advance, with lane 0's eye in a decode state. -/
def scans (d : Decode) : State := webAt .outfeed ⟨20000, 0, 0⟩ (eyeAt d true (lineAt .running State.reset))

theorem test_witness_OutfeedAdvanceJudgesWeb :
    let b := (scans .watching).beamPos
    let g := (scans .watching).par .barShortMax
    let c := (scans .watching).par .cellPitch
    (scans .watching).web.outfeed.hold = 0
    ∧ 0 < (0 + ((scans .watching).ratio .outfeed).1) / ((scans .watching).ratio .outfeed).2
    ∧ 20000 + (0 + ((scans .watching).ratio .outfeed).1) / ((scans .watching).ratio .outfeed).2 ≤ 4000000000
    ∧ (∀ m ∈ [b - 10000, b - 9999], ((scans (.inBar m false)).eyes.get .lane0).decode = .inBar m false)
    ∧ (∀ m ∈ [b - g, b - g - 1, b - 4 * c - c.tdiv 2],
        ((scans (.inCode m false [true] false)).eyes.get .lane0).decode = .inCode m false [true] false)
    ∧ ([true] : List Bool).length < 10 ∧ 0 < c ∧ ¬(b - g + g < b) ∧ b - g - 1 + g < b
    ∧ (after (.forwardCount .outfeed) (scans (.inBar (b - 9999) false))).eyes.l0.decode = .clearing
    ∧ (after (.forwardCount .outfeed) (scans (.inBar (b - 9998) false))).eyes.l0.decode = .inBar (b - 9998) false := by
  decide +kernel

/-- Lane 0 with a pitch interval at x, INSPECT as given, and the test panel in a state. -/
def intervalAt (x : Int) (begun asserted : Bool) (st : CtxState) : State :=
  (((eyeAt (.inBar 5 false) true State.reset).onEye .lane0 fun e => { e with pitchInterval := some ⟨src0, x, begun⟩ }).onList .lane0
    fun _ => [ctx0 st]).onPins fun p => { p with inspect := p.inspect.set .lane0 asserted }

/-- The reason INSPECTION of lane 0's panels. -/
def inspected (s : State) : List Bool := (s.lists.get .lane0).map fun c => c.reasons.inspection

/-- R57: an interval at the points where it begins and ends, by INSPECT and by the state of its panel. -/
theorem test_witness_OutfeedAdvanceJudgesWeb_intervals :
    let b := State.reset.beamPos
    let w := State.reset.par .markWin
    let t (x : Int) (begun asserted : Bool) (st : CtxState) := advanceIntervals .lane0 (intervalAt x begun asserted st)
    (∀ x ∈ [b + w + 1, b + w, b - w, b - w - 1],
      ((t x false true .active).eyes.get .lane0).pitchInterval
        = (if x = b - w - 1 then none else some ⟨src0, x, decide (x ≤ b + w)⟩)
      ∧ inspected (t x false true .active) = [decide (b - w ≤ x ∧ x ≤ b + w)])
    ∧ inspected (t b true true .active) = [false] ∧ inspected (t b false false .active) = [false]
    ∧ inspected (t b false true .expected) = [true] ∧ inspected (t b false true .cut) = [false]
    ∧ inspected (t b false true .delivering) = [false]
    ∧ (∀ d ∈ [Decode.off, .clearing, .watching], ((scans d).eyes.get .lane0).decode = d) := by decide +kernel

theorem test_witness_LeadingEdgeStartsDecode :
    (let s := eyeAt .watching false State.reset
     s.pins.eyeDark.get .lane0 = false ∧ s.web.outfeed.hold = 0 ∧ (s.eyes.get .lane0).decode = .watching)
    ∧ 0 < (webAt .outfeed ⟨0, 0, 1⟩ (eyeAt .watching false State.reset)).web.outfeed.hold
    ∧ ((eyeAt .clearing false State.reset).eyes.get .lane0).decode ≠ .watching
    ∧ (eyeAt .clearing true State.reset).pins.eyeDark.get .lane0 = true := by decide +kernel

theorem test_witness_TrailingEdgeEndsBar :
    let m (k : Int) : State := eyeAt (.inBar (State.reset.beamPos - k) false) true State.reset
    let d (k : Int) (s : State) : Prop := s.beamPos - (State.reset.beamPos - k) ≤ s.par .barShortMax
    let l (k : Int) (s : State) : Prop := s.par .barLongMin ≤ s.beamPos - (State.reset.beamPos - k)
    (eyeAt .watching false State.reset).pins.eyeDark.get .lane0 = false
    ∧ 0 < (webAt .outfeed ⟨0, 0, 1⟩ (eyeAt .watching true State.reset)).web.outfeed.hold
    ∧ (m 300).pins.eyeDark.get .lane0 = true ∧ (m 300).web.outfeed.hold = 0
    ∧ d 300 (m 300) ∧ ¬d 301 (m 301) ∧ ¬l 301 (m 301) ∧ ¬d 599 (m 599) ∧ ¬l 599 (m 599) ∧ ¬d 600 (m 600) ∧ l 600 (m 600)
    ∧ ((eyeAt .clearing true State.reset).eyes.get .lane0).decode = .clearing
    ∧ ((eyeAt (.inCode 9 false [] true) true State.reset).eyes.get .lane0).decode = .inCode 9 false [] true
    ∧ ((eyeAt .off true State.reset).eyes.get .lane0).decode = .off := by decide +kernel

theorem test_witness_InspectAssertFlagsDecode :
    let s := (eyeAt (.inBar 5 false) true State.reset).onEye .lane0 fun e => { e with startInterval := some ⟨src0, 0, true⟩ }
    let u := s.onList .lane0 fun _ => [ctx0 .active]
    u.pins.inspect.get .lane0 = false ∧ (u.eyes.get .lane0).decode ≠ .off
    ∧ (u.eyes.get .lane0).startInterval = some ⟨src0, 0, true⟩ ∧ (u.ctx? .lane0 src0).isSome = true
    ∧ (State.reset.eyes.get .lane0).decode = .off := by decide +kernel

/-- R56, R86: the panel of a begun interval by its state, and one of an interval not yet begun. -/
theorem test_witness_InspectAssertFlagsDecode_states :
    let t (begun : Bool) (st : CtxState) := after (.inspectAssert .lane0 true) (intervalAt 0 begun false st)
    inspected (t true .active) = [true] ∧ inspected (t true .expected) = [true] ∧ inspected (t true .cut) = [false]
    ∧ inspected (t true .delivering) = [false] ∧ inspected (t false .active) = [false]
    ∧ (t false .active).eyes.l0.decode = .inBar 5 true := by decide +kernel

/-- Lane 0 registering: its registration record and its list. -/
def laneAs (r : LaneReg) (l : List Ctx) : State := (State.reset.onReg .lane0 fun _ => r).onList .lane0 fun _ => l

/-- A panel not yet started, 60,000 long with a pitch of 10,000, PRINTED or SYNTH. -/
def panelNew (synth : Bool) : Ctx :=
  { ctx0 .expected with pitch := 10000, synth := synth, startEntry := none, endEntry := none, startTarget := none,
                        endTarget := none, startActual := none, fEndLock := none }

/-- A lane in a state, with an anchor in the test panel, its last end and its expectations. -/
def reg1 (st : RegState) (offset : Int) (e : Option Int) (p : Option PitchExpect) (x : Option StartExpect) : LaneReg :=
  ⟨st, some ⟨1000, offset, true, src0⟩, 0, 0, some src0, e, p, x, none⟩

theorem test_witness_PredictionsAndExpectations :
    let b := State.reset.beamPos
    let w := State.reset.par .markWin
    let v := State.reset.par .searchWin
    let r (st : RegState) := reg1 st 0 (some (b - w)) (some ⟨1, b - w⟩) (some ⟨src0, b - w⟩)
    |predict 7 1 500000 - 8| = 1 ∧ predict 7 (-1) 500000 = 5
    ∧ (∀ c ∈ [panelNew false, panelNew true], ∀ o ∈ [(49999 : Int), 50000],
        let s := laneAs (reg1 .tracking o none none none) [c]
        (s.reg.get .lane0).anchor = some ⟨1000, o, true, src0⟩ ∧ (s.reg.get .lane0).current = some src0
        ∧ s.ctx? .lane0 src0 = some c ∧ c.pitch ≠ 0 ∧ (o + c.pitch < c.nominal ↔ o = 49999))
    ∧ (∀ c ∈ [panelNew false, panelNew true], ∀ e ∈ [b - w, b - w - 1],
        let s := laneAs (reg1 .tracking 0 (some e) none none) [c]
        (s.reg.get .lane0).state = .tracking ∧ (s.reg.get .lane0).start = none ∧ (s.reg.get .lane0).synth = none
        ∧ (s.reg.get .lane0).lastEnd = some e ∧ s.headExpected .lane0 = some c
        ∧ (predict e c.lead 0 + w < s.beamPos ↔ e = b - w - 1))
    ∧ (∀ st ∈ [RegState.tracking, .coasting, .lost], ∀ c ∈ [panelNew false, panelNew true],
        let s := laneAs (r st) [c]
        (s.reg.get .lane0).pitch = some ⟨1, b - w⟩ ∧ (s.reg.get .lane0).start = some ⟨src0, b - w⟩
        ∧ (s.reg.get .lane0).current = some src0 ∧ s.ctx? .lane0 src0 = some c
        ∧ s.beamPos ≤ b - w + w ∧ (outAt 1 s).beamPos = b + 1 ∧ b - w + w < b + 1 ∧ b + 1 ≤ b - w + v)
    ∧ (∀ st ∈ [RegState.tracking, .coasting, .lost],
        let s := laneAs (r st) []
        s.ctx? .lane0 src0 = none ∧ duePitch .lane0 s = none
        ∧ (duePitch .lane0 (outAt 1 s)).map (fun t => (t.reg.get .lane0).miss) = some (if st = .lost then 0 else 1))
    ∧ decodeMark (.inBar (b - 2 * w) false) = some (b - 2 * w) ∧ |(b - w) - (b - 2 * w)| ≤ w
    ∧ (let s := laneAs ⟨.seeking, none, 0, 0, none, none, none, none, none⟩ [panelNew true]
       (s.reg.get .lane0).state = .seeking ∧ s.headExpected .lane0 = some (panelNew true))
    ∧ (let s := laneAs ⟨.tracking, none, 0, 0, none, none, none, none, some ⟨src0, b - w⟩⟩ [panelNew true]
       (s.reg.get .lane0).synth = some ⟨src0, b - w⟩ ∧ s.ctx? .lane0 src0 = some (panelNew true)) := by decide +kernel

/-- R57, R63, R64, R70: an interval armed before, within and behind its bounds; what is due, and lanes in which nothing is. -/
theorem test_witness_PredictionsAndExpectations_due :
    let b := State.reset.beamPos
    let w := State.reset.par .markWin
    let s (st : CtxState) := (State.reset.onList .lane0 fun _ => [ctx0 st]).onPins fun p => { p with inspect := p.inspect.set .lane0 true }
    let arms (f : Lane → Source → Int → State → State) (x : Int) := inspected (f .lane0 src0 x (s .expected))
    let seeks := laneAs ⟨.seeking, none, 0, 0, none, none, none, none, none⟩ [panelNew true]
    let forms := laneAs (reg1 .tracking 0 (some b) none none) [panelNew false]
    let late := outAt 1 (laneAs (reg1 .tracking 0 (some b) (some ⟨1, b - w⟩) (some ⟨src0, b - w⟩)) [panelNew true])
    (∀ x ∈ [b + w + 1, b + w, b - w, b - w - 1],
      arms armStart x = [decide (b - w ≤ x ∧ x ≤ b + w)] ∧ arms armPitch x = [decide (b - w ≤ x ∧ x ≤ b + w)])
    ∧ inspected (armStart .lane0 src0 b (s .delivering)) = [false]
    ∧ (seekSynth .lane0 seeks).isSome = true ∧ (settleReg seeks).reg.l0.state = .tracking ∧ (dueNext (settleReg seeks)).isNone = true
    ∧ (dueForm .lane0 forms).isSome = true ∧ (settleReg forms).reg.l0.start = some ⟨src0, b⟩
    ∧ (duePitch .lane0 late).isSome = true ∧ (dueStart .lane0 late).isSome = true
    ∧ (settleReg late).reg.l0.anchor = some ⟨b - w, 0, false, src0⟩
    ∧ (dueNext State.reset).isNone = true ∧ State.reset.reg.l0.state = .unused ∧ State.reset.reg.l0.anchor = none
    ∧ (laneAs (reg1 .tracking 0 none none none) []).ctx? .lane0 src0 = none := by decide +kernel

theorem test_witness_LeadingEdgeStartsDecode_nextPanel :
    let b := State.reset.beamPos
    let w := State.reset.par .markWin
    let src1 : Source := ⟨0, 1, 1⟩
    let cur : Ctx := { ctx0 .active with pitch := 10000 }
    let nxt (synth : Bool) : Ctx := { panelNew synth with src := src1, coded := true }
    let s (st : RegState) (synth : Bool) := laneAs (reg1 st 0 none (some ⟨1, b⟩) (some ⟨src1, b + w⟩)) [cur, nxt synth]
    (laneAs (reg1 .seeking 0 none none none) [nxt false]).nextPanel .lane0 b = some src1
    ∧ ((s .blind false).nextPanel .lane0 b = none ∧ (laneAs (reg1 .tracking 0 none none none) [cur]).nextPanel .lane0 b = none)
    ∧ (laneAs (reg1 .lost 0 none none (some ⟨src1, b⟩)) [cur, nxt false]).nextPanel .lane0 (b + 9 * w) = some src1
    ∧ (laneAs (reg1 .coasting 0 none (some ⟨1, b⟩) none) [cur]).nextPanel .lane0 (b + 9 * w) = some src0
    -- both expectations: equally near, the pitch nearer, the start's window alone, and no window with the pitch lower
    ∧ (laneAs (reg1 .tracking 0 none (some ⟨1, b⟩) (some ⟨src1, b + 2⟩)) [cur, nxt false]).nextPanel .lane0 (b + 1) = some src1
    ∧ (s .tracking false).nextPanel .lane0 b = some src0 ∧ (s .tracking false).nextPanel .lane0 (b + 2 * w) = some src1
    ∧ (s .tracking false).nextPanel .lane0 (b + 2 * w + 1) = some src0 ∧ (s .tracking true).nextPanel .lane0 (b + 2 * w) = some src0
    ∧ (s .tracking false).codedFormat .lane0 (b + 2 * w) = true ∧ (s .tracking false).codedFormat .lane0 b = false := by
  decide +kernel

theorem test_witness_AcceptedMarksMovePanels :
    let b := State.reset.beamPos
    let w := State.reset.par .markWin
    let src1 : Source := ⟨0, 1, 1⟩
    let cur : Ctx := { ctx0 .active with pitch := 10000 }
    let nxt : Ctx := { panelNew false with src := src1 }
    let rec0 (k : MarkKind) (m : Int) : MarkRecord := ⟨m, true, k, none, false⟩
    let s := laneAs (reg1 .tracking 0 none (some ⟨1, b⟩) (some ⟨src1, b + w⟩)) [cur, nxt]
    following (s.reg.get .lane0).state = true ∧ s.ctx? .lane0 src1 = some nxt ∧ nxt.synth = false
    ∧ (s.reg.get .lane0).current = some src0 ∧ s.ctx? .lane0 src0 = some cur ∧ cur.synth = false
    ∧ (rec0 .start (b + w)).kind ≠ .pitch ∧ |b + w - b| ≤ w ∧ |b + w - (b + 2 * w)| ≤ w ∧ ¬|b - (b + 2 * w)| ≤ w
    ∧ |b + w - (b + w)| ≤ |b - (b + w)| ∧ |b - b| < |b + w - b|
    ∧ (laneAs (reg1 .seeking 0 none none none) [nxt]).headExpected .lane0 = some nxt
    ∧ (let u := laneAs (reg1 .tracking 0 none none none) [nxt]
       u.ctx? .lane0 nxt.src = some nxt ∧ nxt.endEntry = none ∧ u.sharedEntry .lane0 nxt.src = none ∧ (u.reg.get .lane0).miss ≤ 7)
    ∧ (let u : State := { s with cuts := (cutting .provisional .running).cuts }
       ∃ e, u.sharedEntry .lane0 nxt.src = some e ∧ e.parts.get .lane0 ≠ none)
    ∧ cur.endTarget ≠ none ∧ src1 ≠ cur.src ∧ (s.reg.get .lane0).anchor = some ⟨1000, 0, true, cur.src⟩ :=
  by refine ⟨?_, ?_, ?_, ?_, ?_, ?_, ?_, ?_, ?_, ?_, ?_, ?_, ?_, ?_, ⟨cut0 .provisional, ?_, ?_⟩, ?_, ?_, ?_⟩ <;> decide +kernel

/-- R55: a tag that differs, under both policies, in a line RUNNING and in one HELD. -/
theorem test_witness_AcceptedMarksMovePanels_tags :
    let p := { panelNew false with coded := true }
    let rec0 (t : Nat) : MarkRecord := ⟨0, true, .start, some t, false⟩
    let t (l : LineState) (policy : Int) (tag : Nat) :=
      startPanel .lane0 p 0 (.observed (rec0 tag)) false (parAt .tagPolicy policy (lineAt l (laneAs (reg1 .tracking 0 none none none) [p])))
    (∀ l ∈ [LineState.running, .held], (t l 1 8).motion.holds.tagMismatch = true ∧ (t l 0 8).motion.holds.tagMismatch = false
      ∧ (t l 1 7).motion.holds.tagMismatch = false)
    ∧ (t .running 1 8).motion.line = .holding ∧ (t .held 1 8).motion.line = .held := by decide +kernel

/-- R86: a pitch whose tag differs and whose window was inspected, by the state of its panel; R62, R77: where the reports go. -/
theorem test_witness_AcceptedMarksMovePanels_reports :
    let p (st : CtxState) := { ctx0 st with pitch := 10000, coded := true }
    let seen : MarkRecord := ⟨1000, true, .pitch, some 8, true⟩
    let t (st : CtxState) := takePitch .lane0 (p st) 1 1000 (.observed seen)
      (parAt .tagPolicy 1 (lineAt .running (laneAs (reg1 .tracking 0 none (some ⟨1, 1000⟩) none) [p st])))
    let reasons (u : State) := (u.lists.get .lane0).map fun c => (c.reasons.tag, c.reasons.inspection)
    let begun := startPanel .lane0 (panelNew false) 100000 .missed true (laneAs (reg1 .tracking 0 none none none) [panelNew false])
    reasons (t .active) = [(true, true)] ∧ reasons (t .expected) = [(false, true)] ∧ reasons (t .cut) = [(false, false)]
    ∧ reasons (t .delivering) = [(false, false)] ∧ (t .delivering).motion.holds.tagMismatch = true
    ∧ (p .cut).endTarget ≠ none ∧ begun.cuts.entries.map Entry.coord = [100000 + begun.par .startOffset, 160000]
    ∧ (takePitch .lane0 (p .active) 1 110000 .missed
        { cutting .provisional .running with reg := (laneAs (reg1 .tracking 0 none none none) []).reg }).cuts.entries.map Entry.coord
      = [160000] := by decide +kernel

theorem test_witness_StretchSampleFoldsIntoF :
    StretchLaw State.reset ∧ (parAt .stretchWeight 0 State.reset).par .stretchWeight = 0 :=
  ⟨⟨reset_params _ rfl, by intro n; cases n <;> decide +kernel⟩, by decide +kernel⟩

theorem test_witness_StrayAndMissedMarks :
    (let s := regAt .seeking 0 State.reset
     (s.reg.get .lane0).state = .seeking ∧ s.headExpected .lane0 = none)
    ∧ (let s := regAt .tracking 0 State.reset
       following (s.reg.get .lane0).state = true ∧ s.startEligible .lane0 ⟨0, false, .start, none, false⟩ = false
       ∧ s.pitchEligible .lane0 ⟨0, false, .start, none, false⟩ = false)
    ∧ (let s := laneAs (reg1 .tracking 0 none (some ⟨1, 0⟩) none) []
       s.startEligible .lane0 ⟨0, false, .pitch, none, false⟩ = false ∧ s.pitchEligible .lane0 ⟨0, false, .pitch, none, false⟩ = true
       ∧ (s.reg.get .lane0).current = some src0 ∧ s.ctx? .lane0 src0 = none)
    ∧ ((1 + 1 : Nat) : Int) ≤ State.reset.par .missLimit - 1 ∧ State.reset.par .missLimit ≤ ((2 + 1 : Nat) : Int)
    ∧ ((regAt .coasting 7 State.reset).reg.get .lane0).miss ≤ 7 := by decide +kernel


theorem test_witness_ZonesJoinOrAreLate :
    let s := lineAt .ready State.reset
    State.reset.motion.line = .idle ∧ s.motion.line ≠ .idle ∧ s.linkReady ∧ State.reset.linkReady
    ∧ (reportSplices 2 s).zones = [⟨s.inPos + s.par .filmPath - s.par .spliceLeadback,
        s.inPos + s.par .filmPath - s.par .spliceLeadback + s.par .spliceZoneLen, .splice⟩]
    ∧ -5000 + 20000 ≤ s.outPos + s.par .lockDist ∧ s.outPos + s.par .lockDist < -4999 + 20000
    ∧ (0#32).toNat < 1 ∧ 2000000 < (2000001#32).toNat ∧ (4000001#32).toInt > 4000000 ∧ (0xFFC2F6FF#32).toInt < -4000000
    ∧ s.inPos + (0#32).toInt + (15000#32).toNat ≤ s.outPos + s.par .lockDist
    ∧ s.outPos + s.par .lockDist < s.inPos + (0#32).toInt + (15001#32).toNat := by
  unfold State.linkReady; decide +kernel

/-- Eight zones, 1,000 apart. -/
def zones8 : List Zone := [⟨0, 10, .splice⟩, ⟨1000, 1010, .dwell⟩, ⟨2000, 2010, .dwell⟩, ⟨3000, 3010, .dwell⟩,
  ⟨4000, 4010, .dwell⟩, ⟨5000, 5010, .dwell⟩, ⟨6000, 6010, .dwell⟩, ⟨7000, 7010, .operator⟩]

theorem test_witness_PlacedZoneMerges :
    let s : State := { State.reset with zones := zones8 }
    let hit (lo hi : Int) := s.zones.filter (fun a => decide (lo ≤ a.hi ∧ a.lo ≤ hi))
    ZonesLaw State.reset ∧ State.reset.zones.length < 8 ∧ ZonesLaw s
    ∧ hit 10 1000 = [⟨0, 10, .splice⟩, ⟨1000, 1010, .dwell⟩] ∧ hit 11 999 = [] ∧ s.zones.length = 8 :=
  ⟨⟨reset_params _ rfl, by decide +kernel, trivial⟩, by decide +kernel,
    ⟨reset_params _ rfl, by decide +kernel, by simp only [zones8, ZonesOrdered]; decide +kernel⟩,
    by decide +kernel, by decide +kernel, by decide +kernel⟩

theorem test_witness_PanelReasonsAndResult :
    let c := ctx0 .active
    let d := { ctx0 .cut with endActual := some 20050 }
    let s : State := webAt .outfeed ⟨11, 0, 0⟩ { cutting .provisional .running with zones := zones8 }
    d.startTarget = some 100 ∧ d.startActual = some 100 ∧ d.endTarget = some 20000 ∧ d.endActual = some 20050
    ∧ c.startTarget = some 100 ∧ c.endTarget = some 20000 ∧ (100 : Int) < (⟨0, 101, .dwell⟩ : Zone).hi
    ∧ (⟨0, 101, .dwell⟩ : Zone).lo < 20000 ∧ (⟨0, 100, .dwell⟩ : Zone).hi ≤ 100 ∧ 20000 ≤ (⟨20000, 30000, .dwell⟩ : Zone).lo
    ∧ (removeZones s).zones = zones8.drop 1 ∧ c.state = .active ∧ c.startEntry = none ∧ c.endEntry = some 0
    ∧ (s.cuts.entries.find? (fun e => e.order == 0)).map Entry.status = some .provisional := by
  decide +kernel

/-- R86: INSPECTION and TAG by the state of the panel, with tags that differ and that agree. -/
theorem test_witness_PanelReasonsAndResult_states :
    let s (st : CtxState) := State.reset.onList .lane0 fun _ => [ctx0 st]
    let p := { ctx0 .active with coded := true }
    let tagged (u : State) := (u.lists.get .lane0).map fun c => c.reasons.tag
    (∀ st ∈ [CtxState.expected, .active, .cut, .delivering],
      inspected (giveInspection .lane0 src0 (s st)) = [decide (st = .expected ∨ st = .active)]
      ∧ tagged (compareTag .lane0 p ⟨0, true, .pitch, some 8, false⟩ (s st)) = [decide (st = .active)]
      ∧ tagged (compareTag .lane0 p ⟨0, true, .pitch, some 7, false⟩ (s st)) = [false])
    ∧ State.reset.par .tagPolicy ≠ 1 ∧ (parAt .tagPolicy 1 State.reset).par .tagPolicy = 1 := by decide +kernel

/-- Two panels of lane 0 and one of lane 1, each with its end cut: one LOCKED, two PROVISIONAL, the last within MERGE_WIN of the
second. -/
def queue3 : State :=
  (((lineAt .running State.reset).onList .lane0 fun _ => [ctx0 .active, { ctx0 .active with src := ⟨0, 1, 1⟩, endEntry := some 1 }]).onList
    .lane1 fun _ => [{ ctx0 .active with src := ⟨0, 2, 1⟩, endEntry := some 2 }]).onCuts fun c =>
  { c with entries := [cut0 .locked, ⟨30000, onePart .lane0 ⟨some ⟨0, 1, 1⟩, none⟩, .provisional, 0, 1⟩,
                       ⟨30050, onePart .lane1 ⟨some ⟨0, 2, 1⟩, none⟩, .provisional, 0, 2⟩], nextOrder := 3 }

theorem queue3_law : QueueLaw queue3 :=
  ⟨reset_params _ rfl, by simp only [queue3, State.onCuts, QueueOrdered]; decide +kernel, by decide +kernel, by decide +kernel⟩

theorem test_witness_ReportsPlaceEntries :
    let src1 : Source := ⟨0, 1, 1⟩
    let nxt : Ctx := { panelNew false with src := src1 }
    let s (st : CutStatus) : State := (cutting st .running).onList .lane0 fun _ => [ctx0 .active, nxt]
    (∀ st ∈ [CutStatus.provisional, .locked], (s st).sharedEntry .lane0 src1 = some (cut0 st)
      ∧ (s st).lists.get .lane0 = [] ++ ctx0 .active :: nxt :: [] ∧ nxt.lead = 0
      ∧ (s st).ctx? .lane0 src0 = some (ctx0 .active) ∧ (ctx0 .active).endEntry = some 0
      ∧ (s st).cuts.entries.find? (fun e => e.order == 0) = some (cut0 st))
    ∧ (s .locked).sharedEntry .lane0 src0 = none ∧ (s .locked).ctx? .lane0 src1 = some nxt ∧ nxt.endEntry = none
    ∧ (∀ c ∈ ((s .locked).lists.get .lane0).drop 1, c.src ≠ src0)
    ∧ 0 < ({ nxt with lead := 5000 } : Ctx).lead
    ∧ (let u := laneAs (reg1 .tracking 0 none none (some ⟨src1, 0⟩)) [ctx0 .active, nxt]
       (u.reg.get .lane0).start = some ⟨src1, 0⟩ ∧ u.ctx? .lane0 src1 = some nxt) := by decide +kernel

/-- R82, R102, R104: an END report for a panel already CUT creates no entry. -/
theorem test_witness_ReportsPlaceEntries_cut :
    let s (st : CtxState) : State := (lineAt .running State.reset).onList .lane0 fun _ => [{ ctx0 st with endEntry := none }]
    (∀ st ∈ [CtxState.cut, .delivering], (endReport .lane0 src0 50000 (s st)).cuts.entries = []
      ∧ ((endReport .lane0 src0 50000 (s st)).reg.get .lane0).lastEnd = some 20000)
    ∧ (endReport .lane0 src0 50000 (s .active)).cuts.entries.map Entry.coord = [50000] := by decide +kernel

theorem test_witness_EntriesLockAndMerge :
    let x : Entry := ⟨30000, onePart .lane0 ⟨some ⟨0, 1, 1⟩, none⟩, .provisional, 0, 1⟩
    let w : State := { queue3 with reader := .waiting }
    QueueLaw queue3 ∧ x ∈ queue3.cuts.entries ∧ x.status = .provisional
    ∧ (queue3.cuts.entries.filter fun e =>
        decide (e.order ≠ x.order ∧ e.status = .provisional ∧ e.coord ≤ x.coord + queue3.par .mergeWin)).map Entry.order = [2]
    ∧ (queue3.ctx? .lane1 ⟨0, 2, 1⟩).isSome = true ∧ (queue3.ctx? .lane0 ⟨0, 1, 1⟩).isSome = true
    ∧ QueueLaw w ∧ w.reader = .waiting ∧ (∀ c ∈ w.lists.get .lane0, c.state ≠ .expected) ∧ w.motion.line = .running
    ∧ queue3.reader ≠ .waiting
    ∧ (lockEntry x w).cuts.entries.map Entry.order = [0, 1] ∧ (lockEntry x w).motion.holds.planStarved = true := by
  refine ⟨queue3_law, ?_, ?_, ?_, ?_, ?_, queue3_law, ?_, ?_, ?_, ?_, ?_, ?_⟩ <;> decide +kernel

/-- R107: an entry one below the lock point's reach, and one at it. -/
theorem test_witness_EntriesLockAndMerge_lockPoint :
    let x : Entry := ⟨30000, onePart .lane0 ⟨some ⟨0, 1, 1⟩, none⟩, .provisional, 0, 1⟩
    let y : Entry := ⟨30050, onePart .lane1 ⟨some ⟨0, 2, 1⟩, none⟩, .provisional, 0, 2⟩
    let s (o : Nat) := outAt (30000 - (queue3.par .lockDist).toNat + o) queue3
    (s 0).cuts.entries = [cut0 .locked] ++ x :: [y] ∧ x.coord ≤ (s 0).lockPoint
    ∧ (∀ e ∈ [cut0 .locked], e.status = .provisional → (s 0).lockPoint < e.coord)
    ∧ (judgeLocks (s 0)).cuts.entries.map Entry.status = [.locked, .locked]
    ∧ (∀ e ∈ (webAt .outfeed ⟨14999, 0, 0⟩ queue3).cuts.entries, e.status = .provisional →
        (webAt .outfeed ⟨14999, 0, 0⟩ queue3).lockPoint < e.coord) := by decide +kernel

theorem test_witness_PlacedEntryStandsBehindFixed :
    let e (x : Int) : Entry := ⟨x, onePart .lane0 ⟨some ⟨0, 1, 1⟩, none⟩, .provisional, 0, 7⟩
    QueueLaw queue3 ∧ (e 20000).status = .provisional ∧ (∀ a ∈ queue3.cuts.entries, a.order ≠ (e 20000).order)
    ∧ (∃ a ∈ queue3.cuts.entries, a.status ≠ .provisional ∧ (e 20000).coord ≤ a.coord)
    ∧ (∀ a ∈ queue3.cuts.entries, a.status ≠ .provisional → a.coord < (e 20001).coord)
    ∧ (e 20000).parts.get .lane0 = some ⟨some ⟨0, 1, 1⟩, none⟩ ∧ (queue3.ctx? .lane0 ⟨0, 1, 1⟩).isSome = true
    ∧ (placeEntry (e 20000) queue3).cuts.entries.map (fun a => (a.coord, a.order)) = [(20000, 0), (20001, 7), (30000, 1), (30050, 2)] := by
  refine ⟨queue3_law, ?_, ?_, ?_, ?_, ?_, ?_, ?_⟩ <;> decide +kernel

theorem test_witness_InPositionCreepsOrPositions :
    let s := cutting .indexing .running
    s.cuts.entries = [cut0 .indexing] ∧ (cut0 .indexing).status = .indexing ∧ s.motion.outfeed ≠ .free
    ∧ (outAt 19949 s).outPos < (cut0 .indexing).coord - s.par .cutTol ∧ ((cut0 .indexing).creeps : Int) < s.par .creepMax
    ∧ (cut0 .indexing).coord - s.par .cutTol ≤ (outAt 19950 s).outPos
    ∧ s.par .creepMax ≤ (({ cut0 .indexing with creeps := 2 } : Entry).creeps : Int)
    ∧ s.motion.line = .running ∧ s.lanesClear (cut0 .indexing) = true ∧ (s.ctx? .lane0 src0).isSome = true
    ∧ (cutting .locked .running).cuts.entries = [cut0 .locked] ∧ (cut0 .locked).status ≠ .indexing
    ∧ State.reset.cuts.entries = [] := by decide +kernel

/-- The outfeed under a guard whose stop point lies d before it, with a motion state, a head and a line state. -/
def guarded (d : Int) (o : Outfeed) (st : CutStatus) (l : LineState) : State :=
  ((cutting st l).onBeam fun b => { b with changeover := .failed ⟨1, 0, 0, 0, 0, 0, 0, 4⟩ ((cutting st l).beamPos + d) }).onMotion
    fun m => { m with outfeed := o }

/-- R112, R127, R150: a state for each case, at the outfeed's own coordinate, where the cases meet. -/
theorem test_witness_OutfeedIsJudged :
    let x := State.reset.outPos
    let head (c : Int) (s : State) : State := s.onHead fun e => { e with coord := c }
    let g (d : Int) (o : Outfeed) := guarded d o .provisional .running
    let sent (s : State) := ((judgeOutfeed s).motion.drive, (judgeOutfeed s).motion.outfeed)
    sent (g 0 .free) = (some .halt, .halting) ∧ sent (g 1 .free) = (some (.stopAt 1), .bounded (x + 1))
    ∧ sent (g 0 (.bounded x)) = (none, .bounded x) ∧ sent (g 0 (.bounded (x + 1))) = (some .halt, .halting)
    ∧ sent (g 0 .stopped) = (none, .stopped) ∧ sent (g 1 (.bounded (x + 1))) = (none, .bounded (x + 1))
    ∧ sent ((g 1 .free).onMotion fun m => { m with starve := true }) = (some .halt, .halting)
    ∧ sent ((g 1 .stopped).onMotion fun m => { m with starve := true }) = (none, .stopped)
    ∧ sent (guarded 1 .stopped .positioned .running) = (none, .stopped)
    ∧ sent (head (x + 1) (guarded 1 .free .locked .running)) = (some (.stopAt 1), .indexed)
    ∧ sent (head (x + 2) (guarded 1 .stopped .locked .running)) = (some (.stopAt 1), .bounded (x + 1))
    ∧ sent (head x (guarded (-1) .stopped .locked .running)) = (some (.stopAt 0), .indexed)
    ∧ sent (head (x + 1) (guarded (-1) .stopped .locked .running)) = (none, .stopped)
    ∧ sent (lineAt .running State.reset) = (some (.run (State.reset.par .outSpeed)), .free)
    ∧ (let h := head (x + 1) (guarded 1 .halting .locked .holding)
       (judgeHolding true false h).motion.outfeed = .indexed ∧ (judgeHolding false true h).motion.outfeed = .indexed
       ∧ judgeHolding false false h = h)
    ∧ (judgeHolding true false (guarded 1 .free .provisional .holding)).motion.drive = some .halt
    ∧ (∀ l ∈ [LineState.running, .holding, .ready], (guarded 1 .free .provisional l).motion.line = l)
    ∧ reactMotion (g 0 .stopped) (g 0 .stopped) = g 0 .stopped ∧ (g 0 .free).motion.outfeed ≠ .stopped := by decide +kernel

theorem test_witness_TraverseEndRecordsCut :
    let s := cutting .cutting .running
    let z := parAt .handoffMode0 0 s
    QueueLaw s ∧ s.cuts.entries = [cut0 .cutting] ∧ s.motion.line ≠ .idle ∧ s.pauses (cut0 .cutting) = true
    ∧ (∀ n ∈ laneList, s.effMode n ≠ 0) ∧ (cut0 .cutting).parts.get .lane0 = some ⟨some src0, none⟩
    ∧ z.cuts.entries = [cut0 .cutting] ∧ z.effMode .lane0 = 0 ∧ z.reader = .inactive :=
  ⟨⟨reset_params _ rfl, trivial, by decide +kernel, by decide +kernel⟩, by decide +kernel, by decide +kernel, by decide +kernel,
    by decide +kernel, by decide +kernel, by decide +kernel, by decide +kernel, by decide +kernel⟩

/-- R172, R177: how the handoff begins in PULSE, in ACK with and without a settle delay, and in ganged mode. -/
theorem test_witness_TraverseEndRecordsCut_handoff :
    let s := cutting .cutting .running
    let g := parAt .handoffGanged 1 s
    let busy := g.onChannel .lane0 fun c => { c with state := .offered }
    let hand (s : State) := (takeEnd (cut0 .cutting) s).hand
    let began (s : State) := (hand s).channels.get .lane0
    let o := some (Lane.lane0, src0)
    let t := some (s.par .handoffTimeout).toNat
    (s.ctx? .lane0 src0).isSome = true ∧ s.par .handoffGanged ≠ 1 ∧ g.par .handoffGanged = 1 ∧ g.effMode .lane0 ≠ 0
    ∧ began s = ⟨.settling, o, some 20, none, false⟩
    ∧ began (parAt .handoffTd0 0 s) = ⟨.offered, o, none, t, false⟩
    ∧ began (parAt .handoffMode0 1 s) = ⟨.pulsing, o, some 20, t, false⟩
    ∧ hand (parAt .handoffMode0 0 s) = s.hand ∧ (hand s).channels.get .lane1 = s.hand.channels.get .lane1
    ∧ g.hand.channels.l0.state = .idle ∧ g.hand.waiting = [] ∧ began g = ⟨.settling, o, some 20, none, false⟩
    ∧ busy.hand.channels.l0.state ≠ .idle ∧ (hand busy).waiting = [(.lane0, src0)]
    ∧ hand (parAt .handoffMode0 0 g) = g.hand := by decide +kernel

theorem test_witness_UnaskedEventsChangeNothing :
    let s := State.reset
    (s.onPins fun p => { p with driveFault := true }).pins.input .driveFault = true ∧ s.station.inFlight = none
    ∧ s.cuts.entries = [] ∧ (cutting .locked .running).cuts.entries = [cut0 .locked] ∧ s.cuts.indexTimer = none
    ∧ s.cuts.cutTimer = none ∧ s.beam.timer = none ∧ s.dwellRunning = false ∧ (s.hand.channels.get .lane0).delay = none
    ∧ (s.hand.channels.get .lane0).timer = none := by decide +kernel

theorem test_witness_TripCausesTripTheLine :
    (cut1 .running).tripRaised .indexTimeout = some .indexTimeout ∧ (cut1 .idle).tripRaised .cutTimeout = some .knifeTimeout
    ∧ (cut1 .tripped).tripRaised (.tripInputAsserted .dancerTop true) = some .dancerTop
    ∧ (cut1 .running).motion.line ≠ .idle ∧ (cut1 .running).motion.line ≠ .tripped ∧ (cut1 .idle).motion.line = .idle
    ∧ (cut1 .tripped).motion.line = .tripped := by decide +kernel

/-- R146: a speed to be taken back, with room for its action. -/
theorem test_witness_speed_actions :
    let s := busyLink ((lineAt .running State.reset).onMotion fun m => { m with speed := 100 })
    s.linkReady ∧ s.station.inFlight ≠ none ∧ s.motion.speed ≠ 0 ∧ s.station.actions.length < 16
    ∧ (after (.tripInputAsserted .estop true) s).station.actions = [.speed 0] ∧ (after (.hold 1) s).station.actions = [.speed 0]
    ∧ (after (.run 1) (busyLink (ready (lineAt .ready State.reset)))).station.actions = [.nip .closed, .speed (s.par .runSpeed)] := by
  unfold State.linkReady; decide +kernel

/-- The dwell timer runs: the nip closed at speed 0. -/
def dwells : State := busyLink ((lineAt .ready State.reset).onMotion fun m => { m with nip := .closed })

theorem test_witness_DwellExpiryOpensNip :
    dwells.dwellRunning = true ∧ dwells.station.inFlight.isSome = true ∧ dwells.station.actions.length < 16 := by decide +kernel

theorem test_witness_HoldAndRecoverChangeTheSets_1 :
    (lineAt .ready State.reset).linkReady ∧ (lineAt .ready State.reset).motion.line = .ready
    ∧ (lineAt .running State.reset).linkReady ∧ (lineAt .running State.reset).motion.line = .running
    ∧ (lineAt .held State.reset).linkReady ∧ (lineAt .held State.reset).motion.line = .held := by
  unfold State.linkReady; decide +kernel

theorem test_witness_RunAndResumeEnterRunning :
    let s := ready (lineAt .ready State.reset)
    let h := ready (lineAt .held State.reset)
    s.linkReady ∧ s.motion.line = .ready ∧ s.station.records.beam.state = .present ∧ s.station.records.laminator.state = .present
    ∧ s.station.laminator = some ⟨true, .opened, 0, false⟩ ∧ s.motion.jobEnd = false ∧ h.linkReady ∧ h.motion.line = .held
    ∧ (lineAt .ready State.reset).linkReady ∧ (lineAt .ready State.reset).station.records.beam.state ≠ .present
    ∧ (lineAt .held State.reset).linkReady ∧ (lineAt .held State.reset).station.records.laminator.state ≠ .present
    ∧ State.reset.motion.line ≠ .ready ∧ State.reset.motion.line ≠ .held
    ∧ (s.onPins fun p => { p with dancerTop := true }).pins.input .dancerTop = true
    ∧ ∀ i ∈ [TripInput.estop, .dancerTop, .dancerBottom, .driveFault], s.pins.input i = false := by
  unfold State.linkReady; decide +kernel

theorem test_witness_HoldAndRecoverChangeTheSets_2 :
    let s := lineAt .tripped State.reset
    let j := s.onMotion fun m => { m with jobEnd := true }
    s.linkReady ∧ s.motion.line = .tripped ∧ s.motion.jobEnd = false ∧ j.linkReady ∧ j.motion.jobEnd = true
    ∧ ¬(s.pins.estopOpen = true ∨ s.pins.dancerTop = true ∨ s.pins.dancerBottom = true)
    ∧ (s.onPins fun p => { p with estopOpen := true }).pins.estopOpen = true ∧ State.reset.motion.line ≠ .tripped := by
  unfold State.linkReady; decide +kernel

/-- R119, R131: an INTERRUPTED and a POSITIONED head, and a FAILED changeover, at the entry into RUNNING. -/
theorem test_witness_RunAndResumeEnterRunning_R119_R131 :
    let h (st : CutStatus) := ready (lineAt .held (cutting st .held))
    let b := (h .positioned).onPins fun p => { p with busy := Lanes.same true }
    let f := (busyLink (h .locked)).onBeam fun b => { b with changeover := .failed ⟨1, 0, 0, 0, 0, 0, 0, 4⟩ 500 }
    (∀ st ∈ [CutStatus.interrupted, .positioned], (h st).cuts.entries = [cut0 st] ∧ (after (.resume 1) (h st)).motion.line = .running
      ∧ (after (.resume 1) (h st)).cuts.entries = [cut0 .cutting])
    ∧ (h .interrupted).linkReady ∧ ((after (.resume 1) (h .interrupted)).ctx? .lane0 src0).any (fun c => c.notes.recut) = true
    ∧ (h .positioned).lanesClear (cut0 .positioned) = true ∧ b.lanesClear (cut0 .positioned) = false
    ∧ (after (.resume 1) b).motion.line = .running ∧ (after (.resume 1) b).cuts.entries = [cut0 .positioned]
    ∧ f.linkReady ∧ f.station.inFlight ≠ none ∧ f.station.actions.length ≤ 13
    ∧ (f.onStation fun t => { t with actions := List.replicate 13 (.speed 3) }).station.actions.length = 13
    ∧ (after (.resume 1) f).motion.line = .running
    ∧ (after (.resume 1) f).beam.changeover = .moving ⟨1, 0, 0, 0, 0, 0, 0, 4⟩ 500 := by
  unfold State.linkReady; decide +kernel

/-- A HOLDING line at rest, with or without the job-end flag. -/
def atRest (jobEnd : Bool) : State :=
  ready ((lineAt .holding (outAt 20000 (cutting .locked .holding))).onMotion fun m => { m with jobEnd := jobEnd })

theorem test_witness_HoldingEndsInHeldOrIdle :
    (∀ j ∈ [false, true], (atRest j).motion.outfeed = .stopped ∧ (∀ e ∈ (atRest j).cuts.entries, e.status ≠ .cutting ∧ e.status ≠ .indexing)
      ∧ (atRest j).motion.speed = 0 ∧ (atRest j).motion.jobEnd = j ∧ (atRest j).station.laminator = some ⟨true, .opened, 0, false⟩
      ∧ (atRest j).motion.line = .holding ∧ (atRest j).station.actions.length < 16)
    ∧ ((atRest true).onStation fun t => { t with actions := List.replicate 16 (.speed 3) }).station.actions.length = 16
    ∧ (lineAt .holding State.reset).station.records.laminator.state ≠ .present
    ∧ (endHolding (atRest true)).motion.line = .idle ∧ (endHolding (atRest false)).motion.line = .held
    ∧ (let s := (atRest false).onMotion fun m => { m with outfeed := .halting }
       endHolding s = s ∧ s.motion.outfeed ≠ .free ∧ (after .inPosition s).motion.line = .held)
    ∧ (after .inPosition (atRest true)).motion.line = .idle := by decide +kernel

/-- R152: the job-end signal in every line state, with room for the speed action and without. -/
theorem test_witness_HoldingEndsInHeldOrIdle_signal :
    let s (l : LineState) (k : Nat) : State :=
      ((lineAt l State.reset).onMotion fun m => { m with speed := 100 }).onStation fun t => { t with actions := List.replicate k (.speed 3) }
    (∀ l ∈ [LineState.ready, .running, .held], (signalJobEnd (s l 15)).motion.line = .holding
      ∧ (signalJobEnd (s l 15)).station.actions = List.replicate 15 (.speed 3) ++ [.speed 0]
      ∧ (signalJobEnd (s l 16)).motion.holds.station = true)
    ∧ (∀ l ∈ [LineState.holding, .tripped], (signalJobEnd (s l 0)).motion.line = l ∧ (signalJobEnd (s l 0)).motion.jobEnd = true)
    ∧ signalJobEnd (s .idle 0) = s .idle 0 := by decide +kernel

theorem test_witness_LineResetClearsTheJob :
    let z := parAt .roleAddrLaminator 0 State.reset
    (busyLink State.reset).linkReady ∧ (busyLink State.reset).station.inFlight.isSome = true ∧ State.reset.linkReady
    ∧ State.reset.station.inFlight = none ∧ State.reset.roleAddr .laminator ≠ 0
    ∧ z.linkReady ∧ z.station.inFlight = none ∧ z.roleAddr .laminator = 0 ∧ z.station.due = []
    ∧ (z.onStation fun t => { t with due := [.trim] }).station.due = .trim :: [] := by
  unfold State.linkReady; decide +kernel

theorem test_witness_ThreadStartsTheJob :
    let s := State.reset
    s.linkReady ∧ s.motion.line = .idle ∧ (lineAt .ready s).motion.line ≠ .idle
    ∧ ((149999#32).toNat : Int) < s.par .cMin ∧ s.par .cMax < ((550001#32).toNat : Int)
    ∧ s.par .cMin ≤ ((150000#32).toNat : Int) ∧ ((550000#32).toNat : Int) ≤ s.par .cMax
    ∧ (s.onPins fun p => { p with estopOpen := true }).pins.input .estop = true := by
  unfold State.linkReady; decide +kernel

/-- A changeover on the move, its timer running. -/
def moves : State := (lineAt .running State.reset).onBeam fun b =>
  { b with changeover := .moving ⟨1, 0, 0, 0, 0, 0, 0, 4⟩ 500, timer := some 20000 }

theorem test_witness_ChangeoverTriggersAndFails :
    let l : Layout := ⟨1, 20000, 0, 0, 0, 0, 0, 4⟩
    let p := (lineAt .running State.reset).onBeam fun b => { b with changeover := .pending l }
    let b := p.beamPos
    let full : State := p.onStation fun t => { t with actions := List.replicate 16 (.nip .opened) }
    let e (x : Int) : State := p.onReg .lane0 fun r => { r with state := .tracking, lastEnd := some x }
    p.beam.changeover = .pending l ∧ (∀ n ∈ laneList, p.lists.get n = []) ∧ p.motion.line ≠ .tripped
    ∧ (∀ n ∈ laneList, (p.reg.get n).lastEnd = none)
    ∧ ((e b).reg.get .lane0).lastEnd = some b ∧ ((e (b + 1)).reg.get .lane0).lastEnd = some (b + 1) ∧ ¬b + 1 ≤ (e (b + 1)).beamPos
    ∧ (p.onList .lane0 fun _ => [ctx0 .expected]).lists.get .lane0 = [ctx0 .expected] ∧ (ctx0 .expected).state = .expected
    ∧ p.station.actions.length < 16 ∧ 16 ≤ full.station.actions.length
    ∧ (judgeTrigger (e b)).beam.changeover = .moving l (b + 20000 - 2 * p.par .markWin) ∧ judgeTrigger (e (b + 1)) = e (b + 1)
    ∧ State.reset.beam.changeover = .none
    ∧ moves.beam.timer ≠ none ∧ moves.beam.changeover = .moving ⟨1, 0, 0, 0, 0, 0, 0, 4⟩ 500 ∧ moves.motion.line ≠ .idle := by
  decide +kernel

theorem test_witness_PollFallsDue :
    let a := parAt .roleAddrTrim 0 State.reset
    let w : State := (busyLink State.reset).onStation fun t => { t with due := [.trim] }
    a.roleAddr .trim = 0 ∧ (busyLink a).roleAddr .trim = 0 ∧ (busyLink a).station.inFlight ≠ none
    ∧ w.roleAddr .trim ≠ 0 ∧ w.station.inFlight ≠ none ∧ Role.trim ∈ w.station.due ∧ Role.beam ∉ w.station.due
    ∧ State.reset.station.inFlight = none ∧ State.reset.station.actions = [] ∧ State.reset.station.due = []
    ∧ State.reset.motion.line ≠ .holding ∧ State.reset.beam.changeover = .none
    ∧ a.station.inFlight = none ∧ (lineAt .holding State.reset).motion.line = .holding
    ∧ (lineAt .holding State.reset).station.inFlight = none := by decide +kernel

/-- A poll of a role in flight. -/
def polled (r : Role) (s : State) : State := s.onStation fun t => { t with inFlight := some ⟨s.roleAddr r, .poll r, .poll, [], 0, 5⟩ }

theorem test_witness_StationOutcomeFeedsWatchdog :
    let s := polled .trim State.reset
    let x : Txn := ⟨4, .poll .trim, .poll, [], 0, 5⟩
    (s.station.inFlight = some x ∧ s.roleAt x.addr = some .trim ∧ s.link.requests = []
      ∧ (s.station.records.get .trim).state ≠ .absent ∧ ackPayloadOk x [0] = true ∧ ackPayloadOk x [0, 0] = false
      ∧ (let y : Txn := ⟨4, .relay, .read, [], 1, 5⟩
         let u : State := State.reset.onStation fun t => { t with inFlight := some y }
         u.station.inFlight = some y ∧ u.roleAt y.addr = some .trim ∧ y.kind ≠ .poll))
    ∧ (∀ k p, ∃ a : Answer, a.kind = k ∧ a.payload = p ∧ a.check = crc16 (a.addr :: a.kind :: a.payload) ∧ a.addr.toNat = x.addr)
    ∧ ∃ a : Answer, a.check ≠ crc16 (a.addr :: a.kind :: a.payload) ∧ a.addr.toNat = x.addr :=
  ⟨by decide +kernel, fun k p => ⟨⟨4, k, p, crc16 (4 :: k :: p)⟩, rfl, rfl, rfl, rfl⟩, ⟨4, 0, [], 0⟩, by decide +kernel, rfl⟩

/-- R164: the loss of each role, in a line RUNNING and in one that is not, in MOVING and out of it. -/
theorem test_witness_StationOutcomeFeedsWatchdog_loss :
    let w := (State.reset.par .stationWatchdog).toNat
    let s (r : Role) (u : State) : State := u.onStation fun t => { t with records := t.records.set r ⟨.present, w - 1⟩, spliceRecord := some 3 }
    (∀ r ∈ roleList, ((s r moves).station.records.get r).state = .present ∧ w ≤ ((s r moves).station.records.get r).failures + 1
      ∧ ((failedOutcome r (s r moves)).station.records.get r) = ⟨.lost, w⟩)
    ∧ (∀ r ∈ [Role.laminator, .trim], (failedOutcome r (s r moves)).motion.line = .holding
        ∧ (failedOutcome r (s r State.reset)).motion = State.reset.motion)
    ∧ (failedOutcome .beam (s .beam moves)).motion.holds.beam = true ∧ State.reset.beam.changeover = .none
    ∧ (failedOutcome .unwind (s .unwind moves)).station.spliceRecord = none := by decide +kernel

theorem test_witness_PollAnswersUpdateStatus :
    (∀ r ∈ roleList, let s := polled r moves
      s.station.inFlight = some ⟨s.roleAddr r, .poll r, .poll, [], 0, 5⟩ ∧ s.roleAt (s.roleAddr r) = some r ∧ s.link.requests = []
      ∧ (byteOf (s.roleAddr r)).toNat = s.roleAddr r)
    ∧ (∀ (b : Byte) p, ∃ a : Answer, a.addr = b ∧ a.kind = kindCode .poll ∧ a.payload = p
        ∧ a.check = crc16 (a.addr :: a.kind :: a.payload))
    ∧ ((parseLaminator [0, 0, 0, 100, 1]).isSome = true ∧ parseBeam [2] = some .done ∧ parseBeam [3] = some .fault
    ∧ parseUnwind [255, 0] = some ⟨255, false⟩ ∧ parseTrim [1] = some .broken ∧ moves.motion.line = .running
    ∧ moves.beam.timer ≠ none ∧ moves.station.spliceRecord = none
    ∧ (moves.onStation fun t => { t with spliceRecord := some 255 }).station.spliceRecord = some 255) :=
  ⟨by decide +kernel, fun b p => ⟨⟨b, kindCode .poll, p, crc16 (b :: kindCode .poll :: p)⟩, rfl, rfl, rfl, rfl⟩, by decide +kernel⟩

/-- R129, R160, R162: the further cases of a poll answer. -/
theorem test_witness_PollAnswersUpdateStatus_more :
    let nip := (polled .laminator moves).onMotion fun m => { m with nip := .closed }
    let lost := (polled .unwind moves).onStation fun t => { t with records := t.records.set .unwind ⟨.lost, 3⟩ }
    parseLaminator [1, 0, 0, 0, 0] = some ⟨true, .opened, 0, false⟩ ∧ nip.motion.nip = .closed ∧ nip.station.actions = []
    ∧ nip.motion.line = .running
    ∧ parseBeam [0] = some .idle ∧ parseBeam [1] = some .moving ∧ (moves.onBeam fun b => { b with timer := none }).beam.timer = none
    ∧ (∀ n ∈ laneList, laneNum n < 1 ∨ 1 ≤ laneNum n) ∧ moves.motion.line ≠ .idle ∧ (moves.eyes.get .lane0).decode = .off
    ∧ moves.link.events.length < 30
    ∧ parseUnwind [4, 1] = some ⟨4, true⟩ ∧ lost.station.rollLow = false ∧ lost.station.spliceRecord = none
    ∧ lost.station.records.unwind.state = .lost ∧ (polled .unwind moves).station.records.unwind.state = .unknown := by
  decide +kernel

/-- A line action in flight, its layout's move in hand. -/
def acts (a : Action) (n : Nat) : State :=
  moves.onStation fun t => { t with inFlight := some ⟨2, .action a, .write, [], 0, 5⟩, actions := List.replicate n (.speed 3) }

theorem test_witness_LineActionsAreCarriedOut :
    let l : Layout := ⟨1, 0, 0, 0, 0, 0, 0, 4⟩
    let absent := parAt .roleAddrBeam 0 (parAt .roleAddrLaminator 0 moves)
    let list := [Action.speed 3, .nip .opened, .nip .closed, .positions 0 l, .move 0, .positions 1 l, .move 1]
    (∀ a ∈ list, (acts a 16).station.inFlight = some ⟨2, .action a, .write, [], 0, 5⟩ ∧ 16 ≤ (acts a 16).station.actions.length
      ∧ (acts a 15).station.actions.length < 16
      ∧ (moves.onStation fun t => { t with actions := a :: [] }).station.actions = a :: [])
    ∧ moves.beam.changeover = .moving l 500 ∧ moves.beam.move = 0 ∧ moves.motion.line = .running ∧ State.reset.beam.changeover = .none
    ∧ moves.station.inFlight = none ∧ moves.roleAddr .laminator ≠ 0 ∧ moves.roleAddr .beam ≠ 0
    ∧ absent.roleAddr .laminator = 0 ∧ absent.roleAddr .beam = 0
    ∧ (runArbiter (moves.onStation fun t => { t with actions := [.nip .closed] })).station.inFlight
        = some ⟨1, .action (.nip .closed), .write, [1, 18, 1], 0, (moves.par .replyTimeout).toNat⟩ := by decide +kernel

/-- R156: a sound answer of every kind and payload, one that acknowledges the write in flight among them. -/
theorem test_witness_LineActionsAreCarriedOut_answers (k : Byte) (p : List Byte) :
    ∃ a : Answer, a.check = crc16 (a.addr :: a.kind :: a.payload) ∧ a.addr.toNat = 2 ∧ a.kind = k ∧ a.payload = p :=
  ⟨⟨2, k, p, crc16 (2 :: k :: p)⟩, rfl, rfl, rfl, rfl⟩

theorem test_witness_RelayChunksCarryTheData :
    let r : Relay := ⟨1, 3, true, 2, 1000, List.replicate 15 0, 0, 0, []⟩
    let s := State.reset.onStation fun t => { t with relay := some r }
    let u (x : Txn) := s.onStation fun t => { t with inFlight := some x }
    s.station.relay = some r ∧ ¬r.toWrite.length ≤ 16 - r.width
    ∧ ({ r with toWrite := List.replicate 14 0 } : Relay).toWrite.length ≤ 16 - r.width
    ∧ s.station.inFlight = none ∧ s.station.actions = [] ∧ s.station.due = []
    ∧ (runArbiter s).station.inFlight
        = some ⟨3, .relay, .write, 2 :: 3 :: 232 :: List.replicate 14 0, 0, (s.par .replyTimeout).toNat⟩
    ∧ (runArbiter (s.onStation fun t => { t with relay := some ⟨1, 3, false, 1, 7, [], 17, 0, []⟩ })).station.inFlight
        = some ⟨3, .relay, .read, [1, 7, 16], 16, (s.par .replyTimeout).toNat⟩
    ∧ (∀ x ∈ [(⟨3, .relay, .write, [], 0, 5⟩ : Txn), ⟨3, .relay, .read, [], 16, 5⟩], (u x).station.inFlight = some x ∧ x.owner = .relay) := by
  decide +kernel

/-- R157: a due poll before the relay's next chunk, and a link with nothing to send. -/
theorem test_witness_RelayChunksCarryTheData_poll :
    let r : Relay := ⟨1, 3, true, 2, 1000, List.replicate 15 0, 0, 0, []⟩
    let s := State.reset.onStation fun t => { t with relay := some r, due := [.unwind, .trim] }
    s.station.inFlight = none ∧ s.station.actions = [] ∧ s.station.due = .unwind :: [.trim]
    ∧ (runArbiter s).station.inFlight = some ⟨3, .poll .unwind, .poll, [], 0, 5⟩ ∧ (runArbiter s).station.due = [.trim]
    ∧ (busyLink s).station.inFlight ≠ none ∧ State.reset.station.relay = none ∧ State.reset.station.due = [] := by decide +kernel

theorem test_witness_HandoffStepsBeforeCompletion :
    (let s := offer .settling State.reset
     (s.hand.channels.get .lane0).state = .settling ∧ (s.hand.channels.get .lane0).owner = some (.lane0, src0)
     ∧ (s.hand.channels.get .lane0).delay = some 20)
    ∧ (let s := parAt .handoffMode0 3 (offer .offered State.reset)
       s.pins.accept.get .lane0 ≠ true ∧ (s.hand.channels.get .lane0).state = .offered ∧ s.channelOf .lane0 = .lane0
       ∧ (true != s.inverted (8 + laneNum .lane0)) = true ∧ s.effMode .lane0 = 3)
    ∧ (let s := parAt .handoffGanged 1 State.reset
       s.channelOf .lane1 ≠ .lane1 ∧ s.pins.accept.get .lane1 ≠ true)
    ∧ (State.reset.hand.channels.get .lane0).state = .idle
    ∧ (let s := parAt .lineInvert 256 (offer .offered State.reset)
       s.pins.accept.get .lane0 ≠ true ∧ (true != s.inverted (8 + laneNum .lane0)) = false)
    ∧ (let s := offer .releasing State.reset
       (s.hand.channels.get .lane0).state = .releasing ∧ (true != s.inverted (8 + laneNum .lane0)) = true) := by decide +kernel

theorem test_witness_HandoffCycleEnds :
    let held := fun (st : ChannelState) (s : State) => offer st s
    (let s := held .pulsing State.reset
     s.hand.waiting = [] ∧ (s.hand.channels.get .lane0).owner = some (.lane0, src0) ∧ (s.ctx? .lane0 src0).isSome = true
     ∧ (s.hand.channels.get .lane0).state = .pulsing ∧ (s.hand.channels.get .lane0).delay ≠ none
     ∧ s.link.events.length < 32)
    ∧ (let s := held .offered State.reset
       s.pins.accept.get .lane0 ≠ true ∧ s.channelOf .lane0 = .lane0 ∧ (s.hand.channels.get .lane0).state = .offered
       ∧ (true != s.inverted (8 + laneNum .lane0)) = true ∧ s.effMode .lane0 ≠ 3)
    ∧ (let s := (held .releasing State.reset).onPins fun p => { p with accept := p.accept.set .lane0 true }
       s.pins.accept.get .lane0 ≠ false ∧ (s.hand.channels.get .lane0).state = .releasing
       ∧ (false != s.inverted (8 + laneNum .lane0)) = false)
    ∧ (let s := held .offered (lineAt .running State.reset)
       (s.hand.channels.get .lane0).timer ≠ none ∧ s.motion.line ≠ .idle)
    ∧ (let s : State := { held .pulsing State.reset with
         hand := { (held .pulsing State.reset).hand with waiting := [(.lane1, src0)] } }
       s.hand.waiting = (.lane1, src0) :: [] ∧ (Lane.lane1, src0) ≠ (Lane.lane0, src0)
       ∧ (s.hand.channels.get .lane0).owner = some (.lane0, src0) ∧ (s.hand.channels.get .lane0).state = .pulsing
       ∧ s.effMode .lane1 ≠ 1 ∧ (parAt .handoffMode1 1 s).effMode .lane1 = 1 ∧ (parAt .handoffTd0 0 s).par .handoffTd0 = 0)
    ∧ (let s := pageAt .spent (held .pulsing State.reset)
       s.store.pages[src0.page].state = .spent ∧ s.store.pages[src0.page].openPanels - 1 = 0
       ∧ State.reset.store.pages[src0.page].state ≠ .spent) := by decide +kernel

/-- R115, R175: a cycle that ends frees the table of a POSITIONED head's lane, in a line RUNNING and in one HELD. -/
theorem test_witness_HandoffCycleEnds_head :
    let next : Source := ⟨0, 1, 1⟩
    let head (st : CutStatus) : Entry := ⟨20000, onePart .lane0 ⟨some next, none⟩, st, 0, 0⟩
    let s (l : LineState) : State := ((offer .offered (cutting .positioned l)).onList .lane0 fun _ =>
      [ctx0 .delivering, { ctx0 .active with src := next }]).onCuts fun c => { c with entries := [head .positioned] }
    let t (l : LineState) := after (.acceptChange .lane0 true) (s l)
    (s .running).lanesClear (head .positioned) = false ∧ (makeDone .lane0 src0 (s .running)).lanesClear (head .positioned) = true
    ∧ (t .running).cuts.entries = [head .cutting] ∧ (t .running).cuts.knifeStart = true
    ∧ (t .running).cuts.knifeLanes = ⟨true, false, false, false⟩
    ∧ (t .running).cuts.cutTimer = some ((s .running).par .cutTimeout).toNat
    ∧ (t .held).cuts = (s .held).cuts ∧ (t .held).lists.l0.map Ctx.src = [next] ∧ (s .held).reader = .inactive := by decide +kernel

theorem test_witness_BusyReleaseLetsTraverseStart :
    let s := (cutting .positioned .running).onPins fun p => { p with busy := p.busy.set .lane0 true }
    let u : State := { s with pins := { s.pins with busy := s.pins.busy.set .lane0 false } }
    s.pins.busy.get .lane0 ≠ false ∧ u.busyAsserted .lane0 = false
    ∧ (s.par .handoffInhibit).toNat.testBit (laneNum .lane0) = true ∧ s.cuts.entries = [cut0 .positioned]
    ∧ u.lanesClear (cut0 .positioned) = true
    ∧ State.reset.pins.busy.get .lane0 = false
    ∧ ((State.reset.onPins fun p => { p with busy := p.busy.set .lane0 true }).busyAsserted .lane0) = true
    ∧ ((parAt .handoffInhibit 14 s).par .handoffInhibit).toNat.testBit (laneNum .lane0) = false
    ∧ (let v := (cutting .locked .running).onPins fun p => { p with busy := p.busy.set .lane0 true }
       v.pins.busy.get .lane0 ≠ false ∧ v.cuts.entries = [cut0 .locked] ∧ (cut0 .locked).status ≠ .positioned) := by decide +kernel

theorem test_witness_FramesAndRequests_1 :
    LinkLaw State.reset ∧ State.reset.link.rx = [] ∧ State.reset.linkReady
    ∧ [0, 0] ≠ word16Bytes (crc16 (frameBody ⟨5, 9, []⟩)) ∧ (Instr.pageQuery 1 0).wf = true
    ∧ requestOf (.pageQuery 1 0) = some (1, .pageQuery 0) := by
  unfold LinkLaw State.linkReady; decide +kernel

/-- A transmission under way, with a reply and an event behind it. -/
def sends (reply : Bool) : State := State.reset.onLink fun l =>
  { l with tx := some ⟨0x81, 0, []⟩, reply := if reply then some ⟨0x81, 1, []⟩ else none,
           events := [.stationNotice .lost .trim] }

theorem test_witness_FramesAndRequests_2 :
    LinkLaw (sends true) ∧ LinkLaw (sends false) ∧ (sends true).link.reply ≠ none ∧ (sends false).link.reply = none
    ∧ (sends true).link.requests = [] ∧ (sends false).link.events = .stationNotice .lost .trim :: []
    ∧ State.reset.link.reply = none ∧ State.reset.link.events = []
    ∧ frameOf (.badKind 0x55 1 []) = some ⟨0x55, 1, []⟩ ∧ knownKinds.contains 0x55 = false
    ∧ examine 5 [0] = .badLength
    ∧ (LinkLaw (State.reset.onLink fun l => { l with rx := [0xC3] }))
    ∧ (State.reset.onLink fun l => { l with rx := [0xC3] }).link.rx = [0xC3] := by
  unfold LinkLaw; decide +kernel

/-- R181: requests behind a reply: taken as it begins, one after the other as replies leave, and not during a relay. -/
theorem test_witness_FramesArriveAndTakeTurns_requests :
    let f (tag : Byte) : Frame := ⟨5, tag, []⟩
    let s := (sends true).onLink fun l => { l with requests := [f 8, f 9] }
    let t := after .frameSent s
    let relayed := s.onStation fun x => { x with relay := some ⟨1, 3, true, 2, 0, [], 0, 0, []⟩ }
    s.link.requests = f 8 :: [f 9] ∧ s.link.requests.length ≤ 4 ∧ s.station.relay = none ∧ s.link.tx ≠ none ∧ s.link.reply ≠ none
    ∧ t.link.tx = some ⟨0x81, 1, []⟩ ∧ t.link.requests = [f 9] ∧ t.link.reply = some ⟨0x85, 8, [0x20]⟩
    ∧ (after .frameSent t).link.requests = [] ∧ (after .frameSent t).link.reply = some ⟨0x85, 9, [0x20]⟩
    ∧ relayed.station.relay ≠ none ∧ (after .frameSent relayed).link.requests = [f 8, f 9] := by decide +kernel

/-- R170, R174, R177, R184: the outputs of an offer in ganged mode, with and without inversion or a short, and a zone's bytes. -/
theorem test_witness_EventsAndOutputsAsLaidOut :
    let g := (parAt .handoffGanged 1 State.reset).onChannel .lane0 fun _ => ⟨.offered, some (.lane2, src0), none, some 30, true⟩
    let short := g.onPins fun p => { p with deliverForced := p.deliverForced.set .lane0 (some false), laneSel0Forced := some true }
    g.laneSel = 2 ∧ g.laneSelLevels = 2 ∧ g.lineLevels = 0x11 ∧ (parAt .lineInvert 0x21 g).lineLevels = 0x30
    ∧ short.lineLevels = 0x10 ∧ short.laneSelLevels = 3 ∧ State.reset.laneSel = 0
    ∧ eventFrame true (.zoneNotice .late .dwell (-1) 4000000000) = ⟨0x45, 0, [1, 0, 1, 255, 255, 255, 255, 0xEE, 0x6B, 0x28, 0]⟩
    ∧ eventFrame false (.markNotice (.stray .pitch) .lane3 258) = ⟨0x42, 0, [0, 1, 3, 0, 0, 1, 2, 0, 0, 0, 1]⟩ := by decide +kernel

/-- R155, R168: a changed address, a lowered watchdog and a changed schedule. -/
theorem test_witness_SetupClampsChecksInstalls_station :
    let s := (ready State.reset).onStation fun t =>
      { t with due := [.trim, .unwind], records := t.records.set .unwind ⟨.unknown, 9⟩, trim := some .ok }
    let u := after (.setup 1 [(42, 9)]) s
    s.linkReady ∧ s.motion.line = .idle ∧ crossCheck (candidate s.params [(42, 9)]) = none
    ∧ u.roleAddr .trim ≠ s.roleAddr .trim ∧ u.station.records.trim = ⟨.unknown, 0⟩ ∧ u.station.trim = none ∧ u.station.due = [.unwind]
    ∧ (after (.setup 1 [(42, 0)]) s).station.records.trim = ⟨.absent, 0⟩
    ∧ u.roleAddr .unwind = s.roleAddr .unwind
    ∧ (after (.setup 1 [(37, 2)]) s).station.records.unwind = ⟨.unknown, 2⟩
    ∧ (after (.setup 1 [(36, 0)]) s).station.due = [] := by
  unfold State.linkReady; decide +kernel

theorem test_witness_SetupClampsChecksInstalls :
    let s := State.reset
    s.linkReady ∧ s.motion.line = .idle ∧ (lineAt .ready s).linkReady ∧ (lineAt .ready s).motion.line ≠ .idle
    ∧ badNumber [(0, 5)] = some 0 ∧ badNumber [(1, 5), (56, 5)] = some 56 ∧ badNumber [(55, 5)] = none
    ∧ crossCheck (candidate s.params [(8, 40), (9, 30)]) = some 9 ∧ crossCheck (candidate s.params [(8, 40)]) = none
    ∧ 1 ≤ [((8 : Byte), (40 : Word32))].length ∧ [((0 : Byte), (5 : Word32))] = [] ++ (0, 5) :: []
    ∧ (candidate (s.params.set (paramIndex .handoffMode0) 1) [(48, 17)]).val .handoffTd0 = 18
    ∧ (after (.setup 1 [(44, 1), (48, 17)]) s).link.tx = some ⟨0x82, 1, [1, 48]⟩
    ∧ (after (.setup 1 [(8, 2000)]) s).link.tx = some ⟨0x82, 1, [0x30, 9]⟩ := by
  unfold State.linkReady; decide +kernel

theorem test_witness_PagesLoadArmClearQuery :
    let s := State.reset
    let r : RawRecord := Vector.replicate 16 3
    let l (v : Vector (Option RawRecord) 16) : State := s.onPage 0 fun p => { p with state := .loading, slots := v }
    let e : Vector (Option RawRecord) 16 := Vector.replicate 16 none
    s.linkReady ∧ s.store.pages[0].state = .empty ∧ (pageAt .armed s).store.pages[0].state = .armed
    ∧ (pageAt .loading s).store.pages[0].state = .loading ∧ (pageAt .spent s).store.pages[0].state = .spent
    ∧ (pageAt .opened s).store.pages[0].state = .opened
    ∧ (7 : Byte).toNat = (7 : Fin 8).val ∧ 7 < (8 : Byte).toNat ∧ 15 < (16 : Byte).toNat
    ∧ 16 < (15 : Byte).toNat + [r, r].length ∧ (15 : Byte).toNat + [r].length ≤ 16
    ∧ (l (e.set 1 (some r))).linkReady ∧ gapSlot (l (e.set 1 (some r))).store.pages[0].slots = some 0
    ∧ gapSlot (l (e.set 0 (some (Vector.replicate 16 0)))).store.pages[0].slots = none
    ∧ badSlot (l (e.set 0 (some (Vector.replicate 16 0)))).store.pages[0].slots = some 0
    ∧ gapSlot (l (e.set 0 (some r))).store.pages[0].slots = none ∧ badSlot (l (e.set 0 (some r))).store.pages[0].slots = none
    ∧ s.reader ≠ .waiting ∧ s.store.next = 0 ∧ ({ s with reader := .waiting } : State).reader = .waiting
    ∧ ({ s with reader := .waiting } : State).linkReady ∧ ({ s with reader := .waiting } : State).store.next = 0 := by
  unfold State.linkReady; decide +kernel

/-- The bytes of a PANEL record of lane 0 with two copies. -/
def panelBytes (lane : Byte) : RawRecord := #v[1, lane, 1, 2, 0, 0, 0xEA, 0x60, 0, 0x13, 0x88, 0, 0x27, 0x10, 2, 1]

/-- Page 0 OPEN with one record in slot 0. -/
def reads (r : RawRecord) : State := State.reset.onPage 0 fun p => { p with state := .opened, slots := p.slots.set 0 (some r), count := 1 }

theorem test_witness_PlanReaderReads :
    let s := State.reset
    (pageAt .armed s).store.pages[(0 : Fin 8)].state = .armed ∧ s.store.next = 0 ∧ s.store.pages[(0 : Fin 8)].state ≠ .armed
    ∧ (reads (panelBytes 0)).store.pages[(0 : Fin 8)].slots[(0 : Fin 16)] = some (panelBytes 0)
    ∧ 0 + 1 < 2 ∧ (reads (panelBytes 0)).store.pages[(0 : Fin 8)].count ≤ 0 + 1
    ∧ (reads (panelBytes 0)).store.pages[(0 : Fin 8)].openPanels = 0
    ∧ 0 < ((reads (panelBytes 0)).onPage 0 fun p => { p with openPanels := 1 }).store.pages[(0 : Fin 8)].openPanels
    ∧ parseRecord (panelBytes 3) = .panel ⟨3, 258, 60000, 5000, 10000, 2, true, false, false, false⟩
    ∧ s.beam.current.laneCount ≤ laneNum .lane3 ∧ laneNum .lane0 < s.beam.current.laneCount
    ∧ 12 ≤ (List.replicate 12 (ctx0 .expected)).length ∧ (s.lists.get .lane0).length < 12
    ∧ parseRecord (Vector.replicate 16 3) = .ending
    ∧ (match parseRecord #v[2, 2, 0, 0x4E, 0x20, 0x03, 0xE8, 0x27, 0x10, 0, 0, 0, 0, 0x4E, 0x20, 5] with
       | .layout _ => true | _ => false) = true
    ∧ (let u : State := { s with reader := .finished }
       u.reader = .finished ∧ (∀ n ∈ laneList, u.lists.get n = []) ∧ u.cuts.entries = [] ∧ u.motion.jobEnd = false)
    ∧ (∀ n ∈ [1, 2], (after .frameSent ({ reads (panelBytes 0) with reader := .reading 0 0 n })).reader = .reading 0 0 n)
    ∧ ((readOn { reads (panelBytes 0) with reader := .reading 0 0 1 }).lists.get .lane0).map Ctx.src = [⟨0, 0, 1⟩, ⟨0, 0, 2⟩]
    ∧ (readOn { reads (panelBytes 0) with reader := .reading 0 0 1 }).reader = .waiting := by decide +kernel

theorem test_witness_FlagPanelAndPanelQuery :
    let s := State.reset.onList .lane0 fun _ => [ctx0 .active]
    let d := State.reset.onList .lane0 fun _ => [ctx0 .delivering]
    s.linkReady ∧ d.linkReady ∧ s.lists.get .lane0 = [] ++ ctx0 .active :: [] ∧ (ctx0 .active).panelId = (7#16).toNat
    ∧ d.lists.get .lane0 = [] ++ ctx0 .delivering :: [] ∧ (∀ c ∈ s.lists.get .lane0, c.panelId ≠ (8#16).toNat)
    ∧ 3 < (4 : Byte).toNat ∧ (3 : Byte).toNat = laneNum .lane3 ∧ (0#16).toNat < 1 ∧ 4095 < (4096#16).toNat := by
  unfold State.linkReady; decide +kernel

theorem test_witness_StationRelayBegins :
    let z := parAt .roleAddrTrim 0 State.reset
    (Instr.stationRelay 1 0 3 0 1 0 [64]).wf = true ∧ State.reset.linkReady ∧ z.linkReady ∧ roleOf 3 = some .trim
    ∧ z.roleAddr .trim = 0 ∧ State.reset.roleAddr .trim = 4 ∧ (Instr.stationRelay 1 1 16 0 1 0 [64]).wf = true
    ∧ 256 < (193#16).toNat + beNat [64] ∧ ¬256 < (192#16).toNat + beNat [64] ∧ (busyLink State.reset).linkReady
    ∧ (busyLink State.reset).station.inFlight ≠ none ∧ State.reset.station.actions = [] ∧ State.reset.station.due = [] := by
  unfold State.linkReady; decide +kernel

theorem test_witness_StepKeepsLaws :
    (∃ t, step waits = .next t) ∧ WebLaw waits ∧ StretchLaw waits ∧ SpeedLaw waits ∧ SetsLaw waits ∧ BoundsLaw waits
    ∧ ZonesLaw waits ∧ PagesLaw waits ∧ CountsLaw waits ∧ QueueLaw queue3 ∧ (∃ t, step queue3 = .next t) ∧ LinkLaw waits
    ∧ Reached State.reset := by
  refine ⟨⟨_, rfl⟩, ⟨reset_params _ rfl, ?_, ?_⟩, ⟨reset_params _ rfl, ?_⟩, ?_, ⟨?_, ?_, ?_, ?_⟩, ?_,
    ⟨reset_params _ rfl, ?_, trivial⟩, ⟨?_, ?_, ?_⟩, ?_, queue3_law, ⟨_, rfl⟩, ?_, .reset⟩
  all_goals try unfold CounterLaw
  all_goals try unfold BoundsLaw
  all_goals try unfold LinkLaw
  all_goals try unfold SpeedLaw
  all_goals try unfold CountsLaw
  all_goals first
    | decide +kernel
    | (intro n; cases n <;> decide +kernel)
    | exact ⟨by intro n; cases n <;> decide +kernel, by decide +kernel⟩

end Sys2Proof.Machine
end

section
/-! PROOFS. The Web Counter's rules: the forward count's exact scaling (R3, R6, R8) and the reverse count's hold-back (R5, R41). -/
namespace Sys2Proof.Machine

/-! ## One channel -/

/-- With no hold-back a forward count that stays below the ceiling, or brings no advance, is counted (R3). -/
theorem countForward_counted {n d : Nat} {c : Counter} (hold : c.hold = 0)
    (room : (c.rem + n) / d = 0 ∨ c.coord + (c.rem + n) / d ≤ coordCeiling) :
    countForward n d c = (⟨c.coord + (c.rem + n) / d, (c.rem + n) % d, 0⟩, .counted ((c.rem + n) / d)) := by
  unfold countForward
  rw [if_neg (by omega), if_neg (by omega), hold]

/-- With no hold-back a forward count whose advance would pass the ceiling is discarded (R6). -/
theorem countForward_discarded {n d : Nat} {c : Counter} (hold : c.hold = 0) (moves : 0 < (c.rem + n) / d)
    (past : coordCeiling < c.coord + (c.rem + n) / d) : countForward n d c = (c, .discarded) := by
  simp [countForward, hold, moves, past]

/-- A further summand n advances a quotient by that of the remainder with n. -/
theorem add_div_eq_div_add_mod_div (a n : Nat) {d : Nat} (hd : 0 < d) : (a + n) / d = a / d + (a % d + n) / d := by
  calc (a + n) / d = (d * (a / d) + (a % d + n)) / d := by rw [← Nat.add_assoc, Nat.div_add_mod]
    _ = a / d + (a % d + n) / d := Nat.mul_add_div hd _ _

/-- No rounding error builds up: k forward counts from a remainder of 0 advance by k × n / d (R3). -/
theorem countForward_iterate {n d x : Nat} (hd : 0 < d) (k : Nat) (room : x + k * n / d ≤ coordCeiling) :
    (fun c => (countForward n d c).1)^[k] ⟨x, 0, 0⟩ = ⟨x + k * n / d, k * n % d, 0⟩ := by
  induction k with
  | zero => simp
  | succ k ih =>
    have quotient : (k + 1) * n / d = k * n / d + (k * n % d + n) / d := by
      rw [Nat.succ_mul, add_div_eq_div_add_mod_div _ _ hd]
    have remains : (k * n % d + n) % d = (k + 1) * n % d := by rw [Nat.mod_add_mod, Nat.succ_mul]
    rw [quotient, ← Nat.add_assoc] at room
    rw [Function.iterate_succ_apply', ih ((Nat.le_add_right _ _).trans room), countForward_counted rfl (.inr room),
      quotient, ← Nat.add_assoc, remains]

/-- A remainder below the denominator and a ratio of at most 16 let one count advance by at most 16 (R1, R8). -/
theorem advance_le_of_ratioOk {n d : Int} {r : Nat} (ratio : ratioOk n d = true) (rem : (r : Int) < d) :
    (r + n.toNat) / d.toNat ≤ 16 := by
  obtain ⟨-, top⟩ : d ≤ 16 * n ∧ n ≤ 16 * d := by simpa [ratioOk] using ratio
  have small : r + n.toNat < d.toNat * 17 := by omega
  exact Nat.le_of_lt_succ (Nat.div_lt_of_lt_mul small)

/-- A parameter set that passes the cross-checks has both ratios between 1/16 and 16 (R8, R186). -/
theorem ratioOk_of_crossCheck {v : ParamSet} (h : crossCheck v = none) :
    ratioOk (v.val .inScaleN) (v.val .inScaleD) = true ∧ ratioOk (v.val .outScaleN) (v.val .outScaleD) = true := by
  unfold crossCheck at h
  split at h
  · contradiction
  · next infeed =>
    split at h
    · contradiction
    · next outfeed => simp_all

/-- A reverse count below 65,535 is taken (R5). -/
theorem countReverse_taken {c : Counter} (room : c.hold < holdBackMax) :
    countReverse c = ({ c with hold := c.hold + 1 }, false) := if_pos room

/-- A reverse count at 65,535 is discarded (R5). -/
theorem countReverse_full {c : Counter} (full : c.hold = holdBackMax) : countReverse c = (c, true) :=
  if_neg (by omega)

/-! ## The forward count -/

@[simp] theorem State.setCounter_web (s : State) (e : Encoder) (c : Counter) : (s.setCounter e c).web = s.web.set e c := rfl

theorem exec_forwardCount (e : Encoder) (s : State) : exec (.forwardCount e) s = .next (startTx (forwardCount e s)) := rfl

/-- A forward count that is counted leaves its counter as `countForward` has it, whatever its advance brings (R3, R12). -/
theorem forwardCount_web_of_counted {e : Encoder} {s : State} {c : Counter} {a : Nat}
    (h : countForward (s.ratio e).1 (s.ratio e).2 (s.web.get e) = (c, .counted a)) :
    (forwardCount e s).web = s.web.set e c := by
  unfold forwardCount
  rw [h]
  cases a with
  | zero => exact State.setCounter_web s e c
  | succ a => exact (advanced_frame s e _).1.trans (State.setCounter_web s e c)

/-- A discarded forward count leaves the web as it stands (R6). -/
theorem forwardCount_web_of_discarded {e : Encoder} {s : State} {c : Counter}
    (h : countForward (s.ratio e).1 (s.ratio e).2 (s.web.get e) = (c, .discarded)) : (forwardCount e s).web = s.web := by
  unfold forwardCount
  rw [h]
  exact (settle_frame s _).1.trans (raiseTrip_frame .coordLimit s).1

/-- In a state that keeps the Web Counter's ranges one count advances by at most 16 wu (R3, R8). -/
theorem advance_le_of_webLaw (e : Encoder) {s : State} (h : WebLaw s) :
    ((s.web.get e).rem + (s.ratio e).1) / (s.ratio e).2 ≤ 16 := by
  obtain ⟨⟨-, checks⟩, ⟨-, inRem, -⟩, ⟨-, outRem, -⟩⟩ := h
  obtain ⟨inRatio, outRatio⟩ := ratioOk_of_crossCheck checks
  cases e with
  | infeed => exact advance_le_of_ratioOk inRatio inRem
  | outfeed => exact advance_le_of_ratioOk outRatio outRem

/-- Settles O3: each branch of `countForward` gives the web, and k counts are an induction over k. -/
theorem forwardCountScalesExactly : Obligations.ForwardCountScalesExactly := by
  refine ⟨fun e s hold => ⟨fun room => ?_, fun moves past => ?_⟩, fun e s => advance_le_of_webLaw e,
    fun n d x k hd room => countForward_iterate hd k room⟩
  · refine ⟨_, exec_forwardCount e s, ?_⟩
    rw [(startTx_frame _).1, forwardCount_web_of_counted (countForward_counted hold room)]
  · refine ⟨_, exec_forwardCount e s, ?_⟩
    rw [(startTx_frame _).1, forwardCount_web_of_discarded (countForward_discarded hold moves past)]

/-! ## The reverse count -/

theorem exec_reverseCount (e : Encoder) (s : State) : exec (.reverseCount e) s = .next (startTx (reverseCount e s)) := rfl

/-- The table of the eyes with each lane's held level the level its signal stands at (R41). -/
def eyesHeld (s : State) : Lanes Eye :=
  let held := fun n : Lane => { s.eyes.get n with held := s.pins.eyeDark.get n }
  ⟨held .lane0, held .lane1, held .lane2, held .lane3⟩

/-- As the hold-back rises each eye keeps its level, and nothing else changes (R41). -/
theorem holdLevels_eq (s : State) : holdLevels s = { s with eyes := eyesHeld s } := rfl

/-- A reverse count below 65,535 raises the hold-back; the outfeed's first one has the eyes keep their levels (R5, R41). -/
theorem reverseCount_taken {e : Encoder} {s : State} (room : (s.web.get e).hold < holdBackMax) :
    reverseCount e s =
      { s with
        web := s.web.set e { s.web.get e with hold := (s.web.get e).hold + 1 }
        eyes := if e = .outfeed ∧ (s.web.get e).hold = 0 then eyesHeld s else s.eyes } := by
  unfold reverseCount
  rw [countReverse_taken room]
  cases e with
  | infeed => rfl
  | outfeed =>
    by_cases first : (s.web.get .outfeed).hold = 0
    · simp only [first, holdLevels_eq, and_self, if_true]
      rfl
    · simp only [first, and_false, if_false]
      rfl

/-- A reverse count at 65,535 is discarded and raises ENCODER_REVERSE (R5). -/
theorem reverseCount_discarded {e : Encoder} {s : State} (full : (s.web.get e).hold = holdBackMax) :
    reverseCount e s = settle s (raiseTrip .encoderReverse s) := by
  unfold reverseCount
  rw [countReverse_full full]
  rfl

/-! ## A trip cause and what follows it -/

/-- What follows a command in a line that stands leaves line state and trip set. -/
theorem settle_line_trips (b : State) {s : State} (h : standing s.motion.line = true) :
    (settle b s).motion.line = s.motion.line ∧ (settle b s).motion.trips = s.motion.trips := by
  obtain ⟨holds, e⟩ := settle_holdsOnly b s h
  simp [e]

/-- In IDLE a trip cause leaves line state and trip set, also with what follows it (R143). -/
theorem settle_raiseTrip_idle (b : State) (c : TripCause) {s : State} (h : s.motion.line = .idle) :
    (settle b (raiseTrip c s)).motion.line = .idle ∧ (settle b (raiseTrip c s)).motion.trips = s.motion.trips := by
  rw [raiseTrip_idle c s h]
  obtain ⟨line, trips⟩ := settle_line_trips b (s := s) (by rw [h]; rfl)
  exact ⟨line.trans h, trips⟩

/-- In any other line state the line is TRIPPED with the cause in the set, also behind what follows it (R143). -/
theorem settle_raiseTrip_tripped (b : State) (c : TripCause) {s : State} (h : s.motion.line ≠ .idle) :
    (settle b (raiseTrip c s)).motion.line = .tripped ∧ (settle b (raiseTrip c s)).motion.trips.has c = true := by
  obtain ⟨tripped, caused⟩ := raiseTrip_tripped c s h
  obtain ⟨line, trips⟩ := settle_line_trips b (s := raiseTrip c s) (by rw [tripped]; rfl)
  exact ⟨line.trans tripped, trips ▸ caused⟩

/-- A trip cause, what follows it and the start of a transmission change nothing of the web, the plan, the zones and the handoff. -/
theorem motionOnly_settle_raiseTrip (b : State) (c : TripCause) (s : State) :
    MotionOnly s (startTx (settle b (raiseTrip c s))) := by
  simp [MotionOnly]

/-- Settles O5: the count is taken below 65,535 and discarded with a trip there. -/
theorem reverseCountRaisesHoldBack : Obligations.ReverseCountRaisesHoldBack := by
  intro e s
  refine ⟨fun room => ⟨?_, fun lawful => startTx_lawful _ lawful⟩, fun full => ?_⟩
  · rw [exec_reverseCount, reverseCount_taken room]
    rfl
  · refine ⟨_, exec_reverseCount e s, ?_⟩
    rw [reverseCount_discarded full]
    exact ⟨motionOnly_settle_raiseTrip s _ s, by simp, settle_raiseTrip_idle s _, settle_raiseTrip_tripped s _⟩

end Sys2Proof.Machine
end

section
/-! PROOFS. The merge of a placed zone into the Zone List (R93, R96): what the list's order gives, where the zones a new one
touches stand in it, and what merging makes of them. -/
namespace Sys2Proof.Machine

/-! ## Coordinates -/

theorem lower_eq_min (a b : Int) : lower a b = min a b := rfl

theorem higher_eq_max (a b : Int) : higher a b = max a b := rfl

theorem distance_eq_abs (a b : Int) : distance a b = |a - b| := by
  unfold distance
  split
  · next le => rw [abs_of_nonpos (Int.sub_nonpos_of_le le), neg_sub]
  · next gt => rw [abs_of_pos (Int.sub_pos_of_lt (not_le.mp gt))]

/-! ## The order of the list -/

/-- In an ordered list the head ends below the start of every other zone (R93). -/
theorem zonesOrdered_cons {a : Zone} {r : List Zone} :
    ZonesOrdered (a :: r) ↔ a.lo < a.hi ∧ (∀ b ∈ r, a.hi < b.lo) ∧ ZonesOrdered r := by
  induction r generalizing a with
  | nil => simp [ZonesOrdered]
  | cons b r ih =>
    constructor
    · rintro ⟨spans, apart, ordered⟩
      obtain ⟨bSpans, bApart, -⟩ := ih.mp ordered
      refine ⟨spans, List.forall_mem_cons.mpr ⟨apart, fun c hc => ?_⟩, ordered⟩
      have := bApart c hc
      omega
    · rintro ⟨spans, apart, ordered⟩
      exact ⟨spans, apart b List.mem_cons_self, ordered⟩

/-- Two runs of zones stand in order together when each does and the first ends below the second (R93). -/
theorem zonesOrdered_append {l r : List Zone} :
    ZonesOrdered (l ++ r) ↔ ZonesOrdered l ∧ ZonesOrdered r ∧ ∀ a ∈ l, ∀ b ∈ r, a.hi < b.lo := by
  induction l with
  | nil => simp [ZonesOrdered]
  | cons a l ih =>
    simp only [List.cons_append, zonesOrdered_cons, ih, List.mem_append, List.forall_mem_cons, or_imp, forall_and]
    tauto

/-- No zone of an ordered list is empty (R93). -/
theorem lo_lt_hi_of_mem {l : List Zone} (ordered : ZonesOrdered l) {a : Zone} (mem : a ∈ l) : a.lo < a.hi := by
  obtain ⟨before, after, rfl⟩ := List.append_of_mem mem
  obtain ⟨-, tail, -⟩ := zonesOrdered_append.mp ordered
  exact (zonesOrdered_cons.mp tail).1

/-! ## Where the touched zones stand -/

theorem touches_iff {lo hi : Int} {a : Zone} : touches lo hi a = true ↔ lo ≤ a.hi ∧ a.lo ≤ hi := by
  simp [touches]

/-- A Zone List cut in three by a zone to be placed: those below it, those it overlaps or touches, those above it (R96). -/
structure ZoneSplit (z : Zone) (l before mid after : List Zone) : Prop where
  eq : l = before ++ mid ++ after
  below : ∀ b ∈ before, b.hi < z.lo
  touched : ∀ b ∈ mid, touches z.lo z.hi b = true
  above : ∀ b ∈ after, z.hi < b.lo

/-- In an ordered list the zones that a placed one overlaps or touches stand together. -/
theorem exists_zoneSplit {z : Zone} {l : List Zone} (ordered : ZonesOrdered l) :
    ∃ before mid after, ZoneSplit z l before mid after := by
  induction l with
  | nil => exact ⟨[], [], [], by constructor <;> simp⟩
  | cons a r ih =>
    obtain ⟨spans, apart, rest⟩ := zonesOrdered_cons.mp ordered
    obtain ⟨before, mid, after, split⟩ := ih rest
    by_cases low : a.hi < z.lo
    · exact ⟨a :: before, mid, after, by simp [split.eq], List.forall_mem_cons.mpr ⟨low, split.below⟩,
        split.touched, split.above⟩
    have noneBelow : before = [] := by
      refine List.eq_nil_iff_forall_not_mem.mpr fun b hb => ?_
      have mem : b ∈ r := by simp [split.eq, hb]
      have := apart b mem
      have := lo_lt_hi_of_mem rest mem
      have := split.below b hb
      omega
    by_cases high : z.hi < a.lo
    · refine ⟨[], [], a :: r, rfl, by simp, by simp, List.forall_mem_cons.mpr ⟨high, fun b hb => ?_⟩⟩
      have := apart b hb
      omega
    · refine ⟨[], a :: mid, after, by simp [split.eq, noneBelow], by simp,
        List.forall_mem_cons.mpr ⟨touches_iff.mpr (by omega), split.touched⟩, split.above⟩

section
variable {z : Zone} {l before mid after : List Zone}

theorem ZoneSplit.before_untouched (split : ZoneSplit z l before mid after) :
    ∀ b ∈ before, touches z.lo z.hi b = false := by
  intro b hb
  have := split.below b hb
  exact Bool.eq_false_iff.mpr fun h => by rw [touches_iff] at h; omega

theorem ZoneSplit.after_untouched (split : ZoneSplit z l before mid after) :
    ∀ b ∈ after, touches z.lo z.hi b = false := by
  intro b hb
  have := split.above b hb
  exact Bool.eq_false_iff.mpr fun h => by rw [touches_iff] at h; omega

theorem ZoneSplit.filter_touches (split : ZoneSplit z l before mid after) :
    l.filter (touches z.lo z.hi) = mid := by
  rw [split.eq, List.filter_append, List.filter_append, List.filter_eq_self.mpr split.touched,
    List.filter_eq_nil_iff.mpr fun b hb => by simp [split.before_untouched b hb],
    List.filter_eq_nil_iff.mpr fun b hb => by simp [split.after_untouched b hb], List.nil_append, List.append_nil]

theorem ZoneSplit.filter_not_touches (split : ZoneSplit z l before mid after) :
    l.filter (fun a => !touches z.lo z.hi a) = before ++ after := by
  have noneOfMid : mid.filter (fun a => !touches z.lo z.hi a) = [] :=
    List.filter_eq_nil_iff.mpr fun b hb => by simp [split.touched b hb]
  rw [split.eq, List.filter_append, List.filter_append, noneOfMid, List.append_nil,
    List.filter_eq_self.mpr fun b hb => by simp [split.before_untouched b hb],
    List.filter_eq_self.mpr fun b hb => by simp [split.after_untouched b hb]]

theorem ZoneSplit.any_touches (split : ZoneSplit z l before mid after) :
    l.any (touches z.lo z.hi) = true ↔ mid ≠ [] := by
  rw [← split.filter_touches, Ne, List.filter_eq_nil_iff, List.any_eq_true]
  push Not
  rfl

end

/-! ## The merge -/

/-- A zone is inserted behind those that start no higher and before those that start above it. -/
theorem insertZone_append {z : Zone} {before after : List Zone} (low : ∀ b ∈ before, b.lo ≤ z.lo)
    (high : ∀ b ∈ after, z.lo < b.lo) : insertZone z (before ++ after) = before ++ z :: after := by
  induction before with
  | nil =>
    cases after with
    | nil => rfl
    | cons a r => exact if_pos (high a List.mem_cons_self)
  | cons a r ih =>
    obtain ⟨first, others⟩ := List.forall_mem_cons.mp low
    rw [List.cons_append, insertZone, if_neg (by omega), ih others, List.cons_append]

/-- Starts that are none below the one reached leave it. -/
theorem foldl_lower_eq {acc : Int} {r : List Zone} (above : ∀ b ∈ r, acc ≤ b.lo) :
    r.foldl (fun (acc : Int) (b : Zone) => lower acc b.lo) acc = acc := by
  induction r with
  | nil => rfl
  | cons b r ih =>
    obtain ⟨first, others⟩ := List.forall_mem_cons.mp above
    rw [List.foldl_cons, lower_eq_min, min_eq_left first, ih others]

/-- The highest end of zones in order is that of the last. -/
theorem foldl_higher_eq {acc : Int} {a : Zone} {r : List Zone} (ordered : ZonesOrdered (a :: r)) :
    (a :: r).foldl (fun (acc : Int) (b : Zone) => higher acc b.hi) acc = max acc ((a :: r).getLast (by simp)).hi := by
  induction r generalizing acc a with
  | nil => rfl
  | cons b r ih =>
    obtain ⟨-, apart, rest⟩ := zonesOrdered_cons.mp ordered
    have mem : (b :: r).getLast (by simp) ∈ b :: r := List.getLast_mem _
    have ends : a.hi ≤ ((b :: r).getLast (by simp)).hi := ((apart _ mem).trans (lo_lt_hi_of_mem rest mem)).le
    rw [List.foldl_cons, ih rest, higher_eq_max, max_assoc, max_eq_right ends, List.getLast_cons (List.cons_ne_nil b r)]

/-- Joined with zones in order, a zone runs from the lowest start to the highest end, with the first one's cause (R96). -/
theorem joinZones_eq {z a : Zone} {r : List Zone} (ordered : ZonesOrdered (a :: r)) :
    joinZones z (a :: r) = ⟨min z.lo a.lo, max z.hi ((a :: r).getLast (by simp)).hi, a.cause⟩ := by
  obtain ⟨spans, apart, -⟩ := zonesOrdered_cons.mp ordered
  have lowest : (a :: r).foldl (fun (acc : Int) (b : Zone) => lower acc b.lo) z.lo = min z.lo a.lo := by
    rw [List.foldl_cons, lower_eq_min]
    refine foldl_lower_eq fun b hb => min_le_of_right_le ?_
    exact (spans.trans (apart b hb)).le
  simp only [joinZones, lowest, foldl_higher_eq ordered]

/-- A zone that touches none is inserted between those below and those above it while there is room (R96). -/
theorem mergeZone_room {z : Zone} {l before after : List Zone} (ordered : ZonesOrdered l) (spans : z.lo < z.hi)
    (split : ZoneSplit z l before [] after) (room : l.length < zoneMax) :
    mergeZone z l = (before ++ z :: after, none) := by
  have list : l = before ++ after := by simpa using split.eq
  rw [mergeZone, if_neg (by simp [split.any_touches]), if_pos room, list, insertZone_append]
  · intro b hb
    have := split.below b hb
    have := lo_lt_hi_of_mem ordered (a := b) (by simp [list, hb])
    omega
  · intro b hb
    have := split.above b hb
    omega

/-- A zone that touches some takes their place, joined with them (R96). -/
theorem mergeZone_touched {z a : Zone} {l before r after : List Zone} (ordered : ZonesOrdered l) (spans : z.lo < z.hi)
    (split : ZoneSplit z l before (a :: r) after) :
    mergeZone z l
      = (before ++ ⟨min z.lo a.lo, max z.hi ((a :: r).getLast (by simp)).hi, a.cause⟩ :: after, none) := by
  obtain ⟨front, -, -⟩ := zonesOrdered_append.mp (split.eq ▸ ordered)
  obtain ⟨-, mid, apart⟩ := zonesOrdered_append.mp front
  rw [mergeZone, if_pos (by simp [split.any_touches]), split.filter_touches, split.filter_not_touches,
    joinZones_eq mid, insertZone_append]
  · intro b hb
    have := split.below b hb
    have := apart b hb a List.mem_cons_self
    have := lo_lt_hi_of_mem ordered (a := b) (by simp [split.eq, hb])
    simp only [le_min_iff]
    omega
  · intro b hb
    have := split.above b hb
    exact min_lt_of_left_lt (by omega)

/-! ## The nearest zone of a full list -/

/-- Zone a starts nearer to a coordinate than b, or as near and no higher (R96). -/
def StartsNearer (lo : Int) (a b : Zone) : Prop :=
  |a.lo - lo| < |b.lo - lo| ∨ |a.lo - lo| = |b.lo - lo| ∧ a.lo ≤ b.lo

/-- The list's nearest zone of an ordered list that is not empty starts nearer than every zone of it (R96). -/
theorem exists_nearestZone {lo : Int} {a : Zone} {r : List Zone} (ordered : ZonesOrdered (a :: r)) :
    ∃ b ∈ a :: r, nearestZone lo (a :: r) = some b ∧ ∀ c ∈ a :: r, StartsNearer lo b c := by
  induction r generalizing a with
  | nil => exact ⟨a, by simp, rfl, by simp [StartsNearer]⟩
  | cons x r ih =>
    obtain ⟨spans, apart, rest⟩ := zonesOrdered_cons.mp ordered
    obtain ⟨b, mem, nearest, nearer⟩ := ih rest
    rw [nearestZone, nearest]
    simp only [distance_eq_abs]
    by_cases near : |a.lo - lo| ≤ |b.lo - lo|
    · refine ⟨a, by simp, if_pos near, List.forall_mem_cons.mpr ⟨by simp [StartsNearer], fun c hc => ?_⟩⟩
      have above := apart c hc
      have := nearer c hc
      unfold StartsNearer at this ⊢
      omega
    · exact ⟨b, by simp [mem], if_neg near, List.forall_mem_cons.mpr ⟨.inl (by omega), nearer⟩⟩

/-- In a full list of which it touches none, a zone widens the one that starts nearest (R96). -/
theorem mergeZone_full {z a : Zone} {l before after : List Zone} (split : ZoneSplit z l before [] after)
    (full : l.length = zoneMax) (nearest : nearestZone z.lo l = some a) :
    mergeZone z l = (l.map (fun b => if b = a then ⟨min a.lo z.lo, max a.hi z.hi, a.cause⟩ else b),
      some ⟨min a.lo z.lo, max a.hi z.hi, a.cause⟩) := by
  rw [mergeZone, if_neg (by simp [split.any_touches]), if_neg (by omega), nearest]
  rfl

/-! ## What the placed zone does to the state -/

theorem addPlaced_of_quiet {z : Zone} {s : State} {l : List Zone} (merge : mergeZone z s.zones = (l, none)) :
    addPlaced z s = { s with zones := l } := by
  rw [addPlaced, merge]
  rfl

theorem addPlaced_of_merged {z m : Zone} {s : State} {l : List Zone} (merge : mergeZone z s.zones = (l, some m)) :
    addPlaced z s = { s with
      zones := l
      link := linkEvent s.link (.zoneNotice .merged m.cause m.lo m.hi) } := by
  rw [addPlaced, merge]
  rfl

/-- Settles O18: the list is cut at the zones touched, and each way of R96 is a case of what stands between the cuts. -/
theorem placedZoneMerges : Obligations.PlacedZoneMerges := by
  rintro z s ⟨-, -, ordered⟩ spans
  obtain ⟨before, mid, after, split⟩ := exists_zoneSplit (z := z) ordered
  have hits : s.zones.filter (fun a => decide (z.lo ≤ a.hi ∧ a.lo ≤ z.hi)) = mid := by
    rw [← split.filter_touches]
    exact List.filter_congr fun a _ => by simp [touches]
  rw [hits]
  refine ⟨?room, ?touched, ?full⟩
  case room =>
    rintro rfl room
    exact ⟨before, after, by simpa using split.eq, addPlaced_of_quiet (mergeZone_room ordered spans split room),
      split.below, split.above⟩
  case touched =>
    rintro a r rfl
    exact ⟨_, before, after, addPlaced_of_quiet (mergeZone_touched ordered spans split), split.eq,
      split.below, split.above, rfl, rfl, rfl⟩
  case full =>
    rintro rfl full
    obtain ⟨x, r, list⟩ := List.exists_cons_of_length_pos (l := s.zones) (by omega)
    obtain ⟨a, mem, nearest, nearer⟩ := exists_nearestZone (lo := z.lo) (list ▸ ordered)
    rw [← list] at mem nearest nearer
    exact ⟨a, mem, nearer, addPlaced_of_merged (mergeZone_full split full nearest)⟩

end Sys2Proof.Machine
end

section
/-! PROOFS. What it is for a change of the state to keep the laws (Safety): `Keeps s t` says that t keeps every law, but the line
link's own, that s keeps. It holds of no change and along a chain of changes, so that one lemma for each operation follows from
those of its parts. Here are the relation and the changes of one part of the state. -/
namespace Sys2Proof.Machine

/-! ## The relation -/

/-- t keeps the laws of web, stretch, tables, zones, record counts and Cut Queue that s keeps. -/
structure KeepsTables (s t : State) : Prop where
  web : WebLaw s → WebLaw t
  stretch : StretchLaw s → StretchLaw t
  bounds : BoundsLaw s → BoundsLaw t
  zones : ZonesLaw s → ZonesLaw t
  counts : CountsLaw s → CountsLaw t
  queue : QueueLaw s → QueueLaw t

/-- t keeps the laws of line motion and of the OPEN page that s keeps. -/
structure KeepsLine (s t : State) : Prop where
  speed : SpeedLaw s → SpeedLaw t
  sets : SetsLaw s → SetsLaw t
  pages : PagesLaw s → PagesLaw t

/-- t keeps every law but the line link's that s keeps. -/
structure Keeps (s t : State) : Prop extends KeepsTables s t, KeepsLine s t

theorem KeepsTables.refl (s : State) : KeepsTables s s := ⟨id, id, id, id, id, id⟩

theorem KeepsTables.trans {s t u : State} (a : KeepsTables s t) (b : KeepsTables t u) : KeepsTables s u :=
  ⟨b.web ∘ a.web, b.stretch ∘ a.stretch, b.bounds ∘ a.bounds, b.zones ∘ a.zones, b.counts ∘ a.counts, b.queue ∘ a.queue⟩

theorem KeepsLine.trans {s t u : State} (a : KeepsLine s t) (b : KeepsLine t u) : KeepsLine s u :=
  ⟨b.speed ∘ a.speed, b.sets ∘ a.sets, b.pages ∘ a.pages⟩

theorem Keeps.refl (s : State) : Keeps s s := ⟨KeepsTables.refl s, id, id, id⟩

theorem Keeps.trans {s t u : State} (a : Keeps s t) (b : Keeps t u) : Keeps s u :=
  ⟨a.toKeepsTables.trans b.toKeepsTables, a.toKeepsLine.trans b.toKeepsLine⟩

/-! ## Changes that no law sees -/

/-- s and t agree in what the laws of `KeepsTables` speak of. -/
structure SameTables (s t : State) : Prop where
  params : t.params = s.params := by simp
  web : t.web = s.web := by simp
  stretch : ∀ n, (t.reg.get n).f = (s.reg.get n).f := by simp
  lists : ∀ n, (t.lists.get n).length = (s.lists.get n).length := by simp
  zones : t.zones = s.zones := by simp
  actions : t.station.actions = s.station.actions := by simp
  requests : t.link.requests = s.link.requests := by simp
  events : t.link.events = s.link.events := by simp
  counts : ∀ p : Fin 8, t.store.pages[p].count = s.store.pages[p].count := by simp
  slots : ∀ p : Fin 8, t.store.pages[p].slots = s.store.pages[p].slots := by simp
  entries : t.cuts.entries = s.cuts.entries := by simp
  orders : t.cuts.nextOrder = s.cuts.nextOrder := by simp

/-- s and t agree in what the laws of `KeepsLine` speak of. -/
structure SameLine (s t : State) : Prop where
  params : t.params = s.params := by simp
  line : t.motion.line = s.motion.line := by simp
  holds : t.motion.holds = s.motion.holds := by simp
  trips : t.motion.trips = s.motion.trips := by simp
  firstCause : t.motion.firstCause = s.motion.firstCause := by simp
  jobEnd : t.motion.jobEnd = s.motion.jobEnd := by simp
  band : t.motion.band = s.motion.band := by simp
  speed : t.motion.speed = s.motion.speed := by simp
  reader : t.reader = s.reader := by simp
  states : ∀ p : Fin 8, t.store.pages[p].state = s.store.pages[p].state := by simp

theorem par_of_params {s t : State} (h : t.params = s.params) (p : Param) : t.par p = s.par p := by
  unfold State.par; rw [h]

theorem paramsLaw_of_params {s t : State} (h : t.params = s.params) (law : ParamsLaw s) : ParamsLaw t := by
  unfold ParamsLaw at *
  simpa only [par_of_params h, h] using law

theorem wantedSpeed_of_line {s t : State} (params : t.params = s.params) (line : t.motion.line = s.motion.line)
    (band : t.motion.band = s.motion.band) : t.wantedSpeed = s.wantedSpeed := by
  unfold State.wantedSpeed
  simp only [par_of_params params, line, band]

theorem webLaw_of_same {s t : State} (params : t.params = s.params) (web : t.web = s.web) (law : WebLaw s) : WebLaw t := by
  obtain ⟨ranges, infeed, outfeed⟩ := law
  refine ⟨paramsLaw_of_params params ranges, ?_, ?_⟩ <;> rwa [par_of_params params, web]

theorem stretchLaw_of_same {s t : State} (params : t.params = s.params) (stretch : ∀ n, (t.reg.get n).f = (s.reg.get n).f)
    (law : StretchLaw s) : StretchLaw t := by
  obtain ⟨ranges, limits⟩ := law
  refine ⟨paramsLaw_of_params params ranges, fun n => ?_⟩
  rw [par_of_params params, stretch]
  exact limits n

theorem zonesLaw_of_same {s t : State} (params : t.params = s.params) (zones : t.zones = s.zones) (law : ZonesLaw s) :
    ZonesLaw t := by
  obtain ⟨ranges, room, ordered⟩ := law
  exact ⟨paramsLaw_of_params params ranges, zones ▸ room, zones ▸ ordered⟩

theorem queueLaw_of_same {s t : State} (params : t.params = s.params) (entries : t.cuts.entries = s.cuts.entries)
    (orders : t.cuts.nextOrder = s.cuts.nextOrder) (law : QueueLaw s) : QueueLaw t := by
  obtain ⟨ranges, ordered, unique, fresh⟩ := law
  refine ⟨paramsLaw_of_params params ranges, ?_, ?_, ?_⟩
  · rwa [entries]
  · rwa [entries]
  · rwa [entries, orders]

theorem countsLaw_of_same {s t : State} (counts : ∀ p : Fin 8, t.store.pages[p].count = s.store.pages[p].count)
    (slots : ∀ p : Fin 8, t.store.pages[p].slots = s.store.pages[p].slots) (law : CountsLaw s) : CountsLaw t := by
  intro p
  rw [counts, slots]
  exact law p

theorem SameTables.keeps {s t : State} (h : SameTables s t) : KeepsTables s t where
  web := webLaw_of_same h.params h.web
  stretch := stretchLaw_of_same h.params h.stretch
  bounds := by
    rintro ⟨lists, zones, actions, requests, events⟩
    refine ⟨fun n => h.lists n ▸ lists n, ?_, ?_, ?_, ?_⟩
    · rwa [h.zones]
    · rwa [h.actions]
    · rwa [h.requests]
    · rwa [h.events]
  zones := zonesLaw_of_same h.params h.zones
  counts := countsLaw_of_same h.counts h.slots
  queue := queueLaw_of_same h.params h.entries h.orders

theorem SameLine.keeps {s t : State} (h : SameLine s t) : KeepsLine s t where
  speed law := by
    unfold SpeedLaw at *
    rw [h.speed, law, wantedSpeed_of_line h.params h.line h.band]
  sets law := by
    unfold SetsLaw at *
    rwa [h.line, h.holds, h.trips, h.firstCause, h.jobEnd]
  pages law := by
    unfold PagesLaw at *
    simp only [h.line, h.jobEnd, h.reader, h.states]
    exact law

/-- A change that no law sees. -/
theorem Keeps.of_same {s t : State} (tables : SameTables s t) (line : SameLine s t) : Keeps s t :=
  ⟨tables.keeps, line.keeps⟩

/-! ## Eyes, pins, beam, handoff, and the registers but their stretch estimates -/

theorem onEye_keeps (s : State) (n : Lane) (f : Eye → Eye) : Keeps s (s.onEye n f) := .of_same {} {}
theorem onPins_keeps (s : State) (f : Pins → Pins) : Keeps s (s.onPins f) := .of_same {} {}
theorem onBeam_keeps (s : State) (f : Beam → Beam) : Keeps s (s.onBeam f) := .of_same {} {}
theorem onHand_keeps (s : State) (f : Handoff → Handoff) : Keeps s (s.onHand f) := .of_same {} {}
theorem onChannel_keeps (s : State) (ch : Lane) (f : Channel → Channel) : Keeps s (s.onChannel ch f) := .of_same {} {}

theorem onReg_keeps (s : State) (n : Lane) {g : LaneReg → LaneReg} (same : ∀ r, (g r).f = r.f := by exact fun _ => rfl) :
    Keeps s (s.onReg n g) :=
  .of_same { stretch := fun m => by rw [State.onReg_reg, Lanes.get_set]; split <;> simp_all } {}

/-- A lane's register changed, its stretch estimate kept within every limit it stands in. -/
theorem onReg_keeps_of_limits (s : State) (n : Lane) {g : LaneReg → LaneReg}
    (limits : ∀ lim, s.par .stretchLimit = lim → 0 ≤ lim → -lim ≤ (s.reg.get n).f ∧ (s.reg.get n).f ≤ lim →
      -lim ≤ (g (s.reg.get n)).f ∧ (g (s.reg.get n)).f ≤ lim) : Keeps s (s.onReg n g) where
  toKeepsTables :=
    { web := id, bounds := id, zones := id, counts := id, queue := id
      stretch := by
        rintro ⟨ranges, within⟩
        refine ⟨ranges, fun m => ?_⟩
        have positive : 0 ≤ s.par .stretchLimit := by
          have := (ranges.1 .stretchLimit).1
          simp [paramLow, paramTable] at this
          omega
        rw [State.onReg_reg, Lanes.get_set]
        split
        · exact limits _ rfl positive (within n)
        · exact within m }
  toKeepsLine := ⟨id, id, id⟩

theorem mapReg_eq (s : State) (g : Lane → LaneReg → LaneReg) :
    s.mapReg g = (((s.onReg .lane0 (g .lane0)).onReg .lane1 (g .lane1)).onReg .lane2 (g .lane2)).onReg .lane3 (g .lane3) := rfl

theorem mapReg_keeps (s : State) {g : Lane → LaneReg → LaneReg} (same : ∀ n r, (g n r).f = r.f ∨ (g n r).f = 0) :
    Keeps s (s.mapReg g) := by
  have one (n : Lane) (u : State) : Keeps u (u.onReg n (g n)) :=
    onReg_keeps_of_limits u n fun lim _ positive within => by
      rcases same n (u.reg.get n) with e | e <;> omega
  rw [mapReg_eq]
  exact (((one _ _).trans (one _ _)).trans (one _ _)).trans (one _ _)

/-- A change made in every lane keeps the laws when it keeps them in each. -/
theorem forLanes_keeps {f : Lane → State → State} (each : ∀ n u, Keeps u (f n u)) (s : State) : Keeps s (forLanes f s) :=
  (((each _ _).trans (each _ _)).trans (each _ _)).trans (each _ _)

theorem foldl_keeps {β : Type} {f : State → β → State} (each : ∀ u b, Keeps u (f u b)) (l : List β) (s : State) :
    Keeps s (l.foldl f s) := by
  induction l generalizing s with
  | nil => exact .refl s
  | cons a r ih => exact (each s a).trans (ih _)

/-! ## The lane lists, the Zone List and the queues -/

theorem onList_keeps (s : State) (n : Lane) {f : List Ctx → List Ctx}
    (room : (s.lists.get n).length ≤ listMax → (f (s.lists.get n)).length ≤ listMax) : Keeps s (s.onList n f) where
  toKeepsTables :=
    { web := id, stretch := id, zones := id, counts := id, queue := id
      bounds := by
        rintro ⟨lists, rest⟩
        refine ⟨fun m => ?_, rest⟩
        rw [State.onList_lists, Lanes.get_set]
        split
        · exact room (lists n)
        · exact lists m }
  toKeepsLine := ⟨id, id, id⟩

theorem mapList_keeps (s : State) (n : Lane) (f : Ctx → Ctx) : Keeps s (s.onList n (List.map f)) :=
  onList_keeps s n (by simp)

theorem onCtx_keeps (s : State) (n : Lane) (q : Source) (f : Ctx → Ctx) : Keeps s (s.onCtx n q f) := mapList_keeps s n _

/-- The Zone List replaced by one within its capacity, in order where the old one was. -/
theorem onZones_keeps (s : State) {f : List Zone → List Zone} (room : s.zones.length ≤ zoneMax → (f s.zones).length ≤ zoneMax)
    (ordered : ZonesLaw s → ZonesOrdered (f s.zones)) : Keeps s (s.onZones f) where
  toKeepsTables :=
    { web := id, stretch := id, counts := id, queue := id
      bounds := fun ⟨lists, zones, rest⟩ => ⟨lists, room zones, rest⟩
      zones := fun law => ⟨law.1, room law.2.1, ordered law⟩ }
  toKeepsLine := ⟨id, id, id⟩

/-- The station link changed, its waiting actions kept within their capacity. -/
theorem onStation_keeps (s : State) {f : Station → Station}
    (room : s.station.actions.length ≤ actionMax → (f s.station).actions.length ≤ actionMax) : Keeps s (s.onStation f) where
  toKeepsTables :=
    { web := id, stretch := id, zones := id, counts := id, queue := id
      bounds := fun ⟨lists, zones, actions, rest⟩ => ⟨lists, zones, room actions, rest⟩ }
  toKeepsLine := ⟨id, id, id⟩

/-- The line link changed, its queues kept within their capacity. -/
theorem onLink_keeps (s : State) {f : LineLink → LineLink}
    (requests : s.link.requests.length ≤ requestMax → (f s.link).requests.length ≤ requestMax)
    (events : s.link.events.length ≤ eventMax → (f s.link).events.length ≤ eventMax) : Keeps s (s.onLink f) where
  toKeepsTables :=
    { web := id, stretch := id, zones := id, counts := id, queue := id
      bounds := fun ⟨lists, zones, actions, r, e⟩ => ⟨lists, zones, actions, requests r, events e⟩ }
  toKeepsLine := ⟨id, id, id⟩

theorem queueEvent_keeps (e : Event) (s : State) : Keeps s (queueEvent e s) := by
  refine onLink_keeps s ?_ ?_ <;> intro room <;> split
  · exact room
  · exact room
  · next free => simpa using free
  · exact room

theorem queueLine_keeps (sort : LineEventSort) (s : State) : Keeps s (queueLine sort s) := queueEvent_keeps _ s

theorem reply_keeps (kind tag : Byte) (st : Status) (rest : List Byte) (s : State) : Keeps s (reply kind tag st rest s) :=
  onLink_keeps s id id

theorem pushAction_keeps (a : Action) (s : State) : Keeps s (pushAction a s).1 := by
  unfold pushAction
  split
  · next free => exact onStation_keeps s (f := fun t => { t with actions := t.actions ++ [a] }) fun _ => by simpa using free
  · exact .refl s

/-! ## The Plan Store -/

theorem onPage_get (s : State) (p q : Fin 8) (f : Page → Page) :
    (s.onPage p f).store.pages[q] = if p = q then f s.store.pages[p] else s.store.pages[q] := by
  simp [State.onPage, Vector.getElem_set, Fin.ext_iff]

/-- A page changed, its record count still that of its slots. -/
theorem onPage_keepsTables (s : State) (p : Fin 8) {f : Page → Page}
    (count : s.store.pages[p].count = slotCount s.store.pages[p].slots →
      (f s.store.pages[p]).count = slotCount (f s.store.pages[p]).slots) : KeepsTables s (s.onPage p f) where
  web := id
  stretch := id
  bounds := id
  zones := id
  queue := id
  counts := by
    intro law q
    rw [onPage_get]
    split
    · exact count (law p)
    · exact law q

/-- A page changed that is neither opened nor closed by it. -/
theorem onPage_keeps (s : State) (p : Fin 8) {f : Page → Page}
    (count : s.store.pages[p].count = slotCount s.store.pages[p].slots →
      (f s.store.pages[p]).count = slotCount (f s.store.pages[p]).slots)
    (opened : (f s.store.pages[p]).state = .opened ↔ s.store.pages[p].state = .opened) : Keeps s (s.onPage p f) where
  toKeepsTables := onPage_keepsTables s p count
  toKeepsLine :=
    { speed := id, sets := id
      pages := by
        rintro ⟨open_, jobEnd, idle⟩
        refine ⟨fun q => ?_, jobEnd, idle⟩
        rw [onPage_get]
        split
        · next e => rw [opened, open_, e]; rfl
        · exact open_ q }

theorem onStore_next_keeps (s : State) (next : Fin 8) : Keeps s (s.onStore fun t => { t with next := next }) :=
  .of_same {} {}

/-! ## The motion -/

/-- The Motion Controller changed: its laws are those of the new motion. -/
theorem onMotion_keepsTables (s : State) (f : Motion → Motion) : KeepsTables s (s.onMotion f) := SameTables.keeps {}

end Sys2Proof.Machine
end

section
/-! PROOFS. The operations of the Motion Controller keep the laws: hold reasons, trips, job end, the bands, the outfeed. -/
namespace Sys2Proof.Machine

/-! ## The laws of line motion on a motion written out -/

/-- Where the pages stand, the laws of the line are those of the new motion. -/
theorem keepsLine_of_motion {s t : State} (reader : t.reader = s.reader)
    (states : ∀ p : Fin 8, t.store.pages[p].state = s.store.pages[p].state)
    (speed : SpeedLaw s → SpeedLaw t) (sets : SetsLaw s → SetsLaw t)
    (jobEnd : (s.motion.jobEnd = true → s.reader = .finished ∧ (s.motion.line = .holding ∨ s.motion.line = .tripped)) →
      t.motion.jobEnd = true → s.reader = .finished ∧ (t.motion.line = .holding ∨ t.motion.line = .tripped))
    (idle : PagesLaw s → t.motion.line = .idle → s.reader = .inactive ∨ s.reader = .finished) : KeepsLine s t where
  speed := speed
  sets := sets
  pages := by
    intro law
    refine ⟨?_, ?_, ?_⟩
    · simpa only [states, reader] using law.1
    · rw [reader]; exact jobEnd law.2.1
    · rw [reader]; exact idle law

/-- In a line that does not run the commanded speed is 0 (R146). -/
theorem speedLaw_of_not_running {s : State} (line : s.motion.line ≠ .running) : SpeedLaw s ↔ s.motion.speed = 0 := by
  unfold SpeedLaw State.wantedSpeed
  rw [if_neg line]

/-! ## Hold reasons -/

theorem addReason_tables (r : HoldReason) (s : State) : KeepsTables s (addReason r s) := by
  unfold addReason
  split
  · exact .refl s
  · exact (onMotion_keepsTables s _).trans (queueLine_keeps _ _).toKeepsTables

/-- Hold reasons may join the set in a line that neither runs nor is idle (R134). -/
theorem keepsLine_of_holdsOnly {s t : State} (holds : HoldsOnly s t)
    (reader : t.reader = s.reader) (store : t.store = s.store)
    (line : s.motion.line ≠ .running ∧ s.motion.line ≠ .idle) : KeepsLine s t := by
  obtain ⟨h, motion⟩ := holds
  refine keepsLine_of_motion reader (by simp [store]) ?_ ?_ ?_ ?_
  · rw [speedLaw_of_not_running line.1, speedLaw_of_not_running (by rw [motion]; exact line.1), motion]
    exact id
  · rintro ⟨untripped, tripped, -, jobEnd⟩
    unfold SetsLaw
    rw [motion]
    exact ⟨untripped, tripped, fun h => by tauto, jobEnd⟩
  · rw [motion]
    exact id
  · rw [motion]
    exact fun law => law.2.2

theorem addReason_keeps (r : HoldReason) {s : State} (line : s.motion.line ≠ .running ∧ s.motion.line ≠ .idle) :
    Keeps s (addReason r s) :=
  ⟨addReason_tables r s, keepsLine_of_holdsOnly (addReason_holdsOnly r s) (by simp) (by simp) line⟩

theorem stationIfFailed_tables (sf : State × Bool) : KeepsTables sf.1 (stationIfFailed sf) := by
  unfold stationIfFailed
  split
  · exact addReason_tables _ _
  · exact .refl _

theorem commandSpeed_tables (s : State) : KeepsTables s (commandSpeed s).1 := by
  unfold commandSpeed
  split
  · exact .refl s
  · refine KeepsTables.trans ?_ ((onMotion_keepsTables _ _).trans (pushAction_keeps _ _).toKeepsTables)
    split
    · exact (onMotion_keepsTables s _).trans (pushAction_keeps _ _).toKeepsTables
    · exact .refl s

/-- The commanded speed worked out afresh is the one asked for (R146). -/
theorem commandSpeed_speedLaw (s : State) : SpeedLaw (commandSpeed s).1 := by
  have motion := commandSpeed_motion s
  have wanted : (commandSpeed s).1.wantedSpeed = s.wantedSpeed :=
    wantedSpeed_of_line (by simp) (by rw [motion]) (by rw [motion])
  unfold SpeedLaw
  rw [wanted, motion]

theorem commandSpeed_keeps (s : State) : Keeps s (commandSpeed s).1 where
  toKeepsTables := commandSpeed_tables s
  toKeepsLine := by
    have motion := commandSpeed_motion s
    refine keepsLine_of_motion (by simp) (by simp) ?_ ?_ ?_ ?_
    · exact fun _ => commandSpeed_speedLaw s
    · unfold SetsLaw
      rw [motion]
      exact id
    · rw [motion]
      exact id
    · rw [motion]
      exact fun law => law.2.2

theorem enterHolding_tables (s : State) : KeepsTables s (enterHolding s) :=
  (((onMotion_keepsTables s _).trans (queueLine_keeps _ _).toKeepsTables).trans (commandSpeed_tables _)).trans
    (stationIfFailed_tables _)

/-- From s to t the line has entered HOLDING (R142). -/
theorem keepsLine_of_holding {s t : State} {h : HoldSet} {j : Bool}
    (motion : t.motion = { s.motion with line := .holding, speed := 0, holds := h, jobEnd := j, nip := t.motion.nip })
    (reader : t.reader = s.reader) (store : t.store = s.store)
    (untripped : s.motion.line ≠ .tripped)
    (finished : j = true → s.motion.jobEnd = true ∨ s.reader = .finished) : KeepsLine s t := by
  have line : t.motion.line = .holding := by rw [motion]
  have speed : t.motion.speed = 0 := by rw [motion]
  have jobEnd : t.motion.jobEnd = j := by rw [motion]
  refine keepsLine_of_motion reader (by simp [store]) ?_ ?_ ?_ ?_
  · exact fun _ => (speedLaw_of_not_running (by simp [line])).mpr speed
  · intro law
    unfold SetsLaw
    rw [motion]
    simp [law.1 untripped]
  · rw [line, jobEnd]
    intro before ended
    refine ⟨?_, .inl rfl⟩
    rcases finished ended with h | h
    · exact (before h).1
    · exact h
  · simp [line]

/-- On entering HOLDING the job-end flag may be set with the Reader FINISHED (R142, R152). -/
theorem enterHolding_keeps {s u : State} (tables : KeepsTables s u)
    (reader : u.reader = s.reader) (store : u.store = s.store) (untripped : s.motion.line ≠ .tripped)
    (motion : ∃ h j, u.motion = { s.motion with holds := h, jobEnd := j }
      ∧ (j = true → s.motion.jobEnd = true ∨ s.reader = .finished)) : Keeps s (enterHolding u) := by
  obtain ⟨h, j, motion, finished⟩ := motion
  obtain ⟨h', holding⟩ := enterHolding_motion u
  refine ⟨tables.trans (enterHolding_tables u), ?_⟩
  refine keepsLine_of_holding (h := h') (j := j) ?_ (by simp [reader]) (by simp [store]) untripped finished
  rw [holding, motion]

theorem raiseHold_keeps (r : HoldReason) (s : State) : Keeps s (raiseHold r s) := by
  unfold raiseHold
  split
  case h_2 running =>
    exact enterHolding_keeps (onMotion_keepsTables s _) rfl rfl (by simp [running]) ⟨_, s.motion.jobEnd, rfl, .inl⟩
  case h_1 => exact .refl s
  all_goals
    rename_i line
    exact addReason_keeps r (by simp [line])

theorem laminatorFailed_keeps (sf : State × Bool) : Keeps sf.1 (laminatorFailed sf) := by
  unfold laminatorFailed
  split
  · exact raiseHold_keeps _ _
  · exact .refl _

theorem updateSpeed_keeps (s : State) : Keeps s (updateSpeed s) := (commandSpeed_keeps s).trans (laminatorFailed_keeps _)

/-- Job end is signalled with the Reader FINISHED (R152). -/
theorem signalJobEnd_keeps {s : State} (finished : s.reader = .finished) : Keeps s (signalJobEnd s) := by
  have flagged (line : s.motion.line = .holding ∨ s.motion.line = .tripped) :
      Keeps s (s.onMotion fun m => { m with jobEnd := true }) := by
    refine ⟨onMotion_keepsTables s _, ?_⟩
    refine keepsLine_of_motion rfl (fun _ => rfl) id ?_ ?_ fun law => law.2.2
    · rintro ⟨untripped, tripped, holds, -⟩
      exact ⟨untripped, tripped, holds, fun _ => line⟩
    · exact fun _ _ => ⟨finished, line⟩
  have stopped (line : s.motion.line ≠ .tripped) : Keeps s (enterHolding (s.onMotion fun m => { m with jobEnd := true })) :=
    enterHolding_keeps (onMotion_keepsTables s _) rfl rfl line ⟨s.motion.holds, true, rfl, fun _ => .inr finished⟩
  unfold signalJobEnd
  split
  case h_1 => exact .refl s
  case h_2 line => exact stopped (by simp [line])
  case h_3 line => exact stopped (by simp [line])
  case h_4 line => exact stopped (by simp [line])
  case h_5 line => exact flagged (.inl line)
  case h_6 line => exact flagged (.inr line)

/-! ## The head of the Cut Queue -/

/-- A changed entry that stands where the old one stood (R102). -/
structure SameStanding (a b : Entry) : Prop where
  coord : b.coord = a.coord := by rfl
  lane : lowestLane b = lowestLane a := by rfl
  order : b.order = a.order := by rfl
  fixed : b.status = .provisional ↔ a.status = .provisional

theorem queueOrdered_head {a b : Entry} {r : List Entry} (same : SameStanding a b) (ordered : QueueOrdered (a :: r)) :
    QueueOrdered (b :: r) := by
  cases r with
  | nil => trivial
  | cons c r =>
    unfold QueueOrdered at *
    rwa [same.coord, same.lane, same.order, Ne, same.fixed]

/-- The head entry changed, where it stands unchanged. -/
theorem onHead_keeps (s : State) {f : Entry → Entry} (same : ∀ e, s.headEntry = some e → SameStanding e (f e)) :
    Keeps s (s.onHead f) where
  toKeepsTables :=
    { web := id, stretch := id, bounds := id, zones := id, counts := id
      queue := by
        rintro ⟨ranges, ordered, unique, fresh⟩
        have entries : (s.onHead f).cuts.entries = match s.cuts.entries with | [] => [] | e :: r => f e :: r := rfl
        have orders : (s.onHead f).cuts.nextOrder = s.cuts.nextOrder := rfl
        unfold QueueLaw
        rw [entries, orders]
        unfold State.headEntry at same
        cases list : s.cuts.entries with
        | nil => exact ⟨ranges, trivial, by simp, by simp⟩
        | cons e r =>
          rw [list] at ordered unique fresh same
          have stands := same e rfl
          refine ⟨ranges, queueOrdered_head stands ordered, ?_, ?_⟩
          · simpa [stands.order] using unique
          · simpa [stands.order] using fresh }
  toKeepsLine := ⟨id, id, id⟩

/-- The timers and outputs of the Knife Sequencer changed. -/
theorem onCuts_keeps_of_entries (s : State) {f : Cuts → Cuts} (entries : (f s.cuts).entries = s.cuts.entries)
    (orders : (f s.cuts).nextOrder = s.cuts.nextOrder) : Keeps s (s.onCuts f) :=
  .of_same { entries := entries, orders := orders } {}

/-- The head moves between statuses that have left PROVISIONAL. -/
theorem setHeadStatus_keeps (s : State) (st : CutStatus) (fixed : st ≠ .provisional)
    (head : ∀ e, s.headEntry = some e → e.status ≠ .provisional) : Keeps s (s.onHead fun e => { e with status := st }) :=
  onHead_keeps s fun e h => { fixed := by simp [fixed, head e h] }

/-! ## Trips -/

theorem tripHead_keeps (s : State) : Keeps s (tripHead s) := by
  unfold tripHead
  split
  · next status =>
    obtain ⟨e, head, status⟩ := Option.map_eq_some_iff.mp status
    exact (setHeadStatus_keeps s .locked (by simp) (by simp [head, status])).trans (onCuts_keeps_of_entries _ rfl rfl)
  · next status =>
    obtain ⟨e, head, status⟩ := Option.map_eq_some_iff.mp status
    exact (setHeadStatus_keeps s .interrupted (by simp) (by simp [head, status])).trans (onCuts_keeps_of_entries _ rfl rfl)
  · exact .refl s

theorem enterTripped_keeps (c : TripCause) (s : State) : Keeps s (enterTripped c s) where
  toKeepsTables :=
    ((((onMotion_keepsTables s _).trans (queueLine_keeps _ _).toKeepsTables).trans (commandSpeed_tables _)).trans
      (stationIfFailed_tables _)).trans (tripHead_keeps _).toKeepsTables
  toKeepsLine := by
    obtain ⟨h, motion⟩ := enterTripped_motion c s
    have tripped : (enterTripped c s).motion.line = .tripped := by rw [motion]
    refine keepsLine_of_motion (by simp) (by simp) ?_ ?_ ?_ ?_
    · exact fun _ => (speedLaw_of_not_running (by simp [tripped])).mpr (by rw [motion])
    · intro _
      unfold SetsLaw
      rw [motion]
      simp
    · rw [motion]
      exact fun before ended => ⟨(before ended).1, .inr rfl⟩
    · simp [tripped]

theorem raiseTrip_keeps (c : TripCause) (s : State) : Keeps s (raiseTrip c s) := by
  unfold raiseTrip
  split
  case h_1 => exact .refl s
  case h_2 tripped =>
    split
    · exact .refl s
    · refine Keeps.trans ⟨onMotion_keepsTables s _, ?_⟩ (queueLine_keeps _ _)
      refine keepsLine_of_motion rfl (fun _ => rfl) id ?_ id fun law => law.2.2
      rintro ⟨-, causes, -, -⟩
      refine ⟨by simp [tripped], fun _ => ?_, by simp [tripped], by simp [tripped]⟩
      obtain ⟨c', first, has⟩ := causes tripped
      refine ⟨c', first, ?_⟩
      revert has
      cases c <;> cases c' <;> simp [TripSet.has, TripSet.add]
  all_goals exact enterTripped_keeps c s

theorem tripIfAsserted_keeps (i : TripInput) (s : State) : Keeps s (tripIfAsserted i s) := by
  unfold tripIfAsserted
  split
  · exact raiseTrip_keeps _ _
  · exact .refl s

theorem tripAsserted_keeps (s : State) : Keeps s (tripAsserted s) :=
  (((tripIfAsserted_keeps _ _).trans (tripIfAsserted_keeps _ _)).trans (tripIfAsserted_keeps _ _)).trans
    (tripIfAsserted_keeps _ _)

/-! ## The bands and the outfeed -/

/-- The motion changed in fields that no law speaks of. -/
theorem onMotion_keeps_of_same (s : State) {f : Motion → Motion} (line : (f s.motion).line = s.motion.line := by rfl)
    (holds : (f s.motion).holds = s.motion.holds := by rfl) (trips : (f s.motion).trips = s.motion.trips := by rfl)
    (firstCause : (f s.motion).firstCause = s.motion.firstCause := by rfl)
    (jobEnd : (f s.motion).jobEnd = s.motion.jobEnd := by rfl) (band : (f s.motion).band = s.motion.band := by rfl)
    (speed : (f s.motion).speed = s.motion.speed := by rfl) : Keeps s (s.onMotion f) :=
  .of_same {} { line := line, holds := holds, trips := trips, firstCause := firstCause, jobEnd := jobEnd, band := band,
                speed := speed }

theorem sendDrive_keeps (d : DriveCommand) (o : Outfeed) (s : State) : Keeps s (sendDrive d o s) :=
  onMotion_keeps_of_same s

/-- A new band brings the speed it asks for (R145, R146). -/
theorem setBand_commandSpeed_keeps (b : Band) (s : State) :
    Keeps s (commandSpeed (s.onMotion fun m => { m with band := b })).1 where
  toKeepsTables := (onMotion_keepsTables s _).trans (commandSpeed_tables _)
  toKeepsLine := by
    have motion := commandSpeed_motion (s.onMotion fun m => { m with band := b })
    refine keepsLine_of_motion (by simp) (by simp) ?_ ?_ ?_ ?_
    · exact fun _ => commandSpeed_speedLaw _
    · unfold SetsLaw
      rw [motion]
      exact id
    · rw [motion]
      exact id
    · rw [motion]
      exact fun law => law.2.2

theorem judgeContent_keeps (s : State) : Keeps s (judgeContent s) := by
  unfold judgeContent
  split
  · exact .refl s
  · exact ((setBand_commandSpeed_keeps _ s).trans (laminatorFailed_keeps _)).trans (onMotion_keeps_of_same _)

theorem indexable_locked {s : State} {e : Entry} (h : s.indexable = some e) : s.headEntry = some e ∧ e.status = .locked := by
  unfold State.indexable at h
  split at h
  · next a head =>
    split at h
    · next ok =>
      obtain rfl : a = e := by simpa using h
      exact ⟨head, ok.1⟩
    · contradiction
  · contradiction

theorem issueIndex_keeps (e : Entry) {s : State} (locked : s.indexable = some e) : Keeps s (issueIndex e s) := by
  obtain ⟨head, status⟩ := indexable_locked locked
  unfold issueIndex
  refine ((sendDrive_keeps _ _ s).trans (setHeadStatus_keeps _ .indexing (by simp) ?_)).trans
    (onCuts_keeps_of_entries _ rfl rfl)
  intro a h
  obtain rfl : e = a := by simpa [State.headEntry] using head.symm.trans h
  simp [status]

theorem judgeOutfeed_keeps (s : State) : Keeps s (judgeOutfeed s) := by
  unfold judgeOutfeed
  split
  · exact .refl s
  split
  · split
    · exact sendDrive_keeps _ _ s
    · exact .refl s
  split
  · next e locked => exact issueIndex_keeps e locked
  split
  · split
    · split
      · exact .refl s
      · exact sendDrive_keeps _ _ s
    · split
      · exact sendDrive_keeps _ _ s
      · exact .refl s
  · split
    · exact .refl s
    · exact sendDrive_keeps _ _ s

theorem judgeHolding_keeps (entered headChanged : Bool) (s : State) : Keeps s (judgeHolding entered headChanged s) := by
  unfold judgeHolding
  split
  · next e locked =>
    refine issueIndex_keeps e ?_
    split at locked
    · exact locked
    · contradiction
  · split
    · exact sendDrive_keeps _ _ s
    · exact .refl s

end Sys2Proof.Machine
end

section
/-! PROOFS. What lanes expect, the Zone List and the Cut Queue keep the laws (R93, R96, R98, R102, R106 to R108). -/
namespace Sys2Proof.Machine

/-! ## What a lane expects -/

theorem giveInspection_keeps (n : Lane) (q : Source) (s : State) : Keeps s (giveInspection n q s) := onCtx_keeps s n q _

theorem inspectBegin_keeps (n : Lane) (i : Option Interval) (s : State) : Keeps s (inspectBegin n i s) := by
  unfold inspectBegin
  split
  · split
    · exact giveInspection_keeps _ _ s
    · exact .refl s
  · exact .refl s

theorem armStart_keeps (n : Lane) (q : Source) (x : Int) (s : State) : Keeps s (armStart n q x s) :=
  (onEye_keeps s n _).trans (inspectBegin_keeps _ _ _)

theorem armPitch_keeps (n : Lane) (q : Source) (x : Int) (s : State) : Keeps s (armPitch n q x s) :=
  (onEye_keeps s n _).trans (inspectBegin_keeps _ _ _)

theorem formStart_keeps (n : Lane) (s : State) : Keeps s (formStart n s) := by
  unfold formStart
  dsimp only
  split
  · split
    · split
      · exact onReg_keeps s n
      · split
        · exact (onReg_keeps s n).trans (armStart_keeps _ _ _ _)
        · exact onReg_keeps s n
    · exact .refl s
  · exact .refl s

theorem reformStart_keeps (n : Lane) (s : State) : Keeps s (reformStart n s) := by
  unfold reformStart
  dsimp only
  split
  · split
    · split
      · exact (onReg_keeps s n).trans (armStart_keeps _ _ _ _)
      · exact onReg_keeps s n
    · exact .refl s
  · exact .refl s

theorem setEnd_keeps (n : Lane) (e : Int) (s : State) : Keeps s (setEnd n e s) :=
  (onReg_keeps s n).trans (reformStart_keeps _ _)

theorem formPitch_keeps (n : Lane) (s : State) : Keeps s (formPitch n s) := by
  unfold formPitch
  dsimp only
  split
  · split
    · split
      · exact (onReg_keeps s n).trans (armPitch_keeps _ _ _ _)
      · exact onReg_keeps s n
    · exact onReg_keeps s n
  · exact onReg_keeps s n

/-! ## The Zone List -/

theorem insertZone_length (z : Zone) (l : List Zone) : (insertZone z l).length = l.length + 1 := by
  induction l with
  | nil => rfl
  | cons a r ih =>
    unfold insertZone
    split <;> simp [ih]

/-- A merge keeps the Zone List within its capacity (R96). -/
theorem mergeZone_length (z : Zone) {l : List Zone} (room : l.length ≤ zoneMax) : (mergeZone z l).1.length ≤ zoneMax := by
  unfold mergeZone
  split
  · next hit =>
    obtain ⟨a, mem, touched⟩ := List.any_eq_true.mp hit
    have fewer : (l.filter fun a => !touches z.lo z.hi a).length < l.length :=
      List.length_filter_lt_length_iff_exists.mpr ⟨a, mem, by simp [touched]⟩
    rw [insertZone_length]
    omega
  · split
    · next free => rw [insertZone_length]; exact free
    · next full =>
      split
      · next none =>
        have empty : l = [] := by
          cases l with
          | nil => rfl
          | cons a r =>
            unfold nearestZone at none
            split at none <;> (try split at none) <;> contradiction
        simp [empty, zoneMax] at full
      · simpa using room

/-- A zone that touches none and starts nearest to zone a leaves the list in order when it widens a (R93, R96). -/
theorem zonesOrdered_widen {z a : Zone} {before after : List Zone} (ordered : ZonesOrdered (before ++ after))
    (spans : z.lo < z.hi) (below : ∀ b ∈ before, b.hi < z.lo) (above : ∀ b ∈ after, z.hi < b.lo)
    (mem : a ∈ before ++ after) (nearer : ∀ c ∈ before ++ after, StartsNearer z.lo a c) :
    ZonesOrdered ((before ++ after).map fun b => if b = a then ⟨min a.lo z.lo, max a.hi z.hi, a.cause⟩ else b) := by
  obtain ⟨front, back, eq⟩ := List.append_of_mem mem
  rw [eq] at ordered nearer ⊢
  obtain ⟨frontOrdered, tail, apart⟩ := zonesOrdered_append.mp ordered
  obtain ⟨aSpans, aApart, backOrdered⟩ := zonesOrdered_cons.mp tail
  have frontBelow : ∀ b ∈ front, b.hi < a.lo := fun b hb => apart b hb a List.mem_cons_self
  have side : ∀ c ∈ front ++ a :: back, c.hi < z.lo ∨ z.hi < c.lo := by
    intro c hc
    rw [← eq, List.mem_append] at hc
    exact hc.elim (fun h => .inl (below c h)) fun h => .inr (above c h)
  have frontSame : front.map (fun b => if b = a then ⟨min a.lo z.lo, max a.hi z.hi, a.cause⟩ else b) = front := by
    refine (List.map_congr_left fun b hb => if_neg ?_).trans (List.map_id _)
    rintro rfl
    have := frontBelow b hb
    omega
  have backSame : back.map (fun b => if b = a then ⟨min a.lo z.lo, max a.hi z.hi, a.cause⟩ else b) = back := by
    refine (List.map_congr_left fun b hb => if_neg ?_).trans (List.map_id _)
    rintro rfl
    have := aApart b hb
    omega
  rw [List.map_append, List.map_cons, frontSame, backSame, if_pos rfl]
  have zSide := side a (by simp)
  refine zonesOrdered_append.mpr ⟨frontOrdered, zonesOrdered_cons.mpr ⟨?_, fun b hb => ?_, backOrdered⟩, ?_⟩
  · simp only [lt_max_iff, min_lt_iff]
    omega
  · have := aApart b hb
    have := lo_lt_hi_of_mem backOrdered hb
    have zb := side b (by simp [hb])
    have near := nearer b (by simp [hb])
    simp only [max_lt_iff]
    simp only [StartsNearer, abs_eq_max_neg] at near
    omega
  · intro b hb c hc
    have := frontBelow b hb
    have := lo_lt_hi_of_mem frontOrdered hb
    rcases List.mem_cons.mp hc with rfl | hc
    · have zb := side b (by simp [hb])
      have near := nearer b (by simp [hb])
      simp only [lt_min_iff]
      simp only [StartsNearer, abs_eq_max_neg] at near
      omega
    · exact apart b hb c (List.mem_cons_of_mem _ hc)

/-- A merge leaves the zones in order and apart (R93, R96). -/
theorem mergeZone_ordered {z : Zone} {l : List Zone} (ordered : ZonesOrdered l) (spans : z.lo < z.hi)
    (room : l.length ≤ zoneMax) : ZonesOrdered (mergeZone z l).1 := by
  obtain ⟨before, mid, after, split⟩ := exists_zoneSplit (z := z) ordered
  cases mid with
  | nil =>
    have list : l = before ++ after := by simpa using split.eq
    obtain ⟨beforeOrdered, afterOrdered, apart⟩ := zonesOrdered_append.mp (list ▸ ordered)
    by_cases free : l.length < zoneMax
    · rw [mergeZone_room ordered spans split free]
      refine zonesOrdered_append.mpr ⟨beforeOrdered, zonesOrdered_cons.mpr ⟨spans, split.above, afterOrdered⟩, ?_⟩
      exact fun b hb => List.forall_mem_cons.mpr ⟨split.below b hb, apart b hb⟩
    · obtain ⟨x, r, cons⟩ := List.exists_cons_of_length_pos (l := l) (by simp [zoneMax] at free; omega)
      obtain ⟨a, mem, nearest, nearer⟩ := exists_nearestZone (lo := z.lo) (cons ▸ ordered)
      rw [← cons] at mem nearest nearer
      rw [mergeZone_full split (by omega) nearest]
      rw [list] at ordered mem nearer ⊢
      exact zonesOrdered_widen ordered spans split.below split.above mem nearer
  | cons a r =>
    rw [mergeZone_touched ordered spans split]
    have list := split.eq ▸ ordered
    obtain ⟨front, afterOrdered, apart⟩ := zonesOrdered_append.mp list
    obtain ⟨beforeOrdered, midOrdered, ahead⟩ := zonesOrdered_append.mp front
    have last : (a :: r).getLast (by simp) ∈ a :: r := List.getLast_mem _
    refine zonesOrdered_append.mpr ⟨beforeOrdered, zonesOrdered_cons.mpr ⟨?_, fun b hb => ?_, afterOrdered⟩, ?_⟩
    · simp only [lt_max_iff, min_lt_iff]
      omega
    · exact max_lt (split.above b hb) (apart _ (List.mem_append_right _ last) b hb)
    · intro b hb
      refine List.forall_mem_cons.mpr ⟨lt_min (split.below b hb) (ahead b hb a List.mem_cons_self), ?_⟩
      exact apart b (List.mem_append_left _ hb)

/-- Zones taken out leave the others in order (R93). -/
theorem zonesOrdered_filter (p : Zone → Bool) {l : List Zone} (ordered : ZonesOrdered l) : ZonesOrdered (l.filter p) := by
  induction l with
  | nil => trivial
  | cons a r ih =>
    obtain ⟨spans, apart, rest⟩ := zonesOrdered_cons.mp ordered
    rw [List.filter_cons]
    split
    · exact zonesOrdered_cons.mpr ⟨spans, fun b hb => apart b (List.mem_filter.mp hb).1, ih rest⟩
    · exact ih rest

theorem addPlaced_keeps {z : Zone} {s : State} (spans : ParamsLaw s → z.lo < z.hi) : Keeps s (addPlaced z s) := by
  have merged : Keeps s (s.onZones fun _ => (mergeZone z s.zones).1) :=
    onZones_keeps s (mergeZone_length z) fun law => mergeZone_ordered law.2.2 (spans law.1) law.2.1
  unfold addPlaced
  split
  · next l eq => rw [eq] at merged; exact merged
  · next l m eq => rw [eq] at merged; exact merged.trans (queueEvent_keeps _ _)

/-- A zone that is placed keeps some length (R95). -/
theorem placeZone_spans {p : Int} {z a : Zone} (spans : z.lo < z.hi) (placed : placeZone p z = some a) : a.lo < a.hi := by
  unfold placeZone at placed
  split at placed
  · contradiction
  · obtain rfl := Option.some.inj placed
    simp only [higher_eq_max, max_lt_iff]
    omega

theorem reportZone_keeps {lo len : Int} (cause : ZoneCause) {s : State} (length : ParamsLaw s → 0 ≤ len) :
    Keeps s (reportZone lo len cause s) := by
  unfold reportZone
  split
  · exact .refl s
  · next active =>
    split
    · exact queueEvent_keeps _ s
    · next placed =>
      refine addPlaced_keeps fun law => placeZone_spans ?_ placed
      have := length law
      dsimp only
      omega

theorem low_le_par {s : State} (law : ParamsLaw s) (p : Param) : paramLow p ≤ s.par p := (law.1 p).1
theorem par_le_high {s : State} (law : ParamsLaw s) (p : Param) : s.par p ≤ paramHigh p := (law.1 p).2

theorem reportSplice_keeps (s : State) : Keeps s (reportSplice s) :=
  reportZone_keeps _ fun law => low_le_par law .spliceZoneLen

theorem reportDwell_keeps (s : State) : Keeps s (reportDwell s) :=
  reportZone_keeps _ fun law => low_le_par law .dwellZoneLen

theorem removeZones_keeps (s : State) : Keeps s (removeZones s) := by
  unfold removeZones
  dsimp only
  split
  · exact .refl s
  · refine (forLanes_keeps (fun n u => mapList_keeps u n _) s).trans (onZones_keeps _ ?_ ?_)
    · exact fun room => (List.length_filter_le _ _).trans room
    · exact fun law => zonesOrdered_filter _ law.2.2

/-! ## The order of the Cut Queue -/

/-- Entry a may stand ahead of b in the Cut Queue (R102, R106, R111). -/
def StandsAhead (a b : Entry) : Prop :=
  (a.coord < b.coord
    ∨ a.coord = b.coord ∧ (lowestLane a < lowestLane b ∨ lowestLane a = lowestLane b ∧ a.order < b.order))
  ∧ (a.status = .provisional → b.status = .provisional)
  ∧ (a.status ≠ .provisional → b.status = .provisional → a.coord < b.coord)
  ∧ executing b.status = false

theorem StandsAhead.trans {a b c : Entry} (ab : StandsAhead a b) (bc : StandsAhead b c) : StandsAhead a c := by
  obtain ⟨ab1, ab2, ab3, -⟩ := ab
  obtain ⟨bc1, bc2, bc3, exec⟩ := bc
  refine ⟨by omega, bc2 ∘ ab2, fun ha hc => ?_, exec⟩
  by_cases hb : b.status = .provisional
  · have := ab3 ha hb
    omega
  · have := bc3 hb hc
    omega

/-- In an ordered queue the head may stand ahead of every other entry. -/
theorem queueOrdered_cons {a : Entry} {r : List Entry} :
    QueueOrdered (a :: r) ↔ (∀ b ∈ r, StandsAhead a b) ∧ QueueOrdered r := by
  induction r generalizing a with
  | nil => simp [QueueOrdered]
  | cons b r ih =>
    constructor
    · rintro ⟨lex, prov, fixed, exec, rest⟩
      have ab : StandsAhead a b := ⟨lex, prov, fixed, exec⟩
      exact ⟨List.forall_mem_cons.mpr ⟨ab, fun c hc => ab.trans ((ih.mp rest).1 c hc)⟩, rest⟩
    · rintro ⟨ahead, rest⟩
      obtain ⟨lex, prov, fixed, exec⟩ := ahead b List.mem_cons_self
      exact ⟨lex, prov, fixed, exec, rest⟩

theorem queueOrdered_append {l r : List Entry} :
    QueueOrdered (l ++ r) ↔ QueueOrdered l ∧ QueueOrdered r ∧ ∀ a ∈ l, ∀ b ∈ r, StandsAhead a b := by
  induction l with
  | nil => simp [QueueOrdered]
  | cons a l ih =>
    simp only [List.cons_append, queueOrdered_cons, ih, List.mem_append, List.forall_mem_cons, or_imp, forall_and]
    tauto

theorem queueOrdered_sublist {l r : List Entry} (sub : l.Sublist r) (ordered : QueueOrdered r) : QueueOrdered l := by
  induction sub with
  | slnil => trivial
  | cons a _ ih => exact ih (queueOrdered_cons.mp ordered).2
  | cons_cons a sub ih =>
    obtain ⟨ahead, rest⟩ := queueOrdered_cons.mp ordered
    exact queueOrdered_cons.mpr ⟨fun b hb => ahead b (sub.subset hb), ih rest⟩

/-- Entries changed where each stands as before leave the queue in order. -/
theorem queueOrdered_map {f : Entry → Entry} (same : ∀ a, SameStanding a (f a)) (status : ∀ a, (f a).status = a.status)
    {l : List Entry} (ordered : QueueOrdered l) : QueueOrdered (l.map f) := by
  induction l with
  | nil => trivial
  | cons a r ih =>
    obtain ⟨ahead, rest⟩ := queueOrdered_cons.mp ordered
    refine queueOrdered_cons.mpr ⟨?_, ih rest⟩
    simp only [List.forall_mem_map]
    intro b hb
    have := ahead b hb
    unfold StandsAhead at *
    simpa only [(same a).coord, (same a).lane, (same a).order, (same b).coord, (same b).lane, (same b).order, status]

/-! ## Placing an entry (R102, R106) -/

theorem mem_insertEntry {e a : Entry} {l : List Entry} : a ∈ insertEntry e l ↔ a = e ∨ a ∈ l := by
  induction l with
  | nil => simp [insertEntry]
  | cons b r ih =>
    unfold insertEntry
    split
    · simp
    · simp only [List.mem_cons, ih]
      tauto

theorem insertEntry_perm (e : Entry) (l : List Entry) : (insertEntry e l).Perm (e :: l) := by
  induction l with
  | nil => exact .refl _
  | cons b r ih =>
    unfold insertEntry
    split
    · exact .refl _
    · exact (ih.cons b).trans (.swap e b r)

/-- The last fixed coordinate is that of an entry that has left PROVISIONAL. -/
theorem exists_of_lastFixed {l : List Entry} {y : Int} (h : lastFixed l = some y) :
    ∃ a ∈ l, a.status ≠ .provisional ∧ a.coord = y := by
  induction l with
  | nil => contradiction
  | cons a r ih =>
    unfold lastFixed at h
    split at h
    · next x last =>
      obtain rfl := Option.some.inj h
      obtain ⟨b, mem, fixed, coord⟩ := ih last
      exact ⟨b, List.mem_cons_of_mem _ mem, fixed, coord⟩
    · split at h
      · contradiction
      · next fixed => exact ⟨a, List.mem_cons_self, fixed, Option.some.inj h⟩

/-- In an ordered queue no entry that has left PROVISIONAL lies beyond the last fixed coordinate (R106). -/
theorem le_lastFixed {l : List Entry} (ordered : QueueOrdered l) {a : Entry} (mem : a ∈ l) (fixed : a.status ≠ .provisional) :
    ∃ y, lastFixed l = some y ∧ a.coord ≤ y := by
  induction l with
  | nil => contradiction
  | cons b r ih =>
    obtain ⟨ahead, rest⟩ := queueOrdered_cons.mp ordered
    unfold lastFixed
    rcases List.mem_cons.mp mem with rfl | mem
    · split
      · next y last =>
        obtain ⟨c, cMem, -, rfl⟩ := exists_of_lastFixed last
        have := (ahead c cMem).1
        exact ⟨_, rfl, by omega⟩
      · exact ⟨_, by rw [if_neg fixed], le_rfl⟩
    · obtain ⟨y, last, le⟩ := ih rest mem
      rw [last]
      exact ⟨y, rfl, le⟩

/-- A placed entry lies above every entry that has left PROVISIONAL (R106). -/
theorem lt_raisedCoord {l : List Entry} (ordered : QueueOrdered l) (x : Int) {a : Entry} (mem : a ∈ l)
    (fixed : a.status ≠ .provisional) : a.coord < raisedCoord x l := by
  obtain ⟨y, last, le⟩ := le_lastFixed ordered mem fixed
  unfold raisedCoord
  rw [last]
  dsimp only
  split <;> omega

theorem entryBefore_iff {a b : Entry} : entryBefore a b = true ↔
    a.coord < b.coord
      ∨ a.coord = b.coord ∧ (lowestLane a < lowestLane b ∨ lowestLane a = lowestLane b ∧ a.order < b.order) := by
  simp [entryBefore]

/-- A PROVISIONAL entry above all fixed ones, with an order number of its own, takes its place in an ordered queue (R102). -/
theorem queueOrdered_insertEntry {e : Entry} {l : List Entry} (ordered : QueueOrdered l) (prov : e.status = .provisional)
    (above : ∀ a ∈ l, a.status ≠ .provisional → a.coord < e.coord) (own : ∀ a ∈ l, a.order ≠ e.order) :
    QueueOrdered (insertEntry e l) := by
  induction l with
  | nil => trivial
  | cons b r ih =>
    obtain ⟨ahead, rest⟩ := queueOrdered_cons.mp ordered
    unfold insertEntry
    split
    · next before =>
      rw [entryBefore_iff] at before
      have bProv : b.status = .provisional := by
        by_contra fixed
        have := above b List.mem_cons_self fixed
        omega
      have eb : StandsAhead e b := ⟨before, fun _ => bProv, fun h => absurd prov h, by simp [bProv, executing]⟩
      exact queueOrdered_cons.mpr ⟨List.forall_mem_cons.mpr ⟨eb, fun c hc => eb.trans (ahead c hc)⟩, ordered⟩
    · next behind =>
      rw [entryBefore_iff] at behind
      have order := own b List.mem_cons_self
      have be : StandsAhead b e :=
        ⟨by omega, fun _ => prov, fun h _ => above b List.mem_cons_self h, by simp [prov, executing]⟩
      refine queueOrdered_cons.mpr ⟨fun c hc => ?_, ih rest (fun a ha => above a (List.mem_cons_of_mem _ ha))
        (fun a ha => own a (List.mem_cons_of_mem _ ha))⟩
      rcases mem_insertEntry.mp hc with rfl | hc
      · exact be
      · exact ahead c hc

/-! ## The Cut Queue changed -/

theorem onCuts_keeps (s : State) {f : Cuts → Cuts} (queue : QueueLaw s → QueueLaw (s.onCuts f)) : Keeps s (s.onCuts f) where
  toKeepsTables := { web := id, stretch := id, bounds := id, zones := id, counts := id, queue := queue }
  toKeepsLine := ⟨id, id, id⟩

/-- Entries taken out of the queue leave the others in order. -/
theorem filterEntries_keeps (s : State) (p : Entry → Bool) :
    Keeps s (s.onCuts fun c => { c with entries := c.entries.filter p }) := by
  refine onCuts_keeps s ?_
  rintro ⟨ranges, ordered, unique, fresh⟩
  refine ⟨ranges, queueOrdered_sublist List.filter_sublist ordered, ?_, fun e he => fresh e (List.mem_filter.mp he).1⟩
  exact unique.sublist (List.filter_sublist.map _)

/-- Entries changed where each stands as before. -/
theorem mapEntries_keeps (s : State) {f : Entry → Entry} (same : ∀ a, SameStanding a (f a))
    (status : ∀ a, (f a).status = a.status) : Keeps s (s.onCuts fun c => { c with entries := c.entries.map f }) := by
  refine onCuts_keeps s ?_
  rintro ⟨ranges, ordered, unique, fresh⟩
  refine ⟨ranges, queueOrdered_map same status ordered, ?_, ?_⟩
  · have orders : (s.cuts.entries.map f).map Entry.order = s.cuts.entries.map Entry.order := by
      simp [(same _).order]
    simpa [orders] using unique
  · simpa [(same _).order] using fresh

theorem retargetLane_keeps (order : Nat) (x : Int) (merged : Bool) (p : Option LanePart) (n : Lane) (s : State) :
    Keeps s (retargetLane order x merged p n s) := by
  unfold retargetLane
  split
  · exact .refl s
  · next p =>
    dsimp only
    have starts : Keeps s (match p.starts with
        | some q => s.onCtx n q fun c => noteMerged merged { c with startEntry := some order, startTarget := some x }
        | none => s) := by
      split
      · exact onCtx_keeps s n _ _
      · exact .refl s
    have ends (u : State) (before : Keeps s u) : Keeps s (match p.ends with
        | some q =>
            if ((u.onCtx n q fun c => noteMerged merged { c with endEntry := some order, endTarget := some x }).reg.get n).current
              = some q
            then setEnd n x (u.onCtx n q fun c => noteMerged merged { c with endEntry := some order, endTarget := some x })
            else u.onCtx n q fun c => noteMerged merged { c with endEntry := some order, endTarget := some x }
        | none => u) := by
      split
      · split
        · exact before.trans ((onCtx_keeps u n _ _).trans (setEnd_keeps _ _ _))
        · exact before.trans (onCtx_keeps u n _ _)
      · exact before
    exact ends _ starts

theorem retarget_keeps (order : Nat) (x : Int) (merged : Bool) (parts : Lanes (Option LanePart)) (s : State) :
    Keeps s (retarget order x merged parts s) := forLanes_keeps (fun _ _ => retargetLane_keeps _ _ _ _ _ _) s

/-- A PROVISIONAL entry with an order number of its own is placed in a state that keeps the laws so far (R102, R106). -/
theorem placeEntry_keeps {e : Entry} {s u : State} (before : Keeps s u)
    (sound : QueueLaw s → e.status = .provisional ∧ e.order < u.cuts.nextOrder ∧ ∀ a ∈ u.cuts.entries, a.order ≠ e.order) :
    Keeps s (placeEntry e u) := by
  refine Keeps.trans (t := u.onCuts fun c =>
    { c with entries := insertEntry { e with coord := raisedCoord e.coord u.cuts.entries } c.entries }) ?_
    (retarget_keeps _ _ _ _ _)
  refine ⟨{ before.toKeepsTables with queue := fun law => ?_ }, before.speed, before.sets, before.pages⟩
  obtain ⟨prov, below, own⟩ := sound law
  obtain ⟨ranges, ordered, unique, fresh⟩ := before.queue law
  have perm := insertEntry_perm { e with coord := raisedCoord e.coord u.cuts.entries } u.cuts.entries
  refine ⟨ranges, queueOrdered_insertEntry ordered prov (fun a => lt_raisedCoord ordered _) own, ?_, ?_⟩
  · refine (perm.map Entry.order).nodup_iff.mpr (List.nodup_cons.mpr ⟨?_, unique⟩)
    simpa [eq_comm] using own
  · intro a ha
    rcases mem_insertEntry.mp ha with rfl | mem
    · exact below
    · exact fresh a mem

/-! ## The lock of an entry (R107, R108) -/

/-- The next entry to lock stands behind fixed entries alone, in a queue that keeps its law. -/
theorem exists_of_nextLock {s : State} (ordered : QueueOrdered s.cuts.entries) {x : Entry} (next : s.nextLock = some x) :
    ∃ before after, s.cuts.entries = before ++ x :: after ∧ x.status = .provisional ∧ x.coord ≤ s.lockPoint
      ∧ ∀ a ∈ before, a.status ≠ .provisional := by
  obtain ⟨due, before, after, list, first⟩ := List.find?_eq_some_iff_append.mp next
  simp only [Bool.and_eq_true, beq_iff_eq, decide_eq_true_eq] at due
  refine ⟨before, after, list, due.1, due.2, fun a ha prov => ?_⟩
  have := first a ha
  have ahead := ((queueOrdered_append.mp (list ▸ ordered)).2.2 a ha x List.mem_cons_self).1
  simp [prov] at this
  omega

/-- The queue once the entry x has locked: the entries merged into it are gone, and it has taken their parts (R108). -/
def lockedQueue (x : Entry) (win : Int) (before after : List Entry) (l : List Entry) : List Entry :=
  before
    ++ { x with parts := (mergedInto x win l).foldl (fun (p : Lanes (Option LanePart)) (e : Entry) => joinParts p e.parts) x.parts
                status := .locked }
    :: after.filter fun e => !(mergedInto x win l).contains e

/-- The entries a lock leaves, the locked one in its place (R108). -/
theorem lock_entries {s : State} {x : Entry} {before after : List Entry} (list : s.cuts.entries = before ++ x :: after)
    (unique : (s.cuts.entries.map Entry.order).Nodup) (fixed : ∀ a ∈ before, a.status ≠ .provisional) (win : Int) (y : Entry) :
    (s.cuts.entries.filter fun e => !(mergedInto x win s.cuts.entries).contains e).map
        (fun e => if e.order = x.order then y else e)
      = before ++ y :: after.filter fun e => !(mergedInto x win s.cuts.entries).contains e := by
  obtain ⟨gone, goneEq⟩ : ∃ gone, mergedInto x win s.cuts.entries = gone := ⟨_, rfl⟩
  have others : (∀ a ∈ before, a.order ≠ x.order) ∧ ∀ a ∈ after, a.order ≠ x.order := by
    rw [list, List.map_append, List.map_cons] at unique
    obtain ⟨-, tail, apart⟩ := List.nodup_append.mp unique
    refine ⟨fun a ha => apart _ (List.mem_map_of_mem ha) _ List.mem_cons_self, fun a ha eq => ?_⟩
    exact (List.nodup_cons.mp tail).1 (eq ▸ List.mem_map_of_mem ha)
  have stays : ∀ a, a.status ≠ .provisional ∨ a = x → gone.contains a = false := by
    intro a ha
    rw [← goneEq]
    simp only [mergedInto, List.contains_eq_mem, decide_eq_false_iff_not, List.mem_filter, Bool.and_eq_true, bne_iff_ne,
      beq_iff_eq]
    rcases ha with h | rfl
    · exact fun h' => h h'.2.1.2
    · exact fun h' => h'.2.1.1 rfl
  have beforeStays : before.filter (fun e => !gone.contains e) = before :=
    List.filter_eq_self.mpr fun a ha => by rw [stays a (.inl (fixed a ha))]; rfl
  rw [goneEq, list, List.filter_append, List.filter_cons_of_pos (by rw [stays x (.inr rfl)]; rfl), beforeStays,
    List.map_append, List.map_cons, if_pos rfl]
  congr 2
  · exact (List.map_congr_left fun a ha => if_neg (others.1 a ha)).trans (List.map_id _)
  · exact (List.map_congr_left fun a ha => if_neg (others.2 a (List.mem_filter.mp ha).1)).trans (List.map_id _)

/-- A lock leaves the queue in order (R102, R106, R108). -/
theorem queueOrdered_lockedQueue {x : Entry} {win : Int} {before after : List Entry} (positive : 0 ≤ win)
    (ordered : QueueOrdered (before ++ x :: after)) (prov : x.status = .provisional)
    (fixed : ∀ a ∈ before, a.status ≠ .provisional) (unique : ∀ a ∈ after, a.order ≠ x.order) :
    QueueOrdered (lockedQueue x win before after (before ++ x :: after)) := by
  obtain ⟨beforeOrdered, tail, ahead⟩ := queueOrdered_append.mp ordered
  obtain ⟨behind, afterOrdered⟩ := queueOrdered_cons.mp tail
  have strictly : ∀ b ∈ after.filter (fun e => !(mergedInto x win (before ++ x :: after)).contains e),
      b ∈ after ∧ b.status = .provisional ∧ x.coord < b.coord := by
    intro b hb
    obtain ⟨mem, stays⟩ := List.mem_filter.mp hb
    have bProv := (behind b mem).2.1 prov
    refine ⟨mem, bProv, ?_⟩
    by_contra low
    refine absurd stays ?_
    simp only [Bool.not_eq_true', Bool.not_eq_false, List.contains_eq_mem, decide_eq_true_eq, mergedInto, List.mem_filter,
      List.mem_append, List.mem_cons, Bool.and_eq_true, bne_iff_ne, beq_iff_eq]
    exact ⟨.inr (.inr mem), ⟨unique b mem, bProv⟩, by omega⟩
  refine queueOrdered_append.mpr ⟨beforeOrdered, queueOrdered_cons.mpr ⟨fun b hb => ?_,
    queueOrdered_sublist List.filter_sublist afterOrdered⟩, fun a ha => List.forall_mem_cons.mpr ⟨?_, fun b hb => ?_⟩⟩
  · obtain ⟨mem, bProv, lt⟩ := strictly b hb
    exact ⟨.inl lt, fun _ => bProv, fun _ _ => lt, by simp [bProv, executing]⟩
  · have lt := (ahead a ha x List.mem_cons_self).2.2.1 (fixed a ha) prov
    exact ⟨.inl lt, fun h => absurd h (fixed a ha), fun _ h => by simp at h, rfl⟩
  · exact ahead a ha b (List.mem_cons_of_mem _ (strictly b hb).1)

theorem takeOver_keeps (x e : Entry) (s : State) : Keeps s (takeOver x e s) := retarget_keeps _ _ _ _ s

theorem endLockLane_keeps (parts : Lanes (Option LanePart)) (n : Lane) (s : State) : Keeps s (endLockLane parts n s) := by
  unfold endLockLane
  split
  · exact onCtx_keeps s n _ _
  · exact .refl s

theorem starvationCheck_keeps (parts : Lanes (Option LanePart)) (s : State) : Keeps s (starvationCheck parts s) := by
  unfold starvationCheck
  split
  · exact raiseHold_keeps _ s
  · exact .refl s

theorem lockEntry_keeps {x : Entry} {s : State} (next : s.nextLock = some x) : Keeps s (lockEntry x s) := by
  unfold lockEntry
  dsimp only
  refine (((onCuts_keeps s ?_).trans (foldl_keeps (fun u e => takeOver_keeps x e u) _ _)).trans
    (forLanes_keeps (endLockLane_keeps _) _)).trans (starvationCheck_keeps _ _)
  rintro ⟨ranges, ordered, unique, fresh⟩
  obtain ⟨before, after, list, prov, -, fixed⟩ := exists_of_nextLock ordered next
  have entries := fun y => lock_entries list unique fixed (s.par .mergeWin) y
  have own : ∀ a ∈ after, a.order ≠ x.order := by
    rw [list, List.map_append, List.map_cons] at unique
    exact fun a ha eq => (List.nodup_cons.mp (List.nodup_append.mp unique).2.1).1 (eq ▸ List.mem_map_of_mem ha)
  have sub : (before ++ x :: after.filter fun e => !(mergedInto x (s.par .mergeWin) s.cuts.entries).contains e).Sublist
      s.cuts.entries := by
    rw [list]
    exact List.Sublist.append_left (List.filter_sublist.cons_cons x) before
  refine ⟨ranges, ?_, ?_, ?_⟩
  · have := queueOrdered_lockedQueue (low_le_par ranges .mergeWin) (list ▸ ordered) prov fixed own
    rw [← list] at this
    rw [State.onCuts_cuts]
    dsimp only
    rw [entries]
    exact this
  · rw [State.onCuts_cuts]
    dsimp only
    rw [entries]
    have := unique.sublist (sub.map Entry.order)
    simpa using this
  · rw [State.onCuts_cuts]
    dsimp only
    rw [entries]
    intro e he
    rcases List.mem_append.mp he with mem | mem
    · exact fresh e (list ▸ List.mem_append_left _ mem)
    · rcases List.mem_cons.mp mem with rfl | mem
      · exact fresh x (list ▸ by simp)
      · exact fresh e (list ▸ by simp [(List.mem_filter.mp mem).1])

theorem lockDue_keeps (k : Nat) (s : State) : Keeps s (lockDue k s) := by
  induction k generalizing s with
  | zero => exact .refl s
  | succ k ih =>
    unfold lockDue
    split
    · next x due => exact (lockEntry_keeps due).trans (ih _)
    · exact .refl s

theorem judgeLocks_keeps (s : State) : Keeps s (judgeLocks s) := lockDue_keeps _ s

/-! ## Reports from registration (R103, R104) -/

theorem createEntry_keeps (n : Lane) (p : LanePart) (x : Int) (s : State) : Keeps s (createEntry n p x s) := by
  refine (placeEntry_keeps (onCuts_keeps s ?_) ?_).trans (judgeLocks_keeps _)
  · rintro ⟨ranges, ordered, unique, fresh⟩
    exact ⟨ranges, ordered, unique, fun e he => Nat.lt_succ_of_lt (fresh e he)⟩
  · exact fun law => ⟨rfl, Nat.lt_succ_self _, fun a ha => (law.2.2.2 a ha).ne⟩

theorem entry_mem {s : State} {o : Nat} {e : Entry} (h : s.entry? o = some e) : e ∈ s.cuts.entries ∧ e.order = o := by
  have mem := List.mem_of_find?_eq_some h
  have order := List.find?_some h
  exact ⟨mem, by simpa using order⟩

theorem moveEntry_keeps {e : Entry} (x : Int) (f : Lanes (Option LanePart) → Lanes (Option LanePart)) {s : State}
    (mem : e ∈ s.cuts.entries) (prov : e.status = .provisional) : Keeps s (moveEntry e x f s) := by
  refine (placeEntry_keeps (filterEntries_keeps s fun a => a.order != e.order) ?_).trans (judgeLocks_keeps _)
  refine fun law => ⟨prov, law.2.2.2 e mem, fun a ha => ?_⟩
  simpa using (List.mem_filter.mp ha).2

/-- A part that gains a panel to start stays a part (R103). -/
theorem lowestLane_gainStart (n : Lane) (p : Source) (e : Entry) :
    lowestLane { e with parts := gainStart n p e.parts } = lowestLane e := by
  cases n <;> simp only [lowestLane, gainStart, Lanes.set, Lanes.get, Option.isSome_map] <;> rfl

theorem joinFixed_keeps (n : Lane) (p : Source) (e : Entry) (s : State) : Keeps s (joinFixed n p e s) := by
  refine (mapEntries_keeps s (f := fun a => if a.order = e.order then { a with parts := gainStart n p a.parts } else a)
    (fun a => ?_) fun a => ?_).trans (onCtx_keeps _ n p _)
  · split
    · exact { fixed := Iff.rfl, lane := lowestLane_gainStart n p a }
    · exact { fixed := Iff.rfl }
  · split <;> rfl

theorem startReport_keeps (n : Lane) (p : Ctx) (m : Int) (first : Bool) (s : State) : Keeps s (startReport n p m first s) := by
  unfold startReport
  dsimp only
  split
  · exact createEntry_keeps _ _ _ s
  · next e shared =>
    split
    · next prov =>
      refine moveEntry_keeps _ _ ?_ prov
      split at shared
      · contradiction
      · obtain ⟨o, -, entry⟩ := Option.bind_eq_some_iff.mp shared
        exact (entry_mem entry).1
    · exact joinFixed_keeps _ _ _ s

theorem endReport_keeps (n : Lane) (p : Source) (y : Int) (s : State) : Keeps s (endReport n p y s) := by
  have reported : Keeps s (match ((s.ctx? n p).bind Ctx.endEntry).bind s.entry? with
      | none => if s.panelActive n p then createEntry n ⟨some p, none⟩ y s else s
      | some e => if e.status = .provisional then moveEntry e y id s else s) := by
    split
    · split
      · exact createEntry_keeps _ _ _ s
      · exact .refl s
    · next e found =>
      obtain ⟨o, -, entry⟩ := Option.bind_eq_some_iff.mp found
      split
      · next prov => exact moveEntry_keeps _ _ (entry_mem entry).1 prov
      · exact .refl s
  unfold endReport
  dsimp only
  split
  · exact reported.trans (setEnd_keeps _ _ _)
  · exact reported

end Sys2Proof.Machine
end

section
/-! PROOFS. Registration, the eyes and the Beam Controller keep the laws (R44, R67 to R78, R126 to R131). -/
namespace Sys2Proof.Machine

/-! ## The stretch estimate (R74, R75) -/

theorem limitTo_bounds {lo hi : Int} (h : lo ≤ hi) (v : Int) : lo ≤ limitTo lo hi v ∧ limitTo lo hi v ≤ hi := by
  unfold limitTo
  split
  · omega
  · split <;> omega

theorem clampSample_bounds {lim : Int} (h : 0 ≤ lim) (v : Int) : -lim ≤ clampSample lim v ∧ clampSample lim v ≤ lim :=
  limitTo_bounds (by omega) v

/-- A quotient truncated toward zero lies between 0 and its dividend. -/
theorem tdiv_between (a : Int) {b : Int} (hb : 0 < b) : (0 ≤ a → 0 ≤ a.tdiv b ∧ a.tdiv b ≤ a) ∧ (a ≤ 0 → a ≤ a.tdiv b ∧ a.tdiv b ≤ 0) := by
  constructor
  · intro h
    rw [Int.tdiv_eq_ediv_of_nonneg h]
    exact ⟨Int.ediv_nonneg h hb.le, Int.ediv_le_self b h⟩
  · intro h
    obtain ⟨c, rfl⟩ : ∃ c, a = -c := ⟨-a, by omega⟩
    have hc : 0 ≤ c := by omega
    rw [Int.neg_tdiv, Int.tdiv_eq_ediv_of_nonneg hc]
    have := Int.ediv_nonneg hc hb.le
    have := Int.ediv_le_self b hc
    omega

/-- The filter leaves F between its old value and the sample (R75). -/
theorem filterF_between (f v w : Int) :
    (f ≤ v → f ≤ filterF f v w ∧ filterF f v w ≤ v) ∧ (v ≤ f → v ≤ filterF f v w ∧ filterF f v w ≤ f) := by
  obtain ⟨up, down⟩ := tdiv_between (v - f) (b := 2 ^ w.toNat) (by positivity)
  unfold filterF truncDiv
  exact ⟨fun h => by have := up (by omega); omega, fun h => by have := down (by omega); omega⟩

theorem takeSample_keeps (n : Lane) (m measured nominal : Int) (s : State) : Keeps s (takeSample n m measured nominal s) := by
  obtain ⟨v, clamped⟩ : ∃ v, clampSample (s.par .stretchLimit) (rawSample measured nominal) = v := ⟨_, rfl⟩
  have folded (u : State) (params : u.params = s.params) :
      Keeps u (u.onReg n fun r => { r with f := filterF r.f v (u.par .stretchWeight) }) := by
    refine onReg_keeps_of_limits u n fun lim limit positive within => ?_
    have bounds := clampSample_bounds positive (rawSample measured nominal)
    rw [← limit, par_of_params params, clamped, ← par_of_params params, limit] at bounds
    have between := filterF_between (u.reg.get n).f v (u.par .stretchWeight)
    dsimp only
    omega
  unfold takeSample
  dsimp only
  rw [clamped]
  split
  · exact folded s rfl
  · exact (queueEvent_keeps _ s).trans (folded _ (by simp))

/-! ## Misses and the effects of a mark -/

theorem unregister_keeps (n : Lane) (s : State) : Keeps s (unregister n s) := mapList_keeps s n _

theorem countMiss_keeps (n : Lane) (x : Int) (s : State) : Keeps s (countMiss n x s) := by
  unfold countMiss
  dsimp only
  generalize (if (s.reg.get n).miss < 7 then (s.reg.get n).miss + 1 else 7) = k
  split
  case h_1 | h_2 =>
    split
    · exact onReg_keeps s n
    · exact ((onReg_keeps s n).trans (queueEvent_keeps _ _)).trans (unregister_keeps _ _)
  all_goals exact onReg_keeps s n

theorem giveTag_keeps (n : Lane) (q : Source) (s : State) : Keeps s (giveTag n q s) := onCtx_keeps s n q _

theorem compareTag_keeps (n : Lane) (p : Ctx) (rec : MarkRecord) (s : State) : Keeps s (compareTag n p rec s) := by
  unfold compareTag
  split
  · split
    · split
      · exact (giveTag_keeps _ _ s).trans (raiseHold_keeps _ _)
      · exact giveTag_keeps _ _ s
    · exact .refl s
  · exact .refl s

theorem markEffects_keeps (n : Lane) (p : Ctx) (how : How) (s : State) : Keeps s (markEffects n p how s) := by
  unfold markEffects
  split
  · dsimp only
    split
    · exact (compareTag_keeps _ _ _ s).trans (giveInspection_keeps _ _ _)
    · exact compareTag_keeps _ _ _ s
  all_goals exact .refl s

theorem countHow_keeps (n : Lane) (x : Int) (how : How) (s : State) : Keeps s (countHow n x how s) := by
  unfold countHow
  split
  · exact onReg_keeps s n
  · exact countMiss_keeps _ _ s
  · exact .refl s

theorem makeCurrent_keeps (n : Lane) (q : Source) (how : How) (s : State) : Keeps s (makeCurrent n q how s) := by
  unfold makeCurrent
  exact ((onCtx_keeps s n q _).trans (onEye_keeps _ n _)).trans (onReg_keeps _ n)

theorem startPanel_keeps (n : Lane) (p : Ctx) (m : Int) (how : How) (first : Bool) (s : State) :
    Keeps s (startPanel n p m how first s) :=
  (((((((makeCurrent_keeps n p.src how s).trans (onReg_keeps _ n)).trans (countHow_keeps n m how _)).trans
    (onCtx_keeps _ n p.src _)).trans (markEffects_keeps n p how _)).trans (startReport_keeps n p m first _)).trans
    (endReport_keeps n p.src _ _)).trans ((formPitch_keeps n _).trans (formStart_keeps n _))

theorem sampleAt_keeps (n : Lane) (p : Ctx) (m : Int) (how : How) (s : State) : Keeps s (sampleAt n p m how s) := by
  unfold sampleAt
  split
  · split
    · exact takeSample_keeps _ _ _ _ s
    · exact .refl s
  · exact .refl s

theorem takePitch_keeps (n : Lane) (p : Ctx) (k m : Int) (how : How) (s : State) : Keeps s (takePitch n p k m how s) :=
  (((((sampleAt_keeps n p m how s).trans (onReg_keeps _ n)).trans (countHow_keeps n m how _)).trans
    (markEffects_keeps n p how _)).trans (endReport_keeps n p.src _ _)).trans (formPitch_keeps n _)

/-! ## Placing a mark, and what is due without one -/

theorem strayMark_keeps (n : Lane) (rec : MarkRecord) (s : State) : Keeps s (strayMark n rec s) := queueEvent_keeps _ s

theorem placeMark_keeps (n : Lane) (rec : MarkRecord) (s : State) : Keeps s (placeMark n rec s) := by
  have seeking : Keeps s (placeSeeking n rec s) := by
    unfold placeSeeking
    split
    · split
      · exact startPanel_keeps _ _ _ _ _ s
      · exact strayMark_keeps _ _ s
    · exact strayMark_keeps _ _ s
  have followed : Keeps s (placeFollowing n rec s) := by
    unfold placeFollowing
    split
    · split
      · exact startPanel_keeps _ _ _ _ _ s
      · exact strayMark_keeps _ _ s
    · split
      · split
        · exact takePitch_keeps _ _ _ _ _ s
        · exact strayMark_keeps _ _ s
      · exact strayMark_keeps _ _ s
  unfold placeMark
  split
  case h_1 => exact seeking
  case h_2 | h_3 | h_4 => exact followed
  all_goals exact .refl s

theorem passPitch_keeps (n : Lane) (e : PitchExpect) (how : How) (s : State) : Keeps s (passPitch n e how s) := by
  unfold passPitch
  split
  · exact takePitch_keeps _ _ _ _ _ s
  · exact (countHow_keeps _ _ _ s).trans (onReg_keeps _ n)

section
variable {n : Lane} {s t : State}

theorem seekSynth_keeps (due : seekSynth n s = some t) : Keeps s t := by
  unfold seekSynth at due
  split at due
  · split at due
    · obtain rfl := Option.some.inj due
      exact (onReg_keeps s n).trans (armStart_keeps _ _ _ _)
    · contradiction
  · contradiction

theorem dueSynth_keeps (due : dueSynth n s = some t) : Keeps s t := by
  unfold dueSynth at due
  split at due
  · split at due
    · split at due
      · obtain rfl := Option.some.inj due
        exact startPanel_keeps _ _ _ _ _ s
      · contradiction
    · contradiction
  · contradiction

theorem dueForm_keeps (due : dueForm n s = some t) : Keeps s t := by
  unfold dueForm at due
  dsimp only at due
  split at due
  · obtain rfl := Option.some.inj due
    exact formStart_keeps _ s
  · contradiction

theorem duePitch_keeps (due : duePitch n s = some t) : Keeps s t := by
  unfold duePitch at due
  dsimp only at due
  split at due
  · split at due
    · split at due
      · split at due
        · contradiction
        · obtain rfl := Option.some.inj due
          exact passPitch_keeps _ _ _ s
      · obtain rfl := Option.some.inj due
        exact passPitch_keeps _ _ _ s
    · contradiction
  · contradiction

theorem dueStart_keeps (due : dueStart n s = some t) : Keeps s t := by
  unfold dueStart at due
  dsimp only at due
  split at due
  case h_2 => contradiction
  split at due
  case h_2 => contradiction
  split at due
  · contradiction
  split at due
  · split at due
    · obtain rfl := Option.some.inj due
      exact startPanel_keeps _ _ _ _ _ s
    · contradiction
  · split at due
    · split at due
      · contradiction
      · obtain rfl := Option.some.inj due
        exact startPanel_keeps _ _ _ _ _ s
    · contradiction

theorem dueInLane_keeps (due : dueInLane n s = some t) : Keeps s t :=
  orKeep (orKeep (orKeep (orKeep seekSynth_keeps dueSynth_keeps) dueForm_keeps) duePitch_keeps) dueStart_keeps due

theorem dueNext_keeps (due : dueNext s = some t) : Keeps s t :=
  orKeep (orKeep (orKeep dueInLane_keeps dueInLane_keeps) dueInLane_keeps) dueInLane_keeps due

end

theorem regDue_keeps (k : Nat) (s : State) : Keeps s (regDue k s) := by
  induction k generalizing s with
  | zero => exact .refl s
  | succ k ih =>
    unfold regDue
    split
    · next t due => exact (dueNext_keeps due).trans (ih t)
    · exact .refl s

theorem settleReg_keeps (s : State) : Keeps s (settleReg s) := regDue_keeps _ s

/-! ## The eyes -/

theorem syncEye_keeps (n : Lane) (s : State) : Keeps s (syncEye n s) := by
  unfold syncEye
  split
  · split
    · exact onEye_keeps s n _
    · exact .refl s
  · split
    · exact .refl s
    · exact onEye_keeps s n _

theorem syncEyes_keeps (s : State) : Keeps s (syncEyes s) := forLanes_keeps syncEye_keeps s

theorem malformed_keeps (n : Lane) (m : Int) (next : Decode) (s : State) : Keeps s (malformed n m next s) :=
  (onEye_keeps s n _).trans (queueEvent_keeps _ _)

theorem handOver_keeps (n : Lane) (rec : MarkRecord) (next : Decode) (s : State) : Keeps s (handOver n rec next s) :=
  (onEye_keeps s n _).trans (placeMark_keeps n rec _)

theorem advanceDecode_keeps (n : Lane) (s : State) : Keeps s (advanceDecode n s) := by
  unfold advanceDecode
  dsimp only
  split
  · split
    · exact handOver_keeps _ _ _ s
    · exact .refl s
  · split
    · exact malformed_keeps _ _ _ s
    · split
      · exact handOver_keeps _ _ _ s
      · exact onEye_keeps s n _
  all_goals exact .refl s

theorem inspectNew_keeps (n : Lane) (old new : Option Interval) (s : State) : Keeps s (inspectNew n old new s) := by
  unfold inspectNew
  split
  · split
    · exact .refl s
    · exact inspectBegin_keeps _ _ s
  · exact .refl s

theorem advanceIntervals_keeps (n : Lane) (s : State) : Keeps s (advanceIntervals n s) :=
  ((onEye_keeps s n _).trans (inspectNew_keeps n _ _ _)).trans (inspectNew_keeps n _ _ _)

theorem advanceEyes_keeps (s : State) : Keeps s (advanceEyes s) :=
  forLanes_keeps (fun n u => (advanceIntervals_keeps n u).trans (advanceDecode_keeps n _)) s

theorem takeLeading_keeps (n : Lane) (s : State) : Keeps s (takeLeading n s) := by
  unfold takeLeading
  split
  · exact onEye_keeps s n _
  all_goals exact .refl s

theorem takeTrailing_keeps (n : Lane) (s : State) : Keeps s (takeTrailing n s) := by
  unfold takeTrailing
  split
  · exact onEye_keeps s n _
  · split
    · exact handOver_keeps _ _ _ s
    · exact malformed_keeps _ _ _ s
  · split
    · exact .refl s
    · split
      · exact onEye_keeps s n _
      · exact .refl s
  all_goals exact .refl s

theorem edgeAfterHold_keeps (n : Lane) (s : State) : Keeps s (edgeAfterHold n s) := by
  unfold edgeAfterHold takeEdge
  split
  · exact .refl s
  · split
    · exact takeLeading_keeps n s
    · exact takeTrailing_keeps n s

theorem holdLevels_keeps (s : State) : Keeps s (holdLevels s) := forLanes_keeps (fun n u => onEye_keeps u n _) s

theorem takeInspect_keeps (n : Lane) (s : State) : Keeps s (takeInspect n s) :=
  ((onEye_keeps s n _).trans (inspectBegin_keeps n _ _)).trans (inspectBegin_keeps n _ _)

/-! ## The Beam Controller -/

theorem failChangeover_keeps (s : State) : Keeps s (failChangeover s) := by
  unfold failChangeover
  split
  · exact (onBeam_keeps s _).trans (raiseHold_keeps _ _)
  all_goals exact .refl s

theorem beamActionPushed_keeps (sf : State × Bool) : Keeps sf.1 (beamActionPushed sf) := by
  unfold beamActionPushed
  split
  · exact failChangeover_keeps _
  · exact .refl _

theorem startMove_keeps (l : Layout) (g : Int) (s : State) : Keeps s (startMove l g s) :=
  ((onBeam_keeps s _).trans (pushAction_keeps _ _)).trans (beamActionPushed_keeps _)

theorem judgeTrigger_keeps (s : State) : Keeps s (judgeTrigger s) := by
  unfold judgeTrigger
  split
  · split
    · refine (((onBeam_keeps s _).trans (syncEyes_keeps _)).trans (mapReg_keeps _ fun _ r => .inl ?_)).trans
        (startMove_keeps _ _ _)
      unfold LaneReg.blinded
      split <;> rfl
    · exact .refl s
  all_goals exact .refl s

theorem reissue_keeps (s : State) : Keeps s (reissue s) := by
  unfold reissue
  split
  · exact startMove_keeps _ _ s
  all_goals exact .refl s

theorem positionsAcked_keeps (move : Nat) (s : State) : Keeps s (positionsAcked move s) := by
  unfold positionsAcked
  split
  · split
    · exact (pushAction_keeps _ s).trans (beamActionPushed_keeps _)
    · exact .refl s
  all_goals exact .refl s

theorem moveAcked_keeps (move : Nat) (s : State) : Keeps s (moveAcked move s) := by
  unfold moveAcked
  split
  · split
    · exact onBeam_keeps s _
    · exact .refl s
  all_goals exact .refl s

theorem beamActionFailed_keeps (move : Nat) (s : State) : Keeps s (beamActionFailed move s) := by
  unfold beamActionFailed
  split
  · exact failChangeover_keeps s
  · exact .refl s

end Sys2Proof.Machine
end

section
/-! PROOFS. The Plan Reader, the Lane Tracker, the Knife Sequencer and the Outfeed Handoff keep the laws (R26 to R37, R88, R113 to
R119, R172 to R177). -/
namespace Sys2Proof.Machine

/-! ## Pages and the Reader (R17, R26 to R29) -/

theorem slotCount_empty : slotCount Page.empty.slots = 0 := by decide

theorem releasePage_keeps (p : Fin 8) (s : State) : Keeps s (releasePage p s) := by
  unfold releasePage
  split
  · next spent =>
    refine (onPage_keeps s p (fun _ => slotCount_empty.symm) (iff_of_false (by decide) ?_)).trans (queueEvent_keeps _ _)
    rw [spent.1]
    decide
  · exact .refl s

/-- A Reader at a page has the line active, the job-end flag clear and that page alone OPEN (R17, R26, R37). -/
theorem pagesLaw_at {s : State} {p : Fin 8} (law : PagesLaw s) (reader : readerPage s.reader = some p) :
    s.motion.jobEnd = false ∧ s.motion.line ≠ .idle ∧ ∀ q : Fin 8, s.store.pages[q].state = .opened ↔ q = p := by
  obtain ⟨opened, jobEnd, idle⟩ := law
  refine ⟨?_, ?_, fun q => ?_⟩
  · by_contra ended
    have := (jobEnd (by simpa using ended)).1
    simp [this, readerPage] at reader
  · intro line
    rcases idle line with h | h <;> simp [h, readerPage] at reader
  · rw [opened, reader, Option.some.injEq, eq_comm]

theorem setReader_keepsTables (s : State) (r : Reader) : KeepsTables s (s.setReader r) := SameTables.keeps {}

/-- The Reader moves within its page. -/
theorem setReader_keeps {s : State} {p : Fin 8} {r : Reader} (old : readerPage s.reader = some p)
    (new : readerPage r = some p) : Keeps s (s.setReader r) where
  toKeepsTables := setReader_keepsTables s r
  toKeepsLine :=
    { speed := id, sets := id
      pages := by
        intro law
        obtain ⟨jobEnd, line, -⟩ := pagesLaw_at law old
        refine ⟨fun q => ?_, fun ended => ?_, fun idle => absurd idle line⟩
        · rw [State.setReader_reader, new, ← old]
          exact law.1 q
        · simp [jobEnd] at ended }

theorem spendPage_keepsTables (p : Fin 8) (s : State) : KeepsTables s (spendPage p s) :=
  (onPage_keepsTables s p id).trans (releasePage_keeps p _).toKeepsTables

/-- Once the Reader's page is SPENT no page is OPEN (R17, R29). -/
theorem spendPage_noneOpen {p : Fin 8} {s : State} (only : ∀ q : Fin 8, s.store.pages[q].state = .opened ↔ q = p) (q : Fin 8) :
    (spendPage p s).store.pages[q].state ≠ .opened := by
  have spent (q : Fin 8) : (s.onPage p fun a => { a with state := .spent }).store.pages[q].state ≠ .opened := by
    rw [onPage_get]
    split
    · simp
    · next other => rw [Ne, only]; exact fun h => other h.symm
  unfold spendPage releasePage
  split
  · change ((s.onPage p fun a => { a with state := .spent }).onPage p fun _ => Page.empty).store.pages[q].state ≠ .opened
    rw [onPage_get]
    split
    · decide
    · exact spent q
  · exact spent q

/-- The Reader looks for a page with none OPEN, the line active and the job-end flag clear (R27, R28). -/
theorem needPage_keeps {s u : State} (tables : KeepsTables s u) (speed : SpeedLaw s → SpeedLaw u) (sets : SetsLaw s → SetsLaw u)
    (ready : PagesLaw s →
      u.motion.jobEnd = false ∧ u.motion.line ≠ .idle ∧ ∀ p : Fin 8, u.store.pages[p].state ≠ .opened) :
    Keeps s (needPage u) where
  toKeepsTables := by
    refine tables.trans ?_
    unfold needPage
    dsimp only
    split
    · exact ((onPage_keepsTables u _ id).trans (onStore_next_keeps _ _).toKeepsTables).trans (setReader_keepsTables _ _)
    · exact (setReader_keepsTables u _).trans (queueEvent_keeps _ _).toKeepsTables
  toKeepsLine :=
    { speed := fun law => by
        have := speed law
        unfold SpeedLaw at *
        rw [wantedSpeed_of_line (s := u) (by simp) (by simp) (by simp)]
        simpa using this
      sets := fun law => by
        have := sets law
        unfold SetsLaw at *
        simpa using this
      pages := by
        intro law
        obtain ⟨jobEnd, line, noneOpen⟩ := ready law
        refine ⟨fun q => ?_, fun ended => ?_, fun idle => absurd (by simpa using idle) line⟩
        · unfold needPage
          dsimp only
          split
          · change (u.onPage u.store.next fun a => { a with state := .opened }).store.pages[q].state = .opened
              ↔ some u.store.next = some q
            rw [onPage_get, Option.some.injEq]
            split
            · next same => exact iff_of_true rfl same
            · next other => exact iff_of_false (noneOpen q) other
          · exact iff_of_false (noneOpen q) (by simp [readerPage])
        · simp [jobEnd] at ended }

theorem recordRead_keeps {p : Fin 8} (slot : Nat) {s : State} (reader : readerPage s.reader = some p) :
    Keeps s (recordRead p slot s) := by
  unfold recordRead
  split
  · exact setReader_keeps reader rfl
  · refine needPage_keeps (spendPage_keepsTables p s) (fun law => ?_) (fun law => ?_) fun law => ?_
    · unfold SpeedLaw at *
      rw [wantedSpeed_of_line (s := s) (by simp) (by simp) (by simp)]
      simpa using law
    · unfold SetsLaw at *
      simpa using law
    · obtain ⟨jobEnd, line, only⟩ := pagesLaw_at law reader
      exact ⟨by simpa using jobEnd, by simpa using line, spendPage_noneOpen only⟩

theorem jobDone_finished {s : State} (done : s.jobDone = true) : s.reader = .finished := by
  simp only [State.jobDone, Bool.and_eq_true, beq_iff_eq] at done
  exact done.1.1

theorem examineJobEnd_keeps (s : State) : Keeps s (examineJobEnd s) := by
  unfold examineJobEnd
  split
  · next done => exact signalJobEnd_keeps (jobDone_finished done.1)
  · exact .refl s

theorem createCopy_keeps {p : Fin 8} (slot copy : Nat) (r : PanelRecord) (n : Lane) {s : State}
    (reader : readerPage s.reader = some p) (room : (s.lists.get n).length < listMax) :
    Keeps s (createCopy p slot copy r n s) := by
  have created : Keeps s ((s.onList n fun l => l ++ [newCtx p slot copy r]).onPage p
      fun a => { a with openPanels := a.openPanels + 1 }) :=
    (onList_keeps s n fun _ => by simpa using room).trans (onPage_keeps _ p id Iff.rfl)
  unfold createCopy
  dsimp only
  split
  · exact created.trans (setReader_keeps (p := p) (by simpa using reader) rfl)
  · exact created.trans (recordRead_keeps slot (by simpa using reader))

theorem readPanel_keeps {p : Fin 8} (slot copy : Nat) (r : PanelRecord) {s : State} (reader : readerPage s.reader = some p) :
    Keeps s (readPanel p slot copy r s) := by
  have skipped : Keeps s (recordRead p slot (queueEvent (.pageNotice (.planError slot) p) s)) :=
    (queueEvent_keeps _ s).trans (recordRead_keeps slot (by simpa using reader))
  unfold readPanel
  split
  · exact skipped
  · split
    · exact skipped
    · split
      · next room => exact createCopy_keeps _ _ _ _ reader room
      · exact setReader_keeps reader rfl

theorem readLayout_keeps {p : Fin 8} (slot : Nat) (l : Layout) {s : State} (reader : readerPage s.reader = some p) :
    Keeps s (readLayout p slot l s) :=
  ((setReader_keeps reader rfl).trans (onBeam_keeps _ _)).trans (judgeTrigger_keeps _)

theorem readEnd_keeps {p : Fin 8} {s : State} (reader : readerPage s.reader = some p) : Keeps s (readEnd p s) := by
  refine Keeps.trans (t := spendPage p (s.setReader .finished)) ?_ (examineJobEnd_keeps _)
  refine ⟨(setReader_keepsTables s _).trans (spendPage_keepsTables p _), fun law => ?_, fun law => ?_, fun law => ?_⟩
  · unfold SpeedLaw at *
    rw [wantedSpeed_of_line (s := s) (by simp) (by simp) (by simp)]
    simpa using law
  · unfold SetsLaw at *
    simpa using law
  · obtain ⟨jobEnd, line, only⟩ := pagesLaw_at law reader
    refine ⟨fun q => ?_, by simp [jobEnd], by simp [line]⟩
    have closed := spendPage_noneOpen (s := s.setReader .finished) only q
    exact iff_of_false closed (by simp [readerPage])

theorem readRecord_keeps {p : Fin 8} (slot copy : Nat) {s : State} (reader : readerPage s.reader = some p) :
    Keeps s (readRecord p slot copy s) := by
  unfold readRecord
  split
  · exact recordRead_keeps slot reader
  · split
    · exact readPanel_keeps _ _ _ reader
    · exact readLayout_keeps _ _ reader
    · exact readEnd_keeps reader
    · exact recordRead_keeps slot reader

theorem readLoop_keeps (k : Nat) (s : State) : Keeps s (readLoop k s) := by
  induction k generalizing s with
  | zero => exact .refl s
  | succ k ih =>
    unfold readLoop
    split
    · next reader => exact (readRecord_keeps _ _ (by rw [reader]; rfl)).trans (ih _)
    all_goals exact .refl s

theorem readOn_keeps (s : State) : Keeps s (readOn s) := readLoop_keeps _ s

/-- A waiting Reader has no page OPEN, the line active and the job-end flag clear. -/
theorem takePage_keeps {s : State} (waiting : s.reader = .waiting) : Keeps s (takePage s) := by
  refine (needPage_keeps (.refl s) id id fun law => ?_).trans (readOn_keeps _)
  obtain ⟨opened, jobEnd, idle⟩ := law
  refine ⟨?_, fun line => ?_, fun p => ?_⟩
  · by_contra ended
    have := (jobEnd (by simpa using ended)).1
    simp [waiting] at this
  · have := idle line
    simp [waiting] at this
  · exact fun isOpen => by simpa [waiting, readerPage] using (opened p).mp isOpen

theorem resumeStalled_keeps (s : State) : Keeps s (resumeStalled s) := by
  unfold resumeStalled
  split
  · next reader => exact (setReader_keeps (by rw [reader]; rfl) rfl).trans (readOn_keeps _)
  all_goals exact .refl s

theorem layoutRead_keeps (s : State) : Keeps s (layoutRead s) := by
  unfold layoutRead
  split
  · next reader => exact (recordRead_keeps _ (by rw [reader]; rfl)).trans (readOn_keeps _)
  all_goals exact .refl s

theorem completeChangeover_keeps (s : State) : Keeps s (completeChangeover s) := by
  unfold completeChangeover
  split
  · refine ((((onBeam_keeps s _).trans (mapReg_keeps _ fun n r => ?_)).trans (syncEyes_keeps _)).trans
      (queueLine_keeps _ _)).trans (layoutRead_keeps _)
    unfold LaneReg.released
    split
    · exact .inl rfl
    · exact .inr rfl
  all_goals exact .refl s

theorem takeBeamStatus_keeps (b : BeamStatus) (s : State) : Keeps s (takeBeamStatus b s) := by
  unfold takeBeamStatus
  split
  · split
    case h_1 | h_2 => exact .refl s
    case h_3 => exact completeChangeover_keeps s
    case h_4 => exact failChangeover_keeps s
  · exact .refl s

/-! ## The end of a panel -/

theorem makeDone_keeps (n : Lane) (q : Source) (s : State) : Keeps s (makeDone n q s) := by
  unfold makeDone
  split
  · exact .refl s
  · exact ((((queueEvent_keeps _ s).trans (onList_keeps _ n fun room => (List.length_filter_le _ _).trans room)).trans
      ((onPage_keeps _ _ (f := fun a => { a with openPanels := a.openPanels - 1 }) id Iff.rfl).trans
        (releasePage_keeps _ _))).trans (resumeStalled_keeps _)).trans (examineJobEnd_keeps _)

/-! ## Traverse and handoff -/

/-- A head that has left PROVISIONAL may start its traverse. -/
theorem sendTraverse_keeps (e : Entry) {s : State} (head : ∀ a, s.headEntry = some a → a.status ≠ .provisional) :
    Keeps s (sendTraverse e s) :=
  (setHeadStatus_keeps s .cutting (by simp) head).trans (onCuts_keeps_of_entries _ rfl rfl)

theorem head_status {s : State} {e a : Entry} (head : s.headEntry = some e) (other : s.headEntry = some a) :
    a.status = e.status := by
  rw [head] at other
  rw [Option.some.inj other]

theorem tryTraverse_keeps (s : State) : Keeps s (tryTraverse s) := by
  unfold tryTraverse
  split
  · next e head =>
    split
    · next ok => exact sendTraverse_keeps e fun a other => by simp [head_status head other, ok.1]
    · exact .refl s
  · exact .refl s

theorem assertDeliver_keeps (ch n : Lane) (q : Source) (st : ChannelState) (delay : Option Nat) (s : State) :
    Keeps s (assertDeliver ch n q st delay s) := by
  unfold assertDeliver
  exact (onCtx_keeps s n q _).trans (onChannel_keeps _ ch _)

theorem beginCycle_keeps (ch n : Lane) (q : Source) (s : State) : Keeps s (beginCycle ch n q s) := by
  unfold beginCycle
  dsimp only
  split
  · exact assertDeliver_keeps _ _ _ _ _ s
  · split
    · exact assertDeliver_keeps _ _ _ _ _ s
    · exact onChannel_keeps s ch _

theorem takeWaiting_keeps (s : State) : Keeps s (takeWaiting s) := by
  unfold takeWaiting
  split
  · exact (onHand_keeps s _).trans (beginCycle_keeps _ _ _ _)
  · exact .refl s

theorem handCut_keeps (n : Lane) (q : Source) (s : State) : Keeps s (handCut n q s) := by
  unfold handCut
  split
  · exact makeDone_keeps n q s
  · split
    · exact onHand_keeps s _
    · exact beginCycle_keeps _ _ _ s

theorem endCycle_keeps (ch : Lane) (note : Ctx → Ctx) (s : State) : Keeps s (endCycle ch note s) := by
  unfold endCycle
  split
  · exact ((((onChannel_keeps s ch _).trans (onCtx_keeps _ _ _ _)).trans (makeDone_keeps _ _ _)).trans
      (tryTraverse_keeps _)).trans (takeWaiting_keeps _)
  · exact onChannel_keeps s ch _

theorem timeoutCycle_keeps (ch : Lane) (s : State) : Keeps s (timeoutCycle ch s) :=
  (endCycle_keeps ch _ s).trans (raiseHold_keeps _ _)

theorem recordCut_keeps (actual : Int) (parts : Lanes (Option LanePart)) (n : Lane) (s : State) :
    Keeps s (recordCut actual parts n s) := by
  unfold recordCut
  split
  · exact .refl s
  · next p _ =>
    dsimp only
    have starts : Keeps s (match p.starts with
        | some q => s.onCtx n q fun c => { c with startActual := some actual, startEntry := none }
        | none => s) := by
      split
      · exact onCtx_keeps s n _ _
      · exact .refl s
    have ends (u : State) (before : Keeps s u) : Keeps s (match p.ends with
        | some q => handCut n q (u.onCtx n q fun c => { c with endActual := some actual, endEntry := none, state := .cut })
        | none => u) := by
      split
      · exact before.trans ((onCtx_keeps u n _ _).trans (handCut_keeps _ _ _))
      · exact before
    exact ends _ starts

theorem takeEnd_keeps (e : Entry) (s : State) : Keeps s (takeEnd e s) := by
  have cut : Keeps s (forLanes (recordCut s.outPos e.parts)
      (s.onCuts fun c => { c with cutTimer := none, knifeStart := false, knifeLanes := Lanes.same false })) :=
    (onCuts_keeps_of_entries s rfl rfl).trans (forLanes_keeps (recordCut_keeps _ _) _)
  unfold takeEnd
  dsimp only
  refine Keeps.trans ?_ ((filterEntries_keeps _ fun a => a.order != e.order).trans (examineJobEnd_keeps _))
  split
  · exact cut.trans (raiseHold_keeps _ _)
  · exact cut

theorem onEntryPanels_keeps (e : Entry) (f : Ctx → Ctx) (s : State) : Keeps s (onEntryPanels e f s) := by
  refine forLanes_keeps (fun n u => ?_) s
  dsimp only
  split
  · exact .refl u
  · next p =>
    have ends (q : Option Source) (v : State) (before : Keeps u v) :
        Keeps u (match q with | some q => v.onCtx n q f | none => v) := by
      split
      · exact before.trans (onCtx_keeps v n _ _)
      · exact before
    exact ends _ _ (ends _ u (.refl u))

theorem creep_keeps (e : Entry) (s : State) : Keeps s (creep e s) := by
  unfold creep
  refine Keeps.trans ?_ (onEntryPanels_keeps e _ _)
  refine Keeps.trans ?_ (onCuts_keeps_of_entries _ rfl rfl)
  exact (sendDrive_keeps _ _ s).trans (onHead_keeps _ fun a _ => { fixed := Iff.rfl })

theorem sequencerInPosition_keeps (s : State) : Keeps s (sequencerInPosition s) := by
  unfold sequencerInPosition
  split
  · next e head =>
    split
    · next indexing =>
      split
      · exact creep_keeps e s
      · unfold positioned
        refine ((setHeadStatus_keeps s .positioned (by simp) fun a other => ?_).trans (onCuts_keeps_of_entries _ rfl rfl)).trans
          (tryTraverse_keeps _)
        simp [head_status head other, indexing]
    · exact .refl s
  · exact .refl s

theorem outfeedInPosition_keeps (s : State) : Keeps s (outfeedInPosition s) := onMotion_keeps_of_same s

/-! ## The entry into RUNNING (R119, R136) -/

theorem takeUpHead_keeps (s : State) : Keeps s (takeUpHead s) := by
  unfold takeUpHead
  split
  · next e head =>
    split
    · next interrupted =>
      exact (sendTraverse_keeps e fun a other => by simp [head_status head other, interrupted]).trans
        (onEntryPanels_keeps e _ _)
    · exact tryTraverse_keeps s
  · exact .refl s

theorem whileRunning_keeps {f : State → State} (keeps : ∀ u, Keeps u (f u)) (s : State) : Keeps s (whileRunning f s) := by
  unfold whileRunning
  split
  · exact keeps s
  · exact .refl s

theorem enterRunning_keeps {s : State} (line : s.motion.line = .ready ∨ s.motion.line = .held) : Keeps s (enterRunning s) := by
  have clear {j : Bool} (h : j = true → s.motion.line = .holding ∨ s.motion.line = .tripped) : j ≠ true := by
    intro ended
    rcases h ended with e | e <;> simp [e] at line
  obtain ⟨u, started⟩ : ∃ u, queueLine .state (s.onMotion fun m => { m with holds := HoldSet.empty, line := .running }) = u :=
    ⟨_, rfl⟩
  have tables : KeepsTables s u :=
    started ▸ (onMotion_keepsTables s _).trans (queueLine_keeps _ _).toKeepsTables
  have motion : u.motion = { s.motion with holds := HoldSet.empty, line := .running } := by rw [← started]; simp
  have running : Keeps s (commandSpeed u).1 := by
    have speed := commandSpeed_motion u
    refine ⟨tables.trans (commandSpeed_tables u), keepsLine_of_motion ?_ ?_ (fun _ => commandSpeed_speedLaw u) ?_ ?_ ?_⟩
    · simp [← started]
    · simp [← started]
    · rintro ⟨untripped, -, -, jobEnd⟩
      have ended := clear jobEnd
      obtain ⟨trips, cause⟩ := untripped (by rcases line with h | h <;> simp [h])
      unfold SetsLaw
      rw [speed, motion]
      exact ⟨fun _ => ⟨trips, cause⟩, by simp, fun _ => rfl, fun h => absurd h ended⟩
    · rw [speed, motion]
      intro before ended
      exact absurd ended (clear fun h => (before h).2)
    · rw [speed, motion]
      simp
  unfold enterRunning
  rw [started]
  exact ((((running.trans (laminatorFailed_keeps _)).trans (whileRunning_keeps judgeOutfeed_keeps _)).trans
    (whileRunning_keeps takeUpHead_keeps _)).trans (reissue_keeps _)).trans (tripAsserted_keeps _)

end Sys2Proof.Machine
end

section
/-! PROOFS. The Station Link Master and what follows every command (`settle`) keep the laws. -/
namespace Sys2Proof.Machine

/-! ## Line actions and the arbiter (R157, R165) -/

theorem actionFailed_keeps (a : Action) (s : State) : Keeps s (actionFailed a s) := by
  unfold actionFailed
  split
  case h_1 | h_2 => exact raiseHold_keeps _ s
  case h_3 | h_4 => exact beamActionFailed_keeps _ s

theorem actionAcked_keeps (a : Action) (s : State) : Keeps s (actionAcked a s) := by
  unfold actionAcked
  split
  case h_1 | h_2 => exact .refl s
  case h_3 => exact positionsAcked_keeps _ s
  case h_4 => exact moveAcked_keeps _ s

theorem sendTxn_keeps (t : Txn) (s : State) : Keeps s (sendTxn t s) := onStation_keeps s id

theorem arbiter_keeps (k : Nat) (s : State) : Keeps s (arbiter k s) := by
  induction k generalizing s with
  | zero => exact .refl s
  | succ k ih =>
    unfold arbiter
    split
    · exact .refl s
    split
    · next a r waiting =>
      have taken : Keeps s (s.onStation fun x => { x with actions := r }) :=
        onStation_keeps s fun room => by rw [waiting] at room; exact Nat.le_of_succ_le room
      dsimp only
      split
      · exact (taken.trans (actionFailed_keeps a _)).trans (ih _)
      · exact taken.trans (sendTxn_keeps _ _)
    split
    · exact (onStation_keeps s id).trans (sendTxn_keeps _ _)
    split
    · exact sendTxn_keeps _ s
    · exact .refl s

theorem runArbiter_keeps (s : State) : Keeps s (runArbiter s) := arbiter_keeps _ s

/-! ## The reaction of the Motion Controller (R142, R150, R152) -/

theorem openNip_keeps (s : State) : Keeps s (openNip s).1 :=
  (onMotion_keeps_of_same s (f := fun m => { m with nip := .opened })).trans (pushAction_keeps _ _)

/-- The line passes from HOLDING to IDLE with the job-end flag set (R152). -/
theorem jobEndStop_keeps {s : State} (holding : s.motion.line = .holding) (jobEnd : s.motion.jobEnd = true) :
    Keeps s (jobEndStop s) := by
  obtain ⟨u, opened⟩ : ∃ u, stationIfFailed (openNip s) = u := ⟨_, rfl⟩
  have motion : ∃ h, u.motion = { s.motion with nip := .opened, holds := h } := by
    obtain ⟨h, e⟩ := stationIfFailed_holdsOnly (openNip s)
    refine ⟨h, ?_⟩
    rw [← opened, e]
    simp [openNip]
  obtain ⟨h, motion⟩ := motion
  have tables : KeepsTables s u := opened ▸ (openNip_keeps s).toKeepsTables.trans (stationIfFailed_tables _)
  have stopped : Keeps s (u.onMotion fun m =>
      { m with holds := HoldSet.empty, trips := TripSet.empty, firstCause := none, jobEnd := false, line := .idle }) := by
    refine ⟨tables.trans (onMotion_keepsTables u _), ?_⟩
    refine keepsLine_of_motion (by simp [← opened]) (by simp [← opened]) ?_ ?_ ?_ ?_
    · rw [speedLaw_of_not_running (by simp [holding]), speedLaw_of_not_running (by simp)]
      simp [motion]
    · intro _
      unfold SetsLaw
      simp
    · simp
    · intro law _
      exact .inr (law.2.1 jobEnd).1
  unfold jobEndStop
  rw [opened]
  refine Keeps.trans ?_ (syncEyes_keeps _)
  refine Keeps.trans ?_ (mapReg_keeps _ fun _ _ => .inl rfl)
  exact stopped.trans (queueLine_keeps _ _)

/-- The line passes from HOLDING to HELD with the job-end flag clear (R142). -/
theorem enterHeld_keeps {s : State} (holding : s.motion.line = .holding) (jobEnd : s.motion.jobEnd = false) :
    Keeps s (s.onMotion fun m => { m with line := .held }) := by
  refine ⟨onMotion_keepsTables s _, keepsLine_of_motion rfl (fun _ => rfl) ?_ ?_ ?_ (by simp)⟩
  · rw [speedLaw_of_not_running (by simp [holding]), speedLaw_of_not_running (by simp)]
    exact id
  · rintro ⟨untripped, -, -, -⟩
    unfold SetsLaw
    simp [untripped (by simp [holding]), jobEnd]
  · simp [jobEnd]

theorem endHolding_keeps {s : State} (holding : s.motion.line = .holding) : Keeps s (endHolding s) := by
  unfold endHolding
  split
  · split
    · next jobEnd => exact jobEndStop_keeps holding jobEnd
    · next jobEnd => exact (enterHeld_keeps holding (by simpa using jobEnd)).trans (queueLine_keeps _ _)
  · exact .refl s

theorem reactMotion_keeps (before s : State) : Keeps s (reactMotion before s) := by
  unfold reactMotion
  split
  · split
    · exact judgeOutfeed_keeps s
    · exact .refl s
  · next holding => exact (judgeHolding_keeps _ _ s).trans (endHolding_keeps (by simpa using holding))
  all_goals exact .refl s

theorem settle_keeps (before s : State) : Keeps s (settle before s) := by
  unfold settle
  exact ((((judgeTrigger_keeps s).trans (reactMotion_keeps _ _)).trans (runArbiter_keeps _)).trans
    (reactMotion_keeps _ _)).trans (runArbiter_keeps _)

theorem settleAll_keeps (before s : State) : Keeps s (settleAll before s) := (settleReg_keeps s).trans (settle_keeps _ _)

/-! ## The watchdog (R155, R159, R164) -/

theorem onRecord_keeps (s : State) (r : Role) (f : StationRecord → StationRecord) : Keeps s (s.onRecord r f) :=
  onStation_keeps s id

theorem lossOf_keeps (r : Role) (s : State) : Keeps s (lossOf r s) := by
  unfold lossOf
  split
  case h_1 | h_2 =>
    split
    · exact raiseHold_keeps _ s
    · exact .refl s
  case h_3 => exact failChangeover_keeps s
  case h_4 => exact onStation_keeps s id

theorem goodOutcome_keeps (r : Role) (s : State) : Keeps s (goodOutcome r s) := by
  unfold goodOutcome
  split
  case h_1 | h_2 => exact (onRecord_keeps s r _).trans (queueEvent_keeps _ _)
  case h_3 => exact onRecord_keeps s r _
  case h_4 => exact .refl s

theorem failedOutcome_keeps (r : Role) (s : State) : Keeps s (failedOutcome r s) := by
  have one (w : Nat) : Keeps s
      (if w ≤ (s.station.records.get r).failures + 1 then
        lossOf r (queueEvent (.stationNotice .lost r) (s.onRecord r fun _ => ⟨.lost, w⟩))
      else s.onRecord r fun x => { x with failures := x.failures + 1 }) := by
    split
    · exact ((onRecord_keeps s r _).trans (queueEvent_keeps _ _)).trans (lossOf_keeps _ _)
    · exact onRecord_keeps s r _
  unfold failedOutcome
  dsimp only
  split
  case h_1 | h_2 => exact one _
  case h_3 => exact onRecord_keeps s r _
  case h_4 => exact .refl s

theorem watchdog_keeps (t : Txn) (o : TxnOutcome) (s : State) : Keeps s (watchdog t o s) := by
  unfold watchdog
  split
  · exact .refl s
  · split
    case h_1 | h_3 | h_4 => exact goodOutcome_keeps _ s
    case h_2 | h_5 | h_6 => exact failedOutcome_keeps _ s

/-! ## The rules of the roles (R160 to R163) -/

theorem holdIf_keeps (P : Prop) [Decidable P] (r : HoldReason) (s : State) :
    Keeps s (if P then raiseHold r s else s) := by
  split
  · exact raiseHold_keeps r s
  · exact .refl s

theorem laminatorAnswer_keeps (a : LaminatorStatus) (s : State) : Keeps s (laminatorAnswer a s) := by
  unfold laminatorAnswer
  exact ((onStation_keeps s id).trans (holdIf_keeps _ _ _)).trans (holdIf_keeps _ _ _)

theorem reportSplices_keeps (k : Nat) (s : State) : Keeps s (reportSplices k s) := by
  induction k generalizing s with
  | zero => exact .refl s
  | succ k ih => exact (reportSplice_keeps s).trans (ih _)

theorem unwindAnswer_keeps (wasLost : Bool) (a : UnwindStatus) (s : State) : Keeps s (unwindAnswer wasLost a s) := by
  unfold unwindAnswer
  dsimp only
  refine Keeps.trans ?_ (onStation_keeps _ id)
  have taken : Keeps s (s.onStation fun x => { x with unwind := some a, spliceRecord := some a.splices }) :=
    onStation_keeps s id
  have spliced (old : Option Nat) (u : State) : Keeps u (match old with
      | none => if wasLost then queueEvent (.stationNotice .splicesUnknown .unwind) u else u
      | some r => reportSplices ((a.splices + 256 - r) % 256) u) := by
    split
    · split
      · exact queueEvent_keeps _ u
      · exact .refl u
    · exact reportSplices_keeps _ u
  have lowRoll (u : State) : Keeps u
      (if a.rollLow = true ∧ u.station.rollLow = false then queueEvent (.stationNotice .rollLow .unwind) u else u) := by
    split
    · exact queueEvent_keeps _ u
    · exact .refl u
  exact (taken.trans (spliced _ _)).trans (lowRoll _)

theorem trimAnswer_keeps (a : TrimStatus) (s : State) : Keeps s (trimAnswer a s) := by
  have taken : Keeps s (s.onStation fun x => { x with trim := some a }) := onStation_keeps s id
  unfold trimAnswer
  split
  case h_1 => exact taken
  case h_2 | h_3 => exact taken.trans (raiseHold_keeps _ _)

theorem pollAnswer_keeps (r : Role) (wasLost : Bool) (p : List Byte) (s : State) : Keeps s (pollAnswer r wasLost p s) := by
  unfold pollAnswer
  split
  · split
    · exact laminatorAnswer_keeps _ s
    · exact .refl s
  · split
    · exact (onStation_keeps s id).trans (takeBeamStatus_keeps _ _)
    · exact .refl s
  · split
    · exact unwindAnswer_keeps _ _ s
    · exact .refl s
  · split
    · exact trimAnswer_keeps _ s
    · exact .refl s

/-! ## The relay and the outcomes (R156, R158, R165, R167) -/

theorem endRelay_keeps (r : Relay) (st : Status) (rest : List Byte) (s : State) : Keeps s (endRelay r st rest s) :=
  (onStation_keeps s id).trans (reply_keeps _ _ _ _ _)

theorem chunkOutcome_keeps (o : TxnOutcome) (s : State) : Keeps s (chunkOutcome o s) := by
  unfold chunkOutcome
  split
  · exact .refl s
  · split
    · dsimp only
      split
      · exact endRelay_keeps _ _ _ s
      · exact onStation_keeps s id
    all_goals exact endRelay_keeps _ _ _ s

theorem ownerOutcome_keeps (t : Txn) (wasLost : Bool) (o : TxnOutcome) (s : State) : Keeps s (ownerOutcome t wasLost o s) := by
  unfold ownerOutcome
  split
  · split
    · split
      · exact pollAnswer_keeps _ _ _ s
      · exact .refl s
    all_goals exact .refl s
  · split
    · exact actionAcked_keeps _ s
    all_goals exact actionFailed_keeps _ s
  · exact chunkOutcome_keeps o s

theorem takeOutcome_keeps (t : Txn) (o : TxnOutcome) (s : State) : Keeps s (takeOutcome t o s) :=
  ((onStation_keeps s id).trans (watchdog_keeps t o _)).trans (ownerOutcome_keeps _ _ _ _)

theorem fallDue_keeps (r : Role) (s : State) : Keeps s (fallDue r s) := by
  unfold fallDue
  split
  · exact .refl s
  · refine Keeps.trans ?_ (onStation_keeps _ id)
    split
    · exact (onStation_keeps s id).trans (failedOutcome_keeps _ _)
    · exact .refl s

end Sys2Proof.Machine
end

section
/-! PROOFS. The parameter set (R185): its values after replacements, the clamps of a SETUP, and the candidate set. -/
namespace Sys2Proof.Machine

/-! ## Parameters and their numbers -/

theorem all_getElem (p : Param) : Param.all[(paramIndex p).val]? = some p := by cases p <;> rfl

theorem all_nodup : Param.all.Nodup :=
  List.Nodup.of_map Param.ctorIdx (by rw [show Param.all.map Param.ctorIdx = List.range 55 from rfl]; exact List.nodup_range)

theorem mem_all (p : Param) : p ∈ Param.all := List.mem_of_getElem? (all_getElem p)

theorem all_getElem_iff {i : Nat} {p : Param} : Param.all[i]? = some p ↔ i = (paramIndex p).val := by
  constructor
  · intro at_i
    have below : i < Param.all.length := (List.getElem?_eq_some_iff.mp at_i).1
    exact (List.getElem?_inj below all_nodup).mp (at_i.trans (all_getElem p).symm)
  · rintro rfl
    exact all_getElem p

theorem paramIndex_inj {p q : Param} : paramIndex p = paramIndex q ↔ p = q := by
  constructor
  · intro same
    have := all_getElem p
    rw [same, all_getElem q] at this
    exact (Option.some.inj this).symm
  · rintro rfl
    rfl

theorem paramOfNumber_eq_some {n : Nat} {p : Param} : paramOfNumber n = some p ↔ n = paramNumber p := by
  unfold paramOfNumber paramNumber
  split
  · next zero => simp [zero]
  · next pos =>
    rw [all_getElem_iff]
    omega

/-! ## Values of a set -/

theorem par_eq_val (s : State) (p : Param) : s.par p = ParamSet.val s.params p := rfl

theorem val_put (v : ParamSet) (p q : Param) (x : Int) : (v.put p x).val q = if p = q then x else v.val q := by
  unfold ParamSet.val ParamSet.put
  simp only [Fin.getElem_fin, Vector.getElem_set, Fin.val_inj, paramIndex_inj]

theorem paramRange_nonempty (p : Param) : paramLow p ≤ paramHigh p := by cases p <;> decide

theorem clampParam_bounds (p : Param) (x : Int) : paramLow p ≤ clampParam p x ∧ clampParam p x ≤ paramHigh p := by
  have := paramRange_nonempty p
  unfold clampParam
  split
  · omega
  · split <;> omega

theorem clampParam_of_range {p : Param} {x : Int} (range : paramLow p ≤ x ∧ x ≤ paramHigh p) : clampParam p x = x := by
  unfold clampParam
  rw [if_neg (by omega), if_neg (by omega)]

theorem clampParam_eq_iff {p : Param} {x : Int} : clampParam p x = x ↔ paramLow p ≤ x ∧ x ≤ paramHigh p :=
  ⟨fun same => same ▸ clampParam_bounds p x, clampParam_of_range⟩

theorem clampFold_val (l : List Param) (v : ParamSet) (p : Param) :
    (l.foldl (fun (w : ParamSet) (p : Param) => w.put p (clampParam p (w.val p))) v).val p
      = if p ∈ l then clampParam p (v.val p) else v.val p := by
  induction l generalizing v with
  | nil => simp
  | cons a r ih =>
    rw [List.foldl_cons, ih, val_put]
    by_cases same : a = p
    · subst same
      simp [clampParam_of_range (clampParam_bounds a _)]
    · simp [same, Ne.symm same]

theorem clampAll_val (v : ParamSet) (p : Param) : (clampAll v).val p = clampParam p (v.val p) := by
  unfold clampAll
  rw [clampFold_val, if_pos (mem_all p)]

theorem applyPair_val (v : ParamSet) (q : Byte × Word32) (p : Param) :
    (applyPair v q).val p = if q.1.toNat = paramNumber p then q.2.toInt else v.val p := by
  unfold applyPair
  split
  · next a number =>
    rw [val_put]
    simp only [← paramOfNumber_eq_some, number, Option.some.injEq]
  · next number =>
    rw [if_neg fun same => by simp [paramOfNumber_eq_some.mpr same] at number]

/-- Each parameter takes the last value the pairs give it (R185 step 2). -/
theorem applyPairs_val (v : ParamSet) (pairs : List (Byte × Word32)) (p : Param) :
    (applyPairs v pairs).val p = (lastValue pairs p).getD (v.val p) := by
  unfold applyPairs lastValue
  induction pairs using List.reverseRecOn with
  | nil => rfl
  | append_singleton l q ih =>
    rw [List.foldl_append, List.foldl_cons, List.foldl_nil, applyPair_val, ih, List.reverse_append]
    by_cases number : q.1.toNat = paramNumber p <;> simp [number]

/-! ## The PULSE clamp (R171, R185 step 4) -/

theorem delayParam_inj {n m : Lane} : delayParam n = delayParam m ↔ n = m := by cases n <;> cases m <;> decide

theorem modeParam_ne_delay (n m : Lane) : delayParam n ≠ modeParam m := by cases n <;> cases m <;> decide

theorem isDelay_iff {p : Param} : isDelay p = true ↔ ∃ n, p = delayParam n := by
  constructor
  · intro delay
    unfold isDelay at delay
    split at delay
    · exact ⟨.lane0, rfl⟩
    · exact ⟨.lane1, rfl⟩
    · exact ⟨.lane2, rfl⟩
    · exact ⟨.lane3, rfl⟩
    · contradiction
  · rintro ⟨n, rfl⟩
    cases n <;> rfl

theorem shortPulse_iff (v : ParamSet) (n : Lane) :
    shortPulse v n = true ↔ v.val (modeParam n) = 1 ∧ v.val (delayParam n) % 16 < 2 := by
  simp [shortPulse]

theorem pulseLane_val (n : Lane) (v : ParamSet) (p : Param) :
    (pulseLane n v).val p = if p = delayParam n ∧ shortPulse v n = true then v.val p / 16 * 16 + 2 else v.val p := by
  unfold pulseLane
  by_cases short : shortPulse v n = true
  · by_cases delay : p = delayParam n
    · subst delay
      simp [short, val_put]
    · simp [short, val_put, delay, Ne.symm delay]
  · simp [short]

/-- The clamp of one lane leaves the other lanes' modes and delays. -/
theorem shortPulse_pulseLane {n m : Lane} (other : n ≠ m) (v : ParamSet) : shortPulse (pulseLane n v) m = shortPulse v m := by
  have mode : (pulseLane n v).val (modeParam m) = v.val (modeParam m) := by
    rw [pulseLane_val, if_neg fun h => modeParam_ne_delay n m h.1.symm]
  have delay : (pulseLane n v).val (delayParam m) = v.val (delayParam m) := by
    rw [pulseLane_val, if_neg fun h => other (delayParam_inj.mp h.1).symm]
  unfold shortPulse
  rw [mode, delay]

theorem pulseClamp_val_other (v : ParamSet) {p : Param} (other : isDelay p = false) : (pulseClamp v).val p = v.val p := by
  have apart (n : Lane) : p ≠ delayParam n := fun same => by
    simp [isDelay_iff.mpr ⟨n, same⟩] at other
  simp [pulseClamp, pulseLane_val, apart]

theorem pulseClamp_val_delay (v : ParamSet) (n : Lane) :
    (pulseClamp v).val (delayParam n)
      = if shortPulse v n = true then v.val (delayParam n) / 16 * 16 + 2 else v.val (delayParam n) := by
  unfold pulseClamp
  cases n <;>
    simp [pulseLane_val, delayParam_inj, shortPulse_pulseLane]

/-- The PULSE clamp keeps every parameter in its range. -/
theorem pulseClamp_range {v : ParamSet} (range : ∀ p, paramLow p ≤ v.val p ∧ v.val p ≤ paramHigh p) (p : Param) :
    paramLow p ≤ (pulseClamp v).val p ∧ (pulseClamp v).val p ≤ paramHigh p := by
  cases delay : isDelay p with
  | false => rw [pulseClamp_val_other v delay]; exact range p
  | true =>
    obtain ⟨n, rfl⟩ := isDelay_iff.mp delay
    have low : paramLow (delayParam n) = 0 := by cases n <;> rfl
    have high : paramHigh (delayParam n) = 47 := by cases n <;> rfl
    have := range (delayParam n)
    rw [pulseClamp_val_delay]
    split <;> omega

theorem candidate_range (v : ParamSet) (pairs : List (Byte × Word32)) (p : Param) :
    paramLow p ≤ (candidate v pairs).val p ∧ (candidate v pairs).val p ≤ paramHigh p :=
  pulseClamp_range (fun q => by rw [clampAll_val]; exact clampParam_bounds q _) p

end Sys2Proof.Machine
end

section
/-! PROOFS. The requests of the line link keep the laws: SETUP, THREAD, the line requests, LINE_RESET, the page requests. -/
namespace Sys2Proof.Machine

/-! ## The installation of a parameter set (R8, R75, R185) -/

theorem onWeb_keeps (s : State) {f : Web → Web}
    (counters : WebLaw s → CounterLaw (s.par .inScaleD) (f s.web).infeed ∧ CounterLaw (s.par .outScaleD) (f s.web).outfeed) :
    Keeps s (s.onWeb f) where
  toKeepsTables :=
    { stretch := id, bounds := id, zones := id, counts := id, queue := id, web := fun law => ⟨law.1, counters law⟩ }
  toKeepsLine := ⟨id, id, id⟩

theorem changeAddr_actions (old new : ParamSet) (r : Role) (t : Station) :
    (changeAddr old new r t).actions = t.actions := by
  unfold changeAddr
  split
  · rfl
  · cases r <;> rfl

theorem installStation_actions (old new : ParamSet) (t : Station) : (installStation old new t).actions = t.actions := by
  have kept : (changeAddr old new .trim (changeAddr old new .unwind (changeAddr old new .beam
      (changeAddr old new .laminator t)))).actions = t.actions := by simp [changeAddr_actions]
  unfold installStation
  dsimp only
  split <;> exact kept

theorem install_params (new : ParamSet) (s : State) : (install new s).params = new := rfl

theorem install_par (new : ParamSet) (s : State) (p : Param) : (install new s).par p = new.val p := rfl

theorem install_web (new : ParamSet) (s : State) : (install new s).web = resetRemainders s.params new s.web := rfl

theorem install_reg (new : ParamSet) (s : State) (n : Lane) :
    (install new s).reg.get n = limitStretch (new.val .stretchLimit) (s.reg.get n) := by cases n <;> rfl

theorem install_station (new : ParamSet) (s : State) :
    (install new s).station = installStation s.params new s.station := rfl

/-- A remainder stays below a denominator that has not changed, and is 0 below any other (R8). -/
theorem resetRemainders_law {old new : ParamSet} {w : Web} (inPos : 0 < new.val .inScaleD) (outPos : 0 < new.val .outScaleD)
    (infeed : CounterLaw (old.val .inScaleD) w.infeed) (outfeed : CounterLaw (old.val .outScaleD) w.outfeed) :
    CounterLaw (new.val .inScaleD) (resetRemainders old new w).infeed
      ∧ CounterLaw (new.val .outScaleD) (resetRemainders old new w).outfeed := by
  obtain ⟨inCoord, inRem, inHold⟩ := infeed
  obtain ⟨outCoord, outRem, outHold⟩ := outfeed
  unfold resetRemainders
  constructor
  · dsimp only
    split
    · next same => exact ⟨inCoord, same.2 ▸ inRem, inHold⟩
    · exact ⟨inCoord, by simpa using inPos, inHold⟩
  · dsimp only
    split
    · next same => exact ⟨outCoord, same.2 ▸ outRem, outHold⟩
    · exact ⟨outCoord, by simpa using outPos, outHold⟩

/-- A candidate set that passes the cross-checks is installed in IDLE (R185 step 6). -/
theorem install_keeps {new : ParamSet} {s : State} (range : ∀ p, paramLow p ≤ new.val p ∧ new.val p ≤ paramHigh p)
    (checks : crossCheck new = none) (idle : s.motion.line = .idle) : Keeps s (install new s) where
  toKeepsTables :=
    { web := by
        rintro ⟨-, infeed, outfeed⟩
        exact ⟨⟨range, checks⟩, resetRemainders_law (range .inScaleD).1 (range .outScaleD).1 infeed outfeed⟩
      stretch := by
        intro _
        refine ⟨⟨range, checks⟩, fun n => ?_⟩
        rw [install_reg]
        have positive : (1000 : Int) ≤ new.val .stretchLimit := (range .stretchLimit).1
        exact clampSample_bounds (by rw [install_par]; omega) _
      bounds := by
        rintro ⟨lists, zones, actions, requests, events⟩
        refine ⟨by simpa using lists, by simpa using zones, ?_, by simpa using requests, by simpa using events⟩
        rw [install_station, installStation_actions]
        exact actions
      zones := fun ⟨_, room, ordered⟩ => ⟨⟨range, checks⟩, by simpa using room, by simpa using ordered⟩
      counts := id
      queue := fun ⟨_, ordered, unique, fresh⟩ =>
        ⟨⟨range, checks⟩, by simpa using ordered, by simpa using unique, by simpa using fresh⟩ }
  toKeepsLine :=
    { speed := by
        rw [speedLaw_of_not_running (by simp [idle]), speedLaw_of_not_running (by simp [idle])]
        simp
      sets := id
      pages := id }

theorem doSetup_keeps (tag : Byte) (pairs : List (Byte × Word32)) (s : State) : Keeps s (doSetup tag pairs s) := by
  unfold doSetup
  split
  · exact reply_keeps _ _ _ _ s
  · next idle =>
    split
    · exact reply_keeps _ _ _ _ s
    split
    · exact reply_keeps _ _ _ _ s
    · next checks =>
      have installed := install_keeps (candidate_range s.params pairs) checks (not_not.mp idle)
      split
      · exact installed.trans (reply_keeps _ _ _ _ _)
      · exact installed.trans (reply_keeps _ _ _ _ _)

/-! ## THREAD (R14) -/

theorem clearList_keeps (n : Lane) (s : State) : Keeps s (s.onList n fun _ => []) := onList_keeps s n (by simp)

theorem clearZones_keeps (s : State) : Keeps s (s.onZones fun _ => []) := onZones_keeps s (by simp) fun _ => trivial

theorem clearCuts_keeps (s : State) : Keeps s (s.onCuts fun _ => Cuts.cleared) where
  toKeepsTables :=
    { web := id, stretch := id, bounds := id, zones := id, counts := id
      queue := fun law => ⟨law.1, trivial, by simp [Cuts.cleared], by simp [Cuts.cleared]⟩ }
  toKeepsLine := ⟨id, id, id⟩

/-- Both remainders 0, both hold-backs 0, the infeed at a path length within C_MAX (R14). -/
theorem threaded_law {s : State} {p : Nat} (fits : (p : Int) ≤ s.par .cMax) (law : ParamsLaw s) :
    CounterLaw (s.par .inScaleD) (Web.threaded p).infeed ∧ CounterLaw (s.par .outScaleD) (Web.threaded p).outfeed := by
  have inPos : (0 : Int) < s.par .inScaleD := (law.1 .inScaleD).1
  have outPos : (0 : Int) < s.par .outScaleD := (law.1 .outScaleD).1
  have most : s.par .cMax ≤ 4000000 := (law.1 .cMax).2
  refine ⟨⟨?_, by simpa [Web.threaded] using inPos, by simp [Web.threaded]⟩,
    by simp [Web.threaded], by simpa [Web.threaded] using outPos, by simp [Web.threaded]⟩
  simp only [Web.threaded, coordCeiling]
  omega

theorem threadBlocks_tables {p : Nat} {s : State} (fits : (p : Int) ≤ s.par .cMax) : KeepsTables s (threadBlocks p s) := by
  unfold threadBlocks
  dsimp only
  refine KeepsTables.trans ?_ (onMotion_keepsTables _ _)
  refine KeepsTables.trans ?_ (onStore_next_keeps _ 0).toKeepsTables
  refine KeepsTables.trans ?_ (mapReg_keeps _ fun n r => .inr ?_).toKeepsTables
  · refine Keeps.toKeepsTables (Keeps.trans ?_ (clearCuts_keeps _))
    refine Keeps.trans ?_ (clearZones_keeps _)
    refine Keeps.trans ?_ (forLanes_keeps clearList_keeps _)
    exact onWeb_keeps s fun law => threaded_law fits law.1
  · unfold LaneReg.threaded
    split <;> rfl

theorem threadBlocks_motion (p : Nat) (s : State) : (threadBlocks p s).motion.line = .ready := rfl

/-- THREAD in IDLE with a path length within C_MAX keeps the laws up to the Reader's search for a page. -/
theorem threadBlocks_keeps {p : Nat} {s : State} (idle : s.motion.line = .idle) (fits : (p : Int) ≤ s.par .cMax) :
    Keeps s (threadBlocks p s) := by
  have clear : PagesLaw s → s.motion.jobEnd ≠ true := fun law ended => by
    have := (law.2.1 ended).2
    simp [idle] at this
  refine ⟨threadBlocks_tables fits, keepsLine_of_motion (by simp) (fun _ => rfl) ?_ ?_ ?_ (by simp [threadBlocks_motion])⟩
  · rw [speedLaw_of_not_running (by simp [idle]), speedLaw_of_not_running (by simp [threadBlocks_motion])]
    exact id
  · rintro ⟨untripped, -, -, jobEnd⟩
    obtain ⟨trips, cause⟩ := untripped (by simp [idle])
    refine ⟨fun _ => ⟨trips, cause⟩, by simp [threadBlocks_motion], by simp [threadBlocks_motion], fun ended => ?_⟩
    have := jobEnd (by simpa using ended)
    simp [idle] at this
  · intro law ended
    have := (law (by simpa using ended)).2
    simp [idle] at this

theorem raiseTrip_active (c : TripCause) {s : State} (active : s.motion.line ≠ .idle) : (raiseTrip c s).motion.line ≠ .idle := by
  simp [(raiseTrip_tripped c s active).1]

theorem tripIfAsserted_active (i : TripInput) {s : State} (active : s.motion.line ≠ .idle) :
    (tripIfAsserted i s).motion.line ≠ .idle := by
  unfold tripIfAsserted
  split
  · exact raiseTrip_active _ active
  · exact active

theorem tripAsserted_active {s : State} (active : s.motion.line ≠ .idle) : (tripAsserted s).motion.line ≠ .idle :=
  tripIfAsserted_active _ (tripIfAsserted_active _ (tripIfAsserted_active _ (tripIfAsserted_active _ active)))

theorem threadBlocks_pages (p : Nat) (s : State) (q : Fin 8) : (threadBlocks p s).store.pages[q] = s.store.pages[q] := rfl

theorem threadAll_keeps {p : Nat} {s : State} (idle : s.motion.line = .idle) (fits : (p : Int) ≤ s.par .cMax) :
    Keeps s (threadAll p s) := by
  have threaded : Keeps s (tripAsserted (syncEyes (queueLine .state (threadBlocks p s)))) :=
    (((threadBlocks_keeps idle fits).trans (queueLine_keeps _ _)).trans (syncEyes_keeps _)).trans (tripAsserted_keeps _)
  refine (needPage_keeps threaded.toKeepsTables threaded.speed threaded.sets ?_).trans (readOn_keeps _)
  rintro ⟨opened, jobEnd, reader⟩
  refine ⟨?_, tripAsserted_active (by simp [threadBlocks_motion]), fun q => ?_⟩
  · by_contra ended
    have := (jobEnd (by simpa using ended)).2
    simp [idle] at this
  · have closed : readerPage s.reader ≠ some q := by
      rcases reader idle with e | e <;> simp [e, readerPage]
    have store : (tripAsserted (syncEyes (queueLine .state (threadBlocks p s)))).store = (threadBlocks p s).store := by simp
    rw [store, threadBlocks_pages]
    exact fun isOpen => closed ((opened q).mp isOpen)

theorem doThread_keeps (tag : Byte) (p : Word32) (s : State) : Keeps s (doThread tag p s) := by
  unfold doThread
  split
  · exact reply_keeps _ _ _ _ s
  · next idle =>
    split
    · next fits =>
      exact ((reply_keeps _ _ _ _ s).trans (threadAll_keeps (by simpa using idle) (by simpa [State.par] using fits.2))).trans
        (settleAll_keeps _ _)
    · exact reply_keeps _ _ _ _ s

/-! ## The line requests (R136 to R140) -/

theorem doRun_keeps (tag : Byte) (s : State) : Keeps s (doRun tag s) := by
  unfold doRun
  split
  · exact reply_keeps _ _ _ _ s
  · next ready =>
    split
    · exact ((reply_keeps _ _ _ _ s).trans (enterRunning_keeps (.inl (by simpa using ready)))).trans (settle_keeps _ _)
    · exact reply_keeps _ _ _ _ s

theorem doHold_keeps (tag : Byte) (s : State) : Keeps s (doHold tag s) := by
  unfold doHold
  split
  case h_1 | h_2 => exact reply_keeps _ _ _ _ s
  all_goals exact ((reply_keeps _ _ _ _ s).trans (raiseHold_keeps _ _)).trans (settle_keeps _ _)

theorem doResume_keeps (tag : Byte) (s : State) : Keeps s (doResume tag s) := by
  unfold doResume
  split
  · exact reply_keeps _ _ _ _ s
  · next held =>
    split
    · exact ((reply_keeps _ _ _ _ s).trans (enterRunning_keeps (.inr (by simpa using held)))).trans (settle_keeps _ _)
    · exact reply_keeps _ _ _ _ s

/-- The line passes from TRIPPED to HELD, or to HOLDING with the job-end flag set (R139). -/
theorem recovered_keeps {s : State} (tripped : s.motion.line = .tripped) :
    Keeps s (s.onMotion fun m =>
      { m with trips := TripSet.empty, firstCause := none, line := if m.jobEnd then .holding else .held }) := by
  refine ⟨onMotion_keepsTables s _, keepsLine_of_motion rfl (fun _ => rfl) ?_ ?_ ?_ ?_⟩
  · rw [speedLaw_of_not_running (by simp [tripped]), speedLaw_of_not_running]
    · exact id
    · rw [State.onMotion_motion]
      dsimp only
      split <;> simp
  · intro _
    unfold SetsLaw
    rw [State.onMotion_motion]
    dsimp only
    split <;> simp_all
  · intro before ended
    exact ⟨(before ended).1, .inl (if_pos ended)⟩
  · intro _ idle
    rw [State.onMotion_motion] at idle
    dsimp only at idle
    split at idle <;> contradiction

theorem doRecover_keeps (tag : Byte) (s : State) : Keeps s (doRecover tag s) := by
  unfold doRecover
  split
  · exact reply_keeps _ _ _ _ s
  · next tripped =>
    split
    · exact reply_keeps _ _ _ _ s
    · exact (((reply_keeps _ _ _ _ s).trans (recovered_keeps (by simpa using tripped))).trans (queueLine_keeps _ _)).trans
        (settle_keeps _ _)

/-! ## LINE_RESET (R140) -/

theorem zero_law {s : State} (law : ParamsLaw s) :
    CounterLaw (s.par .inScaleD) Web.zero.infeed ∧ CounterLaw (s.par .outScaleD) Web.zero.outfeed := by
  have inPos : (0 : Int) < s.par .inScaleD := (law.1 .inScaleD).1
  have outPos : (0 : Int) < s.par .outScaleD := (law.1 .outScaleD).1
  exact ⟨⟨by simp [Web.zero], by simpa [Web.zero] using inPos, by simp [Web.zero]⟩,
    by simp [Web.zero], by simpa [Web.zero] using outPos, by simp [Web.zero]⟩

theorem cleared_page (q : Fin 8) : PlanStore.cleared.pages[q] = Page.empty := by
  simp [PlanStore.cleared]

theorem clearStore_tables (s : State) : KeepsTables s (s.onStore fun _ => PlanStore.cleared) where
  web := id
  stretch := id
  bounds := id
  zones := id
  queue := id
  counts := by
    intro _ p
    rw [show (s.onStore fun _ => PlanStore.cleared).store.pages[p] = Page.empty from cleared_page p]
    exact slotCount_empty.symm

theorem resetBlocks_tables (s : State) : KeepsTables s (resetBlocks s) := by
  unfold resetBlocks
  dsimp only
  refine KeepsTables.trans ?_ (onHand_keeps _ _).toKeepsTables
  refine KeepsTables.trans ?_ (onBeam_keeps _ _).toKeepsTables
  refine KeepsTables.trans ?_ (clearCuts_keeps _).toKeepsTables
  refine KeepsTables.trans ?_ (clearZones_keeps _).toKeepsTables
  refine KeepsTables.trans ?_ (forLanes_keeps clearList_keeps _).toKeepsTables
  refine KeepsTables.trans ?_ (mapReg_keeps _ fun _ _ => .inr rfl).toKeepsTables
  refine KeepsTables.trans ?_ (forLanes_keeps (fun n u => onEye_keeps u n _) _).toKeepsTables
  refine KeepsTables.trans ?_ (setReader_keepsTables _ _)
  exact (onWeb_keeps s fun law => zero_law law.1).toKeepsTables.trans (clearStore_tables _)

theorem doLineReset_keeps (tag : Byte) (s : State) : Keeps s (doLineReset tag s) := by
  unfold doLineReset
  refine Keeps.trans ?_ (runArbiter_keeps _)
  refine Keeps.trans ?_ (queueLine_keeps _ _)
  refine ⟨?_, fun _ => rfl, ?_, ?_⟩
  · refine KeepsTables.trans ?_ (onMotion_keepsTables _ _)
    refine KeepsTables.trans ?_ (onStation_keeps _ fun _ => by simp [actionMax]).toKeepsTables
    exact (reply_keeps _ _ _ _ s).toKeepsTables.trans (resetBlocks_tables _)
  · intro _
    unfold SetsLaw
    simp [resetMotion, Motion.powerOn]
  · intro _
    refine ⟨fun q => ?_, by simp [resetMotion, Motion.powerOn], fun _ => .inl rfl⟩
    have closed : (((resetBlocks (reply 0x08 tag .ok [] s)).onStation fun t =>
        { t with actions := [.speed 0, .nip .opened] }).onMotion fun _ => resetMotion).store.pages[q].state ≠ .opened := by
      change PlanStore.cleared.pages[q].state ≠ .opened
      rw [cleared_page]
      simp [Page.empty]
    exact iff_of_false closed (by change readerPage .inactive ≠ some q; simp [readerPage])

/-! ## The page requests (R21 to R24) -/

theorem doPageLoad_keeps (tag page first : Byte) (records : List RawRecord) (s : State) :
    Keeps s (doPageLoad tag page first records s) := by
  unfold doPageLoad
  split
  · exact reply_keeps _ _ _ _ s
  split
  · exact reply_keeps _ _ _ _ s
  split
  · exact reply_keeps _ _ _ _ s
  split
  · exact reply_keeps _ _ _ _ s
  · next p _ may _ _ =>
    refine Keeps.trans (onPage_keeps s p (fun _ => rfl) ?_) (reply_keeps _ _ _ _ _)
    refine iff_of_false (by simp [loadPage]) fun isOpen => ?_
    simp only [isOpen] at may
    simp [writable] at may

theorem readerAtArmed_keeps (p : Fin 8) (s : State) : Keeps s (readerAtArmed p s) := by
  unfold readerAtArmed
  split
  · next waits => exact takePage_keeps waits.1
  · exact .refl s

theorem doPageArm_keeps (tag page : Byte) (s : State) : Keeps s (doPageArm tag page s) := by
  unfold doPageArm
  split
  · exact reply_keeps _ _ _ _ s
  · next p _ =>
    split
    · exact reply_keeps _ _ _ _ s
    · next loading =>
      split
      · exact reply_keeps _ _ _ _ s
      · refine Keeps.trans ?_ (settleAll_keeps _ _)
        refine Keeps.trans ?_ (readerAtArmed_keeps p _)
        refine (reply_keeps _ _ _ _ s).trans (onPage_keeps _ p id (iff_of_false (by simp) fun isOpen => ?_))
        cases (not_not.mp loading).symm.trans isOpen

theorem doPageClear_keeps (tag page : Byte) (s : State) : Keeps s (doPageClear tag page s) := by
  unfold doPageClear
  split
  · exact reply_keeps _ _ _ _ s
  · next p _ =>
    have emptied (other : s.store.pages[p].state ≠ .opened) : Keeps s (s.onPage p fun _ => Page.empty) :=
      onPage_keeps s p (fun _ => slotCount_empty.symm) (iff_of_false (by simp [Page.empty]) other)
    split
    case h_1 loading => exact (emptied fun isOpen => by cases loading.symm.trans isOpen).trans (reply_keeps _ _ _ _ _)
    case h_2 armed => exact (emptied fun isOpen => by cases armed.symm.trans isOpen).trans (reply_keeps _ _ _ _ _)
    all_goals exact reply_keeps _ _ _ _ s

theorem doPageQuery_keeps (tag page : Byte) (s : State) : Keeps s (doPageQuery tag page s) := by
  unfold doPageQuery
  split <;> exact reply_keeps _ _ _ _ s

/-! ## The other requests (R90, R91, R99, R166, R187) -/

theorem doStatus_keeps (tag : Byte) (s : State) : Keeps s (doStatus tag s) :=
  (reply_keeps _ _ _ _ s).trans (onLink_keeps _ id id)

theorem doPanelQuery_keeps (tag lane : Byte) (s : State) : Keeps s (doPanelQuery tag lane s) := by
  unfold doPanelQuery
  split <;> exact reply_keeps _ _ _ _ s

theorem doFlagPanel_keeps (tag lane : Byte) (panelId : Word16) (s : State) : Keeps s (doFlagPanel tag lane panelId s) := by
  unfold doFlagPanel
  split
  · exact reply_keeps _ _ _ _ s
  split
  · exact reply_keeps _ _ _ _ s
  split
  · exact reply_keeps _ _ _ _ s
  split
  · exact reply_keeps _ _ _ _ s
  · exact (onCtx_keeps s _ _ _).trans (reply_keeps _ _ _ _ _)

theorem doZoneAdd_keeps (tag : Byte) (offset length : Word32) (s : State) : Keeps s (doZoneAdd tag offset length s) := by
  unfold doZoneAdd
  split
  · exact reply_keeps _ _ _ _ s
  split
  · exact reply_keeps _ _ _ _ s
  · next fields =>
    dsimp only
    split
    · exact reply_keeps _ _ _ _ s
    · next z placed =>
      exact (reply_keeps _ _ _ _ s).trans (addPlaced_keeps fun _ => placeZone_spans (by dsimp only; omega) placed)

theorem doStationRelay_keeps (tag targetType target direction width : Byte) (index : Word16) (data : List Byte) (s : State) :
    Keeps s (doStationRelay tag targetType target direction width index data s) := by
  unfold doStationRelay
  split
  · exact reply_keeps _ _ _ _ s
  split
  · exact reply_keeps _ _ _ _ s
  · exact (onStation_keeps s id).trans (runArbiter_keeps _)

theorem handle_keeps (tag : Byte) (r : Request) (s : State) : Keeps s (handle tag r s) := by
  cases r with
  | status => exact doStatus_keeps tag s
  | setup pairs => exact doSetup_keeps tag pairs s
  | thread p => exact doThread_keeps tag p s
  | run => exact doRun_keeps tag s
  | hold => exact doHold_keeps tag s
  | resume => exact doResume_keeps tag s
  | recover => exact doRecover_keeps tag s
  | lineReset => exact doLineReset_keeps tag s
  | pageLoad page first records => exact doPageLoad_keeps tag page first records s
  | pageArm page => exact doPageArm_keeps tag page s
  | pageClear page => exact doPageClear_keeps tag page s
  | pageQuery page => exact doPageQuery_keeps tag page s
  | panelQuery lane => exact doPanelQuery_keeps tag lane s
  | flagPanel lane panelId => exact doFlagPanel_keeps tag lane panelId s
  | zoneAdd offset length => exact doZoneAdd_keeps tag offset length s
  | stationRelay tt t d w i data => exact doStationRelay_keeps tag tt t d w i data s

theorem takeFrame_keeps (f : Frame) (s : State) : Keeps s (takeFrame f s) := by
  unfold takeFrame
  split
  · exact reply_keeps _ _ _ _ s
  · exact reply_keeps _ _ _ _ s
  · exact handle_keeps _ _ s

end Sys2Proof.Machine
end

section
/-! PROOFS. Every step keeps the laws, the line link's own left aside (`exec_keeps`). -/
namespace Sys2Proof.Machine

/-! ## POWER_ON (R15, R190) -/

theorem poweredOn_par (pins : Pins) (pending : List Instr) (p : Param) :
    (State.poweredOn pins pending).par p = paramDefault p := by cases p <;> rfl

theorem poweredOn_params (pins : Pins) (pending : List Instr) : ParamsLaw (State.poweredOn pins pending) := by
  refine ⟨fun p => ?_, by change crossCheck defaultParams = none; decide⟩
  rw [poweredOn_par]
  cases p <;> decide

/-- After POWER_ON every law holds, whatever the pins and the commands that wait. -/
theorem poweredOn_laws (pins : Pins) (pending : List Instr) : AllLaws (State.poweredOn pins pending) := by
  have ranges := poweredOn_params pins pending
  refine ⟨⟨ranges, zero_law ranges⟩, ⟨ranges, fun n => ?_⟩, rfl, ?_, ?_, ⟨ranges, Nat.zero_le _, trivial⟩, ?_, fun p => ?_,
    ⟨ranges, trivial, List.nodup_nil, by simp [State.poweredOn, Cuts.cleared]⟩, by simp [LinkLaw, State.poweredOn, LineLink.powerOn]⟩
  · rw [poweredOn_par]
    cases n <;> exact (by decide : (-20000 : Int) ≤ 0 ∧ (0 : Int) ≤ 20000)
  · simp [SetsLaw, State.poweredOn, Motion.powerOn]
  · exact ⟨fun n => by cases n <;> exact Nat.zero_le _, Nat.zero_le _, Nat.zero_le _, Nat.zero_le _, Nat.zero_le _⟩
  · refine ⟨fun p => ?_, by simp [State.poweredOn, Motion.powerOn], fun _ => .inl rfl⟩
    refine iff_of_false ?_ (by simp [State.poweredOn, readerPage])
    change PlanStore.cleared.pages[p].state ≠ .opened
    rw [cleared_page]
    simp [Page.empty]
  · change PlanStore.cleared.pages[p].count = slotCount PlanStore.cleared.pages[p].slots
    rw [cleared_page]
    exact slotCount_empty.symm

theorem poweredOn_keeps (s : State) (pins : Pins) (pending : List Instr) : Keeps s (State.poweredOn pins pending) := by
  obtain ⟨web, stretch, speed, sets, bounds, zones, pages, counts, queue, -⟩ := poweredOn_laws pins pending
  exact ⟨⟨fun _ => web, fun _ => stretch, fun _ => bounds, fun _ => zones, fun _ => counts, fun _ => queue⟩,
    fun _ => speed, fun _ => sets, fun _ => pages⟩

/-! ## The encoder events (R3 to R7, R12) -/

/-- A forward count keeps its channel's ranges (R1, R6). -/
theorem countForward_law {d : Int} (n : Nat) {c : Counter} (law : CounterLaw d c) :
    CounterLaw d (countForward n d.toNat c).1 := by
  obtain ⟨coord, rem, hold⟩ := law
  unfold countForward
  split
  · exact ⟨coord, rem, (Nat.sub_le _ _).trans hold⟩
  split
  · exact ⟨coord, rem, hold⟩
  · next room =>
    have below : (c.rem + n) % d.toNat < d.toNat := Nat.mod_lt _ (by omega)
    refine ⟨?_, by dsimp only; omega, hold⟩
    rcases Nat.eq_zero_or_pos ((c.rem + n) / d.toNat) with zero | moves
    · rw [zero]
      exact coord
    · exact not_lt.mp fun past => room ⟨moves, past⟩

/-- A reverse count keeps its channel's ranges (R5). -/
theorem countReverse_law {d : Int} {c : Counter} (law : CounterLaw d c) : CounterLaw d (countReverse c).1 := by
  obtain ⟨coord, rem, hold⟩ := law
  unfold countReverse
  split
  · next room => exact ⟨coord, rem, room⟩
  · exact ⟨coord, rem, hold⟩

/-- The denominator of a channel (R1). -/
def State.denominator (s : State) : Encoder → Int
  | .infeed => s.par .inScaleD
  | .outfeed => s.par .outScaleD

theorem ratio_denominator (s : State) (e : Encoder) : (s.ratio e).2 = (s.denominator e).toNat := by cases e <;> rfl

/-- One channel's counter replaced by one that keeps the ranges the old one keeps. -/
theorem setCounter_keeps {e : Encoder} {s : State} {c : Counter}
    (law : CounterLaw (s.denominator e) (s.web.get e) → CounterLaw (s.denominator e) c) : Keeps s (s.setCounter e c) := by
  refine onWeb_keeps s ?_
  rintro ⟨-, infeed, outfeed⟩
  cases e with
  | infeed => exact ⟨law infeed, outfeed⟩
  | outfeed => exact ⟨infeed, law outfeed⟩

theorem outfeedAdvanced_keeps (s : State) : Keeps s (outfeedAdvanced s) :=
  (((((advanceEyes_keeps s).trans (settleReg_keeps _)).trans (judgeLocks_keeps _)).trans (settleReg_keeps _)).trans
    (removeZones_keeps _)).trans (judgeContent_keeps _)

theorem holdCleared_keeps (before : State) (e : Encoder) (hold : Nat) (s : State) : Keeps s (holdCleared before e hold s) := by
  unfold holdCleared
  split
  · exact .refl s
  · split
    · exact (forLanes_keeps edgeAfterHold_keeps s).trans (settleAll_keeps _ _)
    · exact .refl s

theorem advanced_keeps (before : State) (e : Encoder) (s : State) : Keeps s (advanced before e s) := by
  unfold advanced
  split
  · exact (judgeContent_keeps s).trans (settle_keeps _ _)
  · exact (outfeedAdvanced_keeps s).trans (settle_keeps _ _)

theorem forwardCount_keeps (e : Encoder) (s : State) : Keeps s (forwardCount e s) := by
  have counted : Keeps s (s.setCounter e (countForward (s.ratio e).1 (s.ratio e).2 (s.web.get e)).1) :=
    setCounter_keeps fun law => by
      rw [ratio_denominator]
      exact countForward_law _ law
  unfold forwardCount
  dsimp only
  split
  · exact counted.trans (holdCleared_keeps _ _ _ _)
  · exact counted
  · exact counted.trans (advanced_keeps _ _ _)
  · exact (raiseTrip_keeps _ s).trans (settle_keeps _ _)

theorem reverseCount_keeps (e : Encoder) (s : State) : Keeps s (reverseCount e s) := by
  have counted : Keeps s (s.setCounter e (countReverse (s.web.get e)).1) := setCounter_keeps countReverse_law
  unfold reverseCount
  dsimp only
  split
  · exact (raiseTrip_keeps _ s).trans (settle_keeps _ _)
  · split
    · exact counted
    · split
      · exact counted.trans (holdLevels_keeps _)
      · exact counted

/-! ## The events of the eyes and of the handoff -/

theorem setDark_keeps (n : Lane) (b : Bool) (s : State) : Keeps s (setDark n b s) := onPins_keeps s _

theorem leadingEdge_keeps (n : Lane) (s : State) : Keeps s (leadingEdge n s) := by
  unfold leadingEdge
  split
  · exact .refl s
  split
  · exact (setDark_keeps n _ s).trans (takeLeading_keeps n _)
  · exact setDark_keeps n _ s

theorem trailingEdge_keeps (n : Lane) (s : State) : Keeps s (trailingEdge n s) := by
  unfold trailingEdge
  split
  · split
    · exact ((setDark_keeps n _ s).trans (takeTrailing_keeps n _)).trans (settleAll_keeps _ _)
    · exact setDark_keeps n _ s
  · exact .refl s

theorem inspectChange_keeps (n : Lane) (asserted : Bool) (s : State) : Keeps s (inspectChange n asserted s) := by
  unfold inspectChange
  dsimp only
  split
  · exact (onPins_keeps s _).trans (takeInspect_keeps n _)
  · exact onPins_keeps s _

theorem completeCycle_keeps (ch : Lane) (s : State) : Keeps s (completeCycle ch s) := endCycle_keeps ch id s

theorem delayExpired_keeps (ch : Lane) (s : State) : Keeps s (delayExpired ch s) := by
  unfold delayExpired
  dsimp only
  split
  · split
    case h_1 => exact assertDeliver_keeps _ _ _ _ _ s
    case h_2 => exact (completeCycle_keeps ch s).trans (settleAll_keeps _ _)
    all_goals exact .refl s
  · exact .refl s

theorem acceptTaken_keeps (ch : Lane) (asserted : Bool) (before s : State) : Keeps s (acceptTaken ch asserted before s) := by
  have completed : Keeps s (settleAll before (completeCycle ch s)) := (completeCycle_keeps ch s).trans (settleAll_keeps _ _)
  unfold acceptTaken
  split
  · split
    · split
      · exact onChannel_keeps s ch _
      · exact completed
    · exact .refl s
  · split
    · exact .refl s
    · exact completed
  all_goals exact .refl s

theorem acceptChange_keeps (n : Lane) (high : Bool) (s : State) : Keeps s (acceptChange n high s) := by
  unfold acceptChange
  dsimp only
  split
  · exact .refl s
  split
  · exact (onPins_keeps s _).trans (acceptTaken_keeps _ _ _ _)
  · exact onPins_keeps s _

theorem handoffExpired_keeps (ch : Lane) (s : State) : Keeps s (handoffExpired ch s) := by
  unfold handoffExpired
  split
  · exact (timeoutCycle_keeps ch s).trans (settleAll_keeps _ _)
  · exact .refl s

theorem busyChange_keeps (n : Lane) (high : Bool) (s : State) : Keeps s (busyChange n high s) := by
  unfold busyChange
  dsimp only
  split
  · exact .refl s
  split
  · exact ((onPins_keeps s _).trans (tryTraverse_keeps _)).trans (settle_keeps _ _)
  · exact onPins_keeps s _

/-! ## The events of the drive, the knife, the timers and the inputs -/

theorem inPosition_keeps (s : State) : Keeps s (inPosition s) :=
  ((outfeedInPosition_keeps s).trans (sequencerInPosition_keeps _)).trans (settle_keeps _ _)

theorem traverseEnd_keeps (s : State) : Keeps s (traverseEnd s) := by
  unfold traverseEnd
  split
  · split
    · exact (takeEnd_keeps _ s).trans (settleAll_keeps _ _)
    · exact .refl s
  · exact .refl s

theorem indexExpired_keeps (s : State) : Keeps s (indexExpired s) := by
  unfold indexExpired
  split
  · exact (raiseTrip_keeps _ s).trans (settle_keeps _ _)
  · exact .refl s

theorem cutExpired_keeps (s : State) : Keeps s (cutExpired s) := by
  unfold cutExpired
  split
  · exact (raiseTrip_keeps _ s).trans (settle_keeps _ _)
  · exact .refl s

theorem tripInput_keeps (i : TripInput) (asserted : Bool) (s : State) : Keeps s (tripInput i asserted s) := by
  unfold tripInput
  dsimp only
  split
  · exact .refl s
  split
  · exact ((onPins_keeps s _).trans (raiseTrip_keeps _ _)).trans (settle_keeps _ _)
  · exact onPins_keeps s _

theorem dwellExpired_keeps (s : State) : Keeps s (dwellExpired s) := by
  unfold dwellExpired
  split
  · exact (((openNip_keeps s).trans (laminatorFailed_keeps _)).trans (reportDwell_keeps _)).trans (settle_keeps _ _)
  · exact .refl s

theorem beamExpired_keeps (s : State) : Keeps s (beamExpired s) := by
  unfold beamExpired
  split
  · exact (failChangeover_keeps s).trans (settle_keeps _ _)
  · exact .refl s

theorem stationAnswered_keeps (a : Answer) (s : State) : Keeps s (stationAnswered a s) := by
  unfold stationAnswered
  split
  · exact (takeOutcome_keeps _ _ s).trans (settleAll_keeps _ _)
  · exact .refl s

theorem replyExpired_keeps (s : State) : Keeps s (replyExpired s) := by
  unfold replyExpired
  split
  · exact (takeOutcome_keeps _ _ s).trans (settleAll_keeps _ _)
  · exact .refl s

/-! ## The line link (R180 to R183) -/

theorem sendNext_requests (l : LineLink) : (sendNext l).requests = l.requests := by
  unfold sendNext
  split
  · rfl
  split
  · rfl
  split <;> rfl

theorem sendNext_events_le (l : LineLink) : (sendNext l).events.length ≤ l.events.length := by
  unfold sendNext
  split
  · exact le_rfl
  split
  · exact le_rfl
  split
  · next events => simp [events]
  · exact le_rfl

theorem startTx_keeps (s : State) : Keeps s (startTx s) :=
  onLink_keeps s (fun room => by rwa [sendNext_requests]) fun room => (sendNext_events_le _).trans room

theorem takeWaitingFrames_keeps (k : Nat) (s : State) : Keeps s (takeWaitingFrames k s) := by
  induction k generalizing s with
  | zero => exact startTx_keeps s
  | succ k ih =>
    unfold takeWaitingFrames
    dsimp only
    split
    · split
      · next f r requests =>
        refine (((startTx_keeps s).trans (onLink_keeps _ (fun room => ?_) id)).trans (takeFrame_keeps f _)).trans (ih _)
        rw [requests] at room
        exact Nat.le_of_succ_le room
      · exact startTx_keeps s
    · exact startTx_keeps s

theorem runLink_keeps (s : State) : Keeps s (runLink s) := takeWaitingFrames_keeps _ s

theorem enqueue_keeps (f : Frame) (s : State) : Keeps s (enqueue f s) := by
  refine onLink_keeps s ?_ ?_ <;> intro room <;> split
  · next free => simpa using free
  all_goals exact room

theorem arrive_keeps (f : Frame) (s : State) : Keeps s (arrive f s) := (enqueue_keeps f s).trans (runLink_keeps _)

theorem setRx_keeps (bs : List Byte) (s : State) : Keeps s (setRx bs s) := onLink_keeps s id id

theorem huntByte_keeps (b : Byte) (s : State) : Keeps s (huntByte b s) := by
  unfold huntByte
  split <;> exact setRx_keeps _ s

theorem receiveByte_keeps (b : Byte) (s : State) : Keeps s (receiveByte b s) := by
  unfold receiveByte
  split
  · exact huntByte_keeps b s
  · unfold lengthByte
    split <;> exact setRx_keeps _ s
  · unfold frameByte
    split
    · exact setRx_keeps _ s
    · exact (setRx_keeps _ s).trans (arrive_keeps _ _)
    · exact setRx_keeps _ s

theorem receiveBytes_keeps (bs : List Byte) (s : State) : Keeps s (receiveBytes bs s) :=
  foldl_keeps (fun u b => receiveByte_keeps b u) bs s

/-! ## Commands and steps -/

/-- Every command keeps the laws. -/
theorem exec_keeps {c : Instr} {s t : State} (run : exec c s = .next t) : Keeps s t := by
  have started {u : State} (keeps : Keeps s u) (run : (.next (startTx u) : Host.Outcome State Fault Refusal) = .next t) :
      Keeps s t := Host.Outcome.next.inj run ▸ keeps.trans (startTx_keeps u)
  have linked {u : State} (keeps : Keeps s u) (run : (.next u : Host.Outcome State Fault Refusal) = .next t) :
      Keeps s t := Host.Outcome.next.inj run ▸ keeps
  cases c with
  | powerOn s1Fitted => exact linked (poweredOn_keeps s _ _) run
  | forwardCount e => exact started (forwardCount_keeps e s) run
  | reverseCount e => exact started (reverseCount_keeps e s) run
  | quadratureDoubleChange e => exact linked (.refl s) run
  | leadingEdge n => exact started (leadingEdge_keeps n s) run
  | trailingEdge n => exact started (trailingEdge_keeps n s) run
  | inspectAssert n asserted => exact started (inspectChange_keeps n asserted s) run
  | inPosition => exact started (inPosition_keeps s) run
  | traverseEnd => exact started (traverseEnd_keeps s) run
  | indexTimeout => exact started (indexExpired_keeps s) run
  | cutTimeout => exact started (cutExpired_keeps s) run
  | tripInputAsserted i asserted => exact started (tripInput_keeps i asserted s) run
  | dwellExpiry => exact started (dwellExpired_keeps s) run
  | beamTimeout => exact started (beamExpired_keeps s) run
  | pollDue r => exact started ((fallDue_keeps r s).trans (settle_keeps _ _)) run
  | stationAnswer a => exact linked ((stationAnswered_keeps a s).trans (runLink_keeps _)) run
  | replyTimeout => exact linked ((replyExpired_keeps s).trans (runLink_keeps _)) run
  | delayTimerExpiry ch => exact started (delayExpired_keeps ch s) run
  | acceptChange n high => exact started (acceptChange_keeps n high s) run
  | handoffTimeout ch => exact started (handoffExpired_keeps ch s) run
  | busyChange n high => exact started (busyChange_keeps n high s) run
  | lineFrameReceived bytes => exact started (receiveBytes_keeps bytes s) run
  | frameGapTimeout next => exact started (huntByte_keeps next s) run
  | frameLengthDiscard length => exact started (receiveByte_keeps length s) run
  | frameSent => exact linked ((onLink_keeps s id id).trans (runLink_keeps _)) run
  | _ => exact linked (arrive_keeps _ s) run

theorem setPending_keeps (q : List Instr) (s : State) : Keeps s (s.setPending q) := .of_same {} {}

/-- Every step keeps the laws. -/
theorem step_keeps {s t : State} (run : step s = .next t) : Keeps s t := by
  unfold step at run
  split at run
  · exact Host.Outcome.next.inj run ▸ .refl s
  · exact (setPending_keeps _ s).trans (exec_keeps run)

/-- Settles O53: every step keeps the laws of the counters and of the stretch estimates. -/
theorem stepKeepsCounterAndStretchRanges : Obligations.StepKeepsCounterAndStretchRanges :=
  ⟨fun _ _ law run => (step_keeps run).web law, fun _ _ law run => (step_keeps run).stretch law⟩

/-- Settles O54: every step keeps the laws of the commanded speed and of the sets. -/
theorem stepKeepsSpeedAndSets : Obligations.StepKeepsSpeedAndSets :=
  ⟨fun _ _ law run => (step_keeps run).speed law, fun _ _ law run => (step_keeps run).sets law⟩

/-- Settles O55: every step keeps the capacities and the order of the zones. -/
theorem stepKeepsCapacitiesAndZones : Obligations.StepKeepsCapacitiesAndZones :=
  ⟨fun _ _ law run => (step_keeps run).bounds law, fun _ _ law run => (step_keeps run).zones law⟩

/-- Settles O57: every step keeps the laws of the OPEN page and of the record counts. -/
theorem stepKeepsPagesAndReader : Obligations.StepKeepsPagesAndReader :=
  ⟨fun _ _ law run => (step_keeps run).pages law, fun _ _ law run => (step_keeps run).counts law⟩

/-- Settles O60: every law holds after POWER_ON, and so at reset. -/
theorem lawsHoldAtReset : Obligations.LawsHoldAtReset := poweredOn_laws _ _

/-- Settles O58: every step keeps the law of the Cut Queue. -/
theorem stepKeepsCutQueueOrder : Obligations.StepKeepsCutQueueOrder := fun _ _ law run => (step_keeps run).queue law

end Sys2Proof.Machine
end

section
/-! PROOFS. Every step keeps the line link's own law (R181, R183): a run of the link ends with nothing to send behind a free
transmitter and no frame to take, and every other command leaves transmitter, reply, requests and relay as they are. -/
namespace Sys2Proof.Machine

/-! ## The start of a transmission -/

theorem sendNext_sending {l : LineLink} (sending : l.tx ≠ none) : sendNext l = l := by
  obtain ⟨f, tx⟩ := Option.ne_none_iff_exists'.mp sending
  simp [sendNext, tx]

theorem startTx_sending {s : State} (sending : s.link.tx ≠ none) : startTx s = s := by
  unfold startTx State.onLink
  rw [sendNext_sending sending]

/-- A link that has done what it can leaves nothing to send behind a free transmitter (R183). -/
theorem sendNext_free {l : LineLink} (free : (sendNext l).tx = none) : (sendNext l).reply = none ∧ (sendNext l).events = [] := by
  cases tx : l.tx with
  | some f => simp [sendNext, tx] at free
  | none =>
    cases reply : l.reply with
    | some f => simp [sendNext, tx, reply] at free
    | none =>
      cases events : l.events with
      | cons e es => simp [sendNext, tx, reply, events] at free
      | nil => simp [sendNext, tx, reply, events]

theorem startTx_startTx (s : State) : startTx (startTx s) = startTx s := by
  by_cases sending : (startTx s).link.tx = none
  · have free := sendNext_free (l := s.link) sending
    exact startTx_idle _ free.1 fun _ => free.2
  · exact startTx_sending sending

theorem mayTake_eq_false {s : State} : s.mayTake = false ↔ (s.link.reply = none → s.station.relay ≠ none) := by
  simp [State.mayTake, Option.isSome_iff_ne_none]

/-- After the start of a transmission the link's law is that no frame may be taken or none waits (R181). -/
theorem startTx_linkLaw {s : State} (rest : (startTx s).mayTake = false ∨ s.link.requests = []) : LinkLaw (startTx s) := by
  refine ⟨sendNext_free, fun reply relay => ?_⟩
  rcases rest with blocked | none
  · exact absurd relay (mayTake_eq_false.mp blocked reply)
  · simpa using none

/-- A transmission starts in a state whose reply, transmitter, requests and relay are those of a lawful one. -/
theorem startTx_linkLaw_of_same {s u : State} (law : LinkLaw s) (reply : u.link.reply = s.link.reply := by simp)
    (tx : u.link.tx = s.link.tx := by simp) (requests : u.link.requests = s.link.requests := by simp)
    (relay : u.station.relay = s.station.relay := by simp) : LinkLaw (startTx u) := by
  obtain ⟨free, idle⟩ := law
  apply startTx_linkLaw
  by_cases sending : u.link.tx = none
  · by_cases inRelay : u.station.relay = none
    · exact .inr (requests.trans (idle (free (tx ▸ sending)).1 (relay ▸ inRelay)))
    · exact .inl (mayTake_eq_false.mpr fun _ => by simpa using inRelay)
  · rw [startTx_sending sending]
    by_cases waiting : u.link.reply = none ∧ u.station.relay = none
    · exact .inr (requests.trans (idle (reply ▸ waiting.1) (relay ▸ waiting.2)))
    · exact .inl (mayTake_eq_false.mpr fun reply relay => waiting ⟨reply, relay⟩)

/-! ## A run of the link (R181) -/

/-- A request taken leaves a reply waiting or a relay in progress (R166, R181). -/
theorem handle_mayTake (tag : Byte) (r : Request) (s : State) : (handle tag r s).mayTake = false := by
  have replied {u : State} (f : Frame) (waits : u.link.reply = some f) : u.mayTake = false := by
    simp [State.mayTake, waits]
  have made (kind : Byte) (st : Status) (rest : List Byte) (u : State) : (reply kind tag st rest u).mayTake = false :=
    replied _ rfl
  cases r with
  | status => exact replied _ rfl
  | setup pairs =>
    simp only [handle, doSetup]
    repeat' split
    all_goals exact made _ _ _ _
  | thread p =>
    simp only [handle, doThread]
    split
    · exact made _ _ _ _
    split
    · exact replied _ (by simp; rfl)
    · exact made _ _ _ _
  | run =>
    simp only [handle, doRun]
    split
    · exact made _ _ _ _
    split
    · exact replied _ (by simp; rfl)
    · exact made _ _ _ _
  | hold =>
    simp only [handle, doHold]
    split
    case h_1 | h_2 => exact made _ _ _ _
    all_goals exact replied _ (by simp; rfl)
  | resume =>
    simp only [handle, doResume]
    split
    · exact made _ _ _ _
    split
    · exact replied _ (by simp; rfl)
    · exact made _ _ _ _
  | recover =>
    simp only [handle, doRecover]
    split
    · exact made _ _ _ _
    split
    · exact made _ _ _ _
    · exact replied _ (by simp; rfl)
  | lineReset => exact replied _ (by simp [handle, doLineReset]; rfl)
  | pageLoad page first records =>
    simp only [handle, doPageLoad]
    repeat' split
    all_goals exact made _ _ _ _
  | pageArm page =>
    simp only [handle, doPageArm]
    split
    · exact made _ _ _ _
    split
    · exact made _ _ _ _
    split
    · exact made _ _ _ _
    · exact replied _ (by simp; rfl)
  | pageClear page =>
    simp only [handle, doPageClear]
    split
    · exact made _ _ _ _
    split
    all_goals exact made _ _ _ _
  | pageQuery page =>
    simp only [handle, doPageQuery]
    split <;> exact made _ _ _ _
  | panelQuery lane =>
    simp only [handle, doPanelQuery]
    split <;> exact made _ _ _ _
  | flagPanel lane panelId =>
    simp only [handle, doFlagPanel]
    repeat' split
    all_goals exact made _ _ _ _
  | zoneAdd offset length =>
    simp only [handle, doZoneAdd]
    split
    · exact made _ _ _ _
    split
    · exact made _ _ _ _
    split
    · exact made _ _ _ _
    · exact replied _ (by simp; rfl)
  | stationRelay tt t d w i data =>
    simp only [handle, doStationRelay]
    split
    · exact made _ _ _ _
    split
    · exact made _ _ _ _
    · simp [State.mayTake]

theorem takeFrame_mayTake (f : Frame) (s : State) : (takeFrame f s).mayTake = false := by
  unfold takeFrame
  split
  · simp [State.mayTake, reply]
  · simp [State.mayTake, reply]
  · exact handle_mayTake _ _ s

theorem takeWaitingFrames_blocked (k : Nat) {s : State} (blocked : (startTx s).mayTake = false) :
    takeWaitingFrames k s = startTx s := by
  cases k with
  | zero => rfl
  | succ k => simp [takeWaitingFrames, blocked]

theorem takeWaitingFrames_startTx (k : Nat) (s : State) : takeWaitingFrames k (startTx s) = takeWaitingFrames k s := by
  cases k with
  | zero => exact startTx_startTx s
  | succ k => simp [takeWaitingFrames, startTx_startTx]

/-- Behind a busy transmitter one frame at most is taken. -/
theorem takeWaitingFrames_law_of_sending (k : Nat) {s : State} (sending : s.link.tx ≠ none) :
    LinkLaw (takeWaitingFrames (k + 1) s) := by
  by_cases may : (startTx s).mayTake = true
  · cases requests : s.link.requests with
    | nil =>
      rw [takeWaitingFrames_empty _ _ requests]
      exact startTx_linkLaw (.inr requests)
    | cons f r =>
      have taken : takeWaitingFrames (k + 1) s
          = takeWaitingFrames k (takeFrame f ((startTx s).onLink fun l => { l with requests := r })) := by
        simp [takeWaitingFrames, may, requests]
      obtain ⟨u, after⟩ : ∃ u, takeFrame f ((startTx s).onLink fun l => { l with requests := r }) = u := ⟨_, rfl⟩
      have same : startTx u = u := startTx_sending (by rw [← after, startTx_sending sending]; simpa using sending)
      have blocked : (startTx u).mayTake = false := by rw [same, ← after]; exact takeFrame_mayTake _ _
      rw [taken, after, takeWaitingFrames_blocked k blocked]
      exact startTx_linkLaw (.inl blocked)
  · have blocked := Bool.eq_false_iff.mpr may
    rw [takeWaitingFrames_blocked _ blocked]
    exact startTx_linkLaw (.inl blocked)

/-- Two frames at most are taken, the second behind the reply to the first. -/
theorem takeWaitingFrames_law (k : Nat) (s : State) : LinkLaw (takeWaitingFrames (k + 2) s) := by
  by_cases may : (startTx s).mayTake = true
  · cases requests : s.link.requests with
    | nil =>
      rw [takeWaitingFrames_empty _ _ requests]
      exact startTx_linkLaw (.inr requests)
    | cons f r =>
      have taken : takeWaitingFrames (k + 2) s
          = takeWaitingFrames (k + 1) (takeFrame f ((startTx s).onLink fun l => { l with requests := r })) := by
        simp [takeWaitingFrames, may, requests]
      obtain ⟨u, after⟩ : ∃ u, takeFrame f ((startTx s).onLink fun l => { l with requests := r }) = u := ⟨_, rfl⟩
      have busy : u.mayTake = false := after ▸ takeFrame_mayTake _ _
      rw [taken, after, ← takeWaitingFrames_startTx]
      by_cases sending : (startTx u).link.tx = none
      · have blocked : (startTx (startTx u)).mayTake = false := by
          have silent : u.link.tx = none ∧ u.link.reply = none := by
            cases tx : u.link.tx with
            | some g => simp [startTx_sending (s := u) (by simp [tx]), tx] at sending
            | none =>
              cases reply : u.link.reply with
              | some g => simp [startTx, sendNext, tx, reply] at sending
              | none => exact ⟨rfl, rfl⟩
          rw [startTx_startTx]
          simpa [State.mayTake, silent.2] using fun _ => by simpa [State.mayTake, silent.2] using busy
        rw [takeWaitingFrames_blocked _ blocked]
        exact startTx_linkLaw (.inl blocked)
      · exact takeWaitingFrames_law_of_sending k sending
  · have blocked := Bool.eq_false_iff.mpr may
    rw [takeWaitingFrames_blocked _ blocked]
    exact startTx_linkLaw (.inl blocked)

theorem runLink_law (s : State) : LinkLaw (runLink s) := takeWaitingFrames_law 2 s

theorem arrive_law (f : Frame) (s : State) : LinkLaw (arrive f s) := runLink_law _

/-! ## The bytes received (R180) -/

theorem setRx_law (bs : List Byte) {s : State} (law : LinkLaw s) : LinkLaw (setRx bs s) := law

theorem huntByte_law (b : Byte) {s : State} (law : LinkLaw s) : LinkLaw (huntByte b s) := by
  unfold huntByte
  split <;> exact setRx_law _ law

theorem receiveByte_law (b : Byte) {s : State} (law : LinkLaw s) : LinkLaw (receiveByte b s) := by
  unfold receiveByte
  split
  · exact huntByte_law b law
  · unfold lengthByte
    split <;> exact setRx_law _ law
  · unfold frameByte
    split
    · exact setRx_law _ law
    · exact arrive_law _ _
    · exact setRx_law _ law

theorem receiveBytes_law (bs : List Byte) {s : State} (law : LinkLaw s) : LinkLaw (receiveBytes bs s) := by
  unfold receiveBytes
  induction bs generalizing s with
  | nil => exact law
  | cons b r ih => exact ih (receiveByte_law b law)

/-! ## Commands and steps -/

theorem exec_linkLaw {c : Instr} {s t : State} (law : LinkLaw s) (run : exec c s = .next t) : LinkLaw t := by
  have started {u : State} (lawful : LinkLaw u) : LinkLaw (startTx u) := by rwa [startTx_lawful u lawful]
  cases c with
  | powerOn s1Fitted => exact Host.Outcome.next.inj run ▸ (poweredOn_laws _ _).2.2.2.2.2.2.2.2.2
  | quadratureDoubleChange e => exact Host.Outcome.next.inj run ▸ law
  | stationAnswer a => exact Host.Outcome.next.inj run ▸ runLink_law _
  | replyTimeout => exact Host.Outcome.next.inj run ▸ runLink_law _
  | frameSent => exact Host.Outcome.next.inj run ▸ runLink_law _
  | lineFrameReceived bytes => exact Host.Outcome.next.inj run ▸ started (receiveBytes_law bytes law)
  | frameGapTimeout next => exact Host.Outcome.next.inj run ▸ started (huntByte_law next law)
  | frameLengthDiscard length => exact Host.Outcome.next.inj run ▸ started (receiveByte_law length law)
  | forwardCount | reverseCount | leadingEdge | trailingEdge | inspectAssert | inPosition | traverseEnd | indexTimeout
  | cutTimeout | tripInputAsserted | dwellExpiry | beamTimeout | pollDue | delayTimerExpiry | acceptChange
  | handoffTimeout | busyChange => exact Host.Outcome.next.inj run ▸ startTx_linkLaw_of_same law
  | _ => exact Host.Outcome.next.inj run ▸ arrive_law _ _

/-- Settles O59: every step keeps the law of the line link. -/
theorem stepKeepsLinkBusy : Obligations.StepKeepsLinkBusy := by
  intro s t law run
  unfold step at run
  split at run
  · exact Host.Outcome.next.inj run ▸ law
  · next c r _ => exact exec_linkLaw (s := s.setPending r) law run

end Sys2Proof.Machine
end

section
/-! PROOFS. The line link: requests as frames and as bytes, the receiver, the turns of transmitter and request queue
(R179 to R183). -/
namespace Sys2Proof.Machine

/-! ## Requests and their frames (R181) -/

/-- The number of pairs, records or bytes a request carries is one the table of R181 allows. -/
def Request.sized : Request → Prop
  | .setup pairs => 1 ≤ pairs.length ∧ pairs.length ≤ 48
  | .pageLoad _ _ records => 1 ≤ records.length ∧ records.length ≤ 14
  | .stationRelay _ _ d _ _ data => data.length = 1 ∨ (d ≠ 0 ∧ 1 ≤ data.length ∧ data.length ≤ 64)
  | _ => True

theorem parsePairs_bytes (pairs : List (Byte × Word32)) :
    parsePairs (pairs.flatMap fun q => q.1 :: word32Bytes q.2) = some pairs := by
  induction pairs with
  | nil => rfl
  | cons a r ih =>
    rw [List.flatMap_cons]
    simp only [word32Bytes, List.cons_append, List.nil_append, parsePairs, word32Of_bytes] at ih ⊢
    rw [ih]
    rfl

theorem takeRecord_bytes (v : RawRecord) (rest : List Byte) : takeRecord (v.toList ++ rest) = some (v, rest) := by
  obtain ⟨⟨l⟩, size⟩ := v
  match l, size with
  | [_, _, _, _, _, _, _, _, _, _, _, _, _, _, _, _], _ => rfl

theorem parseRecords_bytes (records : List RawRecord) :
    parseRecords records.length (records.flatMap fun v => v.toList) = some records := by
  induction records with
  | nil => rfl
  | cons v r ih => simp [parseRecords, takeRecord_bytes, ih]

/-- The payload of a request spells that request (R181). -/
theorem examine_request {r : Request} (sized : r.sized) : examine (requestKind r) (requestPayload r) = .request r := by
  cases r with
  | setup pairs =>
    change parseSetup _ = _
    simp only [parseSetup, requestPayload, parsePairs_bytes]
    exact if_pos sized
  | pageLoad page first records =>
    have kind (p : List Byte) : examine 0x10 p = parsePageLoad p := by simp [examine]
    rw [requestKind, kind]
    have count : (records.flatMap fun v => v.toList).length / 16 = records.length := by
      rw [Sys2Proof.Laws.RequestFits.records_length, Nat.mul_div_cancel_left _ (by omega)]
    simp only [parsePageLoad, requestPayload, count, parseRecords_bytes]
    exact if_pos sized
  | stationRelay tt t d w i data =>
    have kind (p : List Byte) : examine 0x20 p = parseRelay p := by simp [examine]
    rw [requestKind, kind]
    simp only [parseRelay, requestPayload, word16Bytes, List.cons_append, List.nil_append, word16Of_bytes]
    exact if_pos sized
  | thread p => simp [examine, requestKind, requestPayload, word32Bytes]
  | flagPanel lane panelId => simp [examine, requestKind, requestPayload, word16Bytes]
  | zoneAdd offset length => simp [examine, requestKind, requestPayload, word32Bytes]
  | _ => rfl

/-- A well-formed request command carries a request of a size the table allows. -/
theorem sized_of_wf {c : Instr} {tag : Byte} {r : Request} (spells : requestOf c = some (tag, r)) (wf : c.wf = true) :
    r.sized := by
  cases c <;> simp only [requestOf, Option.some.injEq, Prod.mk.injEq, reduceCtorEq] at spells <;> obtain ⟨rfl, rfl⟩ := spells
  case setup => simpa [Request.sized, Instr.wf] using wf
  case pageLoad => simpa [Request.sized, Instr.wf] using wf
  case stationRelay tt t d w i data =>
    change (if d = 0 then data.length == 1 else decide (1 ≤ data.length ∧ data.length ≤ 64)) = true at wf
    split at wf
    · exact .inl (by simpa using wf)
    · next write => exact .inr ⟨write, by simpa using wf⟩
  all_goals trivial

/-- A request command is the arrival of its frame. -/
theorem exec_request {c : Instr} {tag : Byte} {r : Request} (spells : requestOf c = some (tag, r)) (s : State) :
    exec c s = .next (arrive (requestFrame tag r) s) := by
  cases c <;> simp only [requestOf, Option.some.injEq, Prod.mk.injEq, reduceCtorEq] at spells <;>
    obtain ⟨rfl, rfl⟩ := spells <;> rfl

/-- A request command, or a BAD_KIND command, is the arrival of its frame. -/
theorem exec_frameOf {c : Instr} {f : Frame} (spells : frameOf c = some f) (s : State) : exec c s = .next (arrive f s) := by
  by_cases request : ∃ q, requestOf c = some q
  · obtain ⟨⟨tag, r⟩, ofRequest⟩ := request
    have : f = requestFrame tag r := by
      cases c <;> simp [requestOf] at ofRequest <;> obtain ⟨rfl, rfl⟩ := ofRequest <;> exact (Option.some.inj spells).symm
    rw [this]
    exact exec_request ofRequest s
  · cases c <;> simp [requestOf] at request <;> simp [frameOf, requestOf] at spells
    subst spells
    rfl

/-- On a ready link a request command is handled at once (R181). -/
theorem exec_request_ready {c : Instr} {tag : Byte} {r : Request} {s : State} (ready : s.linkReady)
    (spells : requestOf c = some (tag, r)) (sized : r.sized) : exec c s = .next (startTx (handle tag r s)) := by
  rw [exec_request spells]
  exact congrArg _ (requestArrives_ready tag r s ready (examine_request sized))

/-- On a ready link a request that is answered at once begins its reply, or leaves it waiting (R181, R183). -/
theorem exec_request_answered {c : Instr} {tag : Byte} {r : Request} {s u : State} {kind : Byte} {st : Status} {rest : List Byte}
    (ready : s.linkReady) (spells : requestOf c = some (tag, r)) (sized : r.sized)
    (answered : handle tag r s = reply kind tag st rest u) (link : u.link = s.link := by rfl) :
    exec c s = .next { u with link := linkReplied s.link (replyFrame kind tag st rest) } := by
  rw [exec_request_ready ready spells sized, answered, startTx_reply _ _ _ _ _ (by rw [link]; exact ready.1), link]

/-! ## The receiver (R179, R180) -/

theorem setRx_setRx (a b : List Byte) (s : State) : setRx a (setRx b s) = setRx a s := rfl

theorem setRx_same {s : State} {l : List Byte} (rx : s.link.rx = l) : setRx l s = s := by
  subst rx
  rfl

theorem receiveBytes_cons (b : Byte) (bs : List Byte) (s : State) :
    receiveBytes (b :: bs) s = receiveBytes bs (receiveByte b s) := rfl

theorem receiveBytes_append (as bs : List Byte) (s : State) :
    receiveBytes (as ++ bs) s = receiveBytes bs (receiveBytes as s) := List.foldl_append

theorem receiveByte_hunting (b : Byte) {s : State} (hunting : s.link.rx = []) : receiveByte b s = huntByte b s := by
  simp [receiveByte, hunting]

theorem receiveByte_length (b : Byte) {s : State} {x : Byte} (begun : s.link.rx = [x]) : receiveByte b s = lengthByte b s := by
  simp [receiveByte, begun]

theorem receiveByte_within (b : Byte) {s : State} {x len : Byte} {got : List Byte} (within : s.link.rx = x :: len :: got) :
    receiveByte b s = frameByte b s := by
  simp [receiveByte, within]

/-- Bytes of a frame whose end has not come yet are kept. -/
theorem receiveBytes_within (bs : List Byte) {got : List Byte} {len : Byte} {s : State}
    (rx : s.link.rx = startByte :: len :: got) (more : got.length + bs.length < len.toNat + 4) :
    receiveBytes bs s = setRx (startByte :: len :: (got ++ bs)) s := by
  induction bs generalizing got s with
  | nil =>
    rw [List.append_nil, setRx_same rx]
    rfl
  | cons b r ih =>
    have room : got.length + (r.length + 1) < len.toNat + 4 := more
    have step : receiveByte b s = setRx (startByte :: len :: (got ++ [b])) s := by
      rw [receiveByte_within b rx]
      have part : examineBytes (s.link.rx ++ [b]) = .partial_ := by
        rw [rx]
        exact if_neg (by change ¬(got ++ [b]).length = _; rw [List.length_append, List.length_singleton]; omega)
      rw [frameByte, part, rx]
      rfl
    rw [receiveBytes_cons, step, ih (got := got ++ [b]) rfl (by simp only [List.length_append, List.length_singleton]; omega)]
    simp [setRx_setRx]

/-- A frame is opened when its two last bytes are its CRC. -/
theorem openFrame_body {f : Frame} (fits : f.payload.length ≤ 240) (a b : Byte) :
    openFrame (frameBody f ++ [a, b]) = if word16Bytes (crc16 (frameBody f)) = [a, b] then some f else none := by
  have len : (BitVec.ofNat 8 f.payload.length).toNat = f.payload.length := by
    rw [BitVec.toNat_ofNat, Nat.mod_eq_of_lt (by omega)]
  simp [frameBody, openFrame, len]
  rfl

/-- The bytes of a frame, with any two bytes in the place of its CRC, received while hunting. -/
theorem receiveBytes_frameBody {f : Frame} (fits : f.payload.length ≤ 240) (a b : Byte) {s : State} (hunting : s.link.rx = []) :
    receiveBytes (startByte :: (frameBody f ++ [a, b])) s
      = if word16Bytes (crc16 (frameBody f)) = [a, b] then arrive f s else s := by
  obtain ⟨len, known⟩ : ∃ len, BitVec.ofNat 8 f.payload.length = len := ⟨_, rfl⟩
  have toNat : len.toNat = f.payload.length := by
    rw [← known, BitVec.toNat_ofNat, Nat.mod_eq_of_lt (by omega)]
  have body : frameBody f = len :: f.kind :: f.tag :: f.payload := by rw [frameBody, known]
  have hunted : receiveByte startByte s = setRx [startByte] s := by
    rw [receiveByte_hunting _ hunting]
    rfl
  have measured : receiveByte len (setRx [startByte] s) = setRx [startByte, len] s := by
    rw [receiveByte_length (x := startByte) len rfl]
    exact if_neg (by rw [toNat, payloadMax]; omega)
  have filled : receiveBytes (f.kind :: f.tag :: (f.payload ++ [a])) (setRx [startByte, len] s)
      = setRx (startByte :: len :: f.kind :: f.tag :: (f.payload ++ [a])) s := by
    rw [receiveBytes_within (got := []) (len := len) _ rfl (by simp [toNat])]
    rfl
  have split : startByte :: (frameBody f ++ [a, b]) = [startByte, len] ++ (f.kind :: f.tag :: (f.payload ++ [a])) ++ [b] := by
    simp [body]
  have complete : examineBytes (startByte :: len :: f.kind :: f.tag :: (f.payload ++ [a]) ++ [b])
      = .complete (openFrame (frameBody f ++ [a, b])) := by
    rw [body]
    simp [examineBytes, toNat]
  have begun : receiveBytes [startByte, len] s = setRx [startByte, len] s := by
    rw [receiveBytes_cons, hunted, receiveBytes_cons, measured]
    rfl
  rw [split, receiveBytes_append, receiveBytes_append, begun, filled]
  rw [receiveBytes_cons,  receiveByte_within (x := startByte) (len := len) b rfl, frameByte]
  change receiveBytes [] (match examineBytes (startByte :: len :: f.kind :: f.tag :: (f.payload ++ [a]) ++ [b]) with
    | .partial_ => _ | .complete (some f) => _ | .complete none => _) = _
  rw [complete, openFrame_body fits]
  by_cases right : word16Bytes (crc16 (frameBody f)) = [a, b]
  · simp only [right, if_true]
    rw [setRx_setRx, setRx_same hunting]
    rfl
  · simp only [right, if_false]
    rw [setRx_setRx, setRx_same hunting]
    rfl

/-- The bytes of a frame received while hunting are the arrival of the frame. -/
theorem exec_frameBytes {f : Frame} (fits : f.payload.length ≤ 240) {s : State} (hunting : s.link.rx = []) :
    exec (.lineFrameReceived (frameBytes f)) s = .next (arrive f s) := by
  obtain ⟨a, b, crc⟩ : ∃ a b, word16Bytes (crc16 (frameBody f)) = [a, b] := ⟨_, _, rfl⟩
  have received : receiveBytes (frameBytes f) s = arrive f s := by
    rw [frameBytes, crc, receiveBytes_frameBody fits a b hunting, if_pos crc]
  change Host.Outcome.next (startTx (receiveBytes (frameBytes f) s)) = _
  rw [received, startTx_lawful _ (arrive_law f s)]

theorem requestPayload_length {r : Request} (sized : r.sized) : (requestPayload r).length ≤ 240 := by
  cases r with
  | setup pairs =>
    have most : pairs.length ≤ 48 := sized.2
    rw [requestPayload, Sys2Proof.Laws.RequestFits.pairs_length]
    omega
  | pageLoad page first records =>
    have most : records.length ≤ 14 := sized.2
    rw [requestPayload, List.length_cons, List.length_cons, Sys2Proof.Laws.RequestFits.records_length]
    omega
  | stationRelay tt t d w i data =>
    have most : data.length ≤ 64 := by
      rcases sized with one | ⟨-, -, most⟩
      · omega
      · exact most
    simp only [requestPayload, word16Bytes, List.length_cons, List.length_append, List.length_nil]
    omega
  | _ => simp [requestPayload, word32Bytes, word16Bytes]

/-- Settles O43: the payload is parsed back field by field, and the bytes of the frame are its arrival. -/
theorem requestsAreTheirBytes : Obligations.RequestsAreTheirBytes := by
  intro c tag r spells wf
  have sized := sized_of_wf spells wf
  refine ⟨examine_request sized, fun s hunting => ?_⟩
  rw [exec_request spells]
  exact exec_frameBytes (requestPayload_length sized) hunting

/-! ## A request that has to wait, and frames no table names (R180 to R182) -/

/-- A frame that arrives on a lawful link while a reply waits or a relay is in progress joins the queue at most. -/
theorem arrive_waiting (f : Frame) {s : State} (law : LinkLaw s) (busy : s.link.reply ≠ none ∨ s.station.relay ≠ none) :
    arrive f s = { s with link := { s.link with
      requests := if s.link.requests.length < 4 then s.link.requests ++ [f] else s.link.requests } } := by
  have joined : enqueue f s = { s with link := { s.link with
      requests := if s.link.requests.length < 4 then s.link.requests ++ [f] else s.link.requests } } := by
    by_cases room : s.link.requests.length < 4 <;> simp [enqueue, State.onLink, requestMax, room]
  have blocked : (startTx (enqueue f s)).mayTake = false := by
    have same : startTx (enqueue f s) = enqueue f s := by
      by_cases sending : s.link.tx = none
      · exact startTx_idle _ (by simpa using (law.1 sending).1) fun _ => by
          rw [joined]
          exact (law.1 sending).2
      · exact startTx_sending (by simpa using sending)
    rw [same, mayTake_eq_false]
    intro silent
    rcases busy with waits | relays
    · exact absurd (by simpa using silent) waits
    · simpa using relays
  unfold arrive runLink
  rw [takeWaitingFrames_blocked _ blocked, ← joined]
  by_cases sending : s.link.tx = none
  · exact startTx_idle _ (by simpa using (law.1 sending).1) fun _ => by
      rw [joined]
      exact (law.1 sending).2
  · exact startTx_sending (by simpa using sending)

theorem examine_unknown {kind : Byte} (unknown : knownKinds.contains kind = false) (p : List Byte) :
    examine kind p = .badKind := by
  simp only [knownKinds, List.contains_eq_mem, List.mem_cons, List.not_mem_nil, or_false, decide_eq_false_iff_not, not_or] at unknown
  simp only [examine, unknown, if_false]

/-- Settles O44: a frame joins the queue behind a waiting reply or a relay; an unknown kind and a wrong length are answered. -/
theorem requestsWaitOrAreAnswered : Obligations.RequestsWaitOrAreAnswered := by
  refine ⟨fun i f s law spells busy => ?_, fun kind tag payload s ready unknown => ?_, fun f s ready hunting fits bad => ?_⟩
  · rw [exec_frameOf spells, arrive_waiting f law busy]
  · change Host.Outcome.next (arrive ⟨kind, tag, payload⟩ s) = _
    have taken : takeFrame ⟨kind, tag, payload⟩ s = reply kind tag .badKind [] s := by
      simp [takeFrame, examine_unknown unknown]
    rw [arrive_ready _ _ ready, taken, startTx_reply _ _ _ _ _ ready.1]
    rfl
  · have taken : takeFrame f s = reply f.kind f.tag .badLength [] s := by simp [takeFrame, bad]
    rw [exec_frameBytes fits hunting, arrive_ready _ _ ready, taken, startTx_reply _ _ _ _ _ ready.1]
    rfl

/-! ## The turns of transmitter and queue (R183) -/

theorem startTx_reply_waiting {s : State} {f : Frame} (free : s.link.tx = none) (waits : s.link.reply = some f) :
    startTx s = { s with link := { s.link with tx := some f, reply := none } } := by
  simp [startTx, State.onLink, sendNext, free, waits]

theorem startTx_event_waiting {s : State} {e : Event} {es : List Event} (free : s.link.tx = none) (silent : s.link.reply = none)
    (events : s.link.events = e :: es) :
    startTx s = { s with link := { s.link with tx := some (eventFrame s.link.eventsLost e), events := es } } := by
  simp [startTx, State.onLink, sendNext, free, silent, events]

/-- One frame more or less in the number looked for, past those that can be taken, makes no difference. -/
theorem takeWaitingFrames_enough (k : Nat) {s : State} (sending : s.link.tx ≠ none) :
    takeWaitingFrames (k + 1) s = takeWaitingFrames 1 s := by
  by_cases may : (startTx s).mayTake = true
  · cases requests : s.link.requests with
    | nil => rw [takeWaitingFrames_empty _ _ requests, takeWaitingFrames_empty _ _ requests]
    | cons f r =>
      have taken (j : Nat) : takeWaitingFrames (j + 1) s
          = takeWaitingFrames j (takeFrame f ((startTx s).onLink fun l => { l with requests := r })) := by
        simp [takeWaitingFrames, may, requests]
      obtain ⟨u, after⟩ : ∃ u, takeFrame f ((startTx s).onLink fun l => { l with requests := r }) = u := ⟨_, rfl⟩
      have same : startTx u = u := startTx_sending (by rw [← after, startTx_sending sending]; simpa using sending)
      have blocked : (startTx u).mayTake = false := by rw [same, ← after]; exact takeFrame_mayTake _ _
      rw [taken k, taken 0, after, takeWaitingFrames_blocked k blocked, takeWaitingFrames_blocked 0 blocked]
  · have blocked := Bool.eq_false_iff.mpr may
    rw [takeWaitingFrames_blocked _ blocked, takeWaitingFrames_blocked _ blocked]

/-- After a frame has been taken, three or four more looked for are the same. -/
theorem takeWaitingFrames_taken {s : State} (busy : s.mayTake = false) : takeWaitingFrames 3 s = runLink s := by
  by_cases sending : (startTx s).link.tx = none
  · have silent : startTx s = s := by
      have free := sendNext_free (l := s.link) sending
      have tx : s.link.tx = none := by
        by_contra other
        exact other (by rwa [startTx_sending other] at sending)
      have reply : s.link.reply = none := by
        by_contra other
        obtain ⟨f, waits⟩ := Option.ne_none_iff_exists'.mp other
        rw [startTx_reply_waiting tx waits] at sending
        cases sending
      have events : s.link.events = [] := by
        cases list : s.link.events with
        | nil => rfl
        | cons e es =>
          rw [startTx_event_waiting tx reply list] at sending
          cases sending
      exact startTx_idle s reply fun _ => events
    have blocked : (startTx s).mayTake = false := by rw [silent]; exact busy
    unfold runLink
    rw [takeWaitingFrames_blocked _ blocked, takeWaitingFrames_blocked _ blocked]
  · unfold runLink
    rw [← takeWaitingFrames_startTx 3 s, ← takeWaitingFrames_startTx requestMax s]
    exact (takeWaitingFrames_enough 2 sending).trans (takeWaitingFrames_enough 3 sending).symm

/-- A frame is taken from the head of the queue, and the link goes on (R181). -/
theorem runLink_takes {s : State} {f : Frame} {fs : List Frame} (requests : s.link.requests = f :: fs)
    (relay : s.station.relay = none) (room : s.link.tx = none ∨ s.link.reply = none) :
    runLink s = runLink (takeFrame f { s with link := { (startTx s).link with requests := fs } }) := by
  have silent : (startTx s).link.reply = none := by
    by_cases free : (startTx s).link.tx = none
    · exact (sendNext_free (l := s.link) free).1
    · rcases room with tx | reply
      · cases waits : s.link.reply with
        | some g => rw [startTx_reply_waiting tx waits]
        | none => simp [startTx, sendNext, tx, waits]; split <;> simp [waits]
      · unfold startTx sendNext
        simp only [State.onLink_link, reply]
        split
        · exact reply
        · split <;> simp [reply]
  have may : (startTx s).mayTake = true := by simp [State.mayTake, silent, relay]
  have moved : (startTx s).onLink (fun l => { l with requests := fs })
      = { s with link := { (startTx s).link with requests := fs } } := by
    simp [startTx, State.onLink]
  calc runLink s = takeWaitingFrames 3 (takeFrame f ((startTx s).onLink fun l => { l with requests := fs })) := by
        simp [runLink, requestMax, takeWaitingFrames, may, requests]
    _ = runLink (takeFrame f { s with link := { (startTx s).link with requests := fs } }) := by
        rw [moved]
        exact takeWaitingFrames_taken (takeFrame_mayTake _ _)

/-- With nothing to take, or no leave to take it, the link only goes on sending (R181). -/
theorem runLink_waits {s : State}
    (waits : s.link.requests = [] ∨ s.station.relay ≠ none ∨ (s.link.tx ≠ none ∧ s.link.reply ≠ none)) :
    runLink s = startTx s := by
  rcases waits with none | relay | ⟨sending, reply⟩
  · exact runLink_empty s none
  · exact takeWaitingFrames_blocked _ (mayTake_eq_false.mpr fun _ => by simpa using relay)
  · refine takeWaitingFrames_blocked _ (mayTake_eq_false.mpr fun silent => absurd ?_ reply)
    rwa [startTx_sending sending] at silent

theorem setRx_lawful (bs : List Byte) {s : State} (law : LinkLaw s) : startTx (setRx bs s) = setRx bs s :=
  startTx_lawful _ (setRx_law bs law)

/-- Settles O42: the receiver byte by byte, the turns of reply and events at the end of a transmission, and the frames taken
while no reply has to wait. -/
theorem framesArriveAndTakeTurns : Obligations.FramesArriveAndTakeTurns := by
  have hunted (b : Byte) (s : State) (law : LinkLaw s) :
      startTx (huntByte b s) = { s with link := { s.link with rx := if b = 0xC3 then [0xC3] else [] } } := by
    rw [startTx_lawful _ (huntByte_law b law)]
    unfold huntByte startByte
    split
    · next start => rw [start]; rfl
    · rfl
  refine ⟨⟨fun f s hunting fits => exec_frameBytes fits hunting, fun f a b s law hunting fits wrong => ?_⟩,
    fun s law => ⟨fun b hunting => ?_, fun x b begun => ?_, fun b => congrArg _ (hunted b s law), fun empty => ?_⟩,
    fun s => ⟨rfl, fun idle => ?_, fun f => startTx_reply_waiting, fun e es => startTx_event_waiting,
      fun f fs requests _ relay room => runLink_takes requests relay room, runLink_waits, fun f => arrive_ready f s,
      fun f => ?_⟩⟩
  · change Host.Outcome.next (startTx (receiveBytes (startByte :: (frameBody f ++ [a, b])) s)) = _
    rw [receiveBytes_frameBody fits a b hunting, if_neg (Ne.symm wrong), startTx_lawful s law]
  · change Host.Outcome.next (startTx (receiveByte b s)) = _
    rw [receiveByte_hunting b hunting, hunted b s law]
  · change Host.Outcome.next (startTx (receiveByte b s)) = _
    rw [receiveByte_length b begun, lengthByte]
    split
    · next long => rw [setRx_lawful _ law, if_pos (show 240 < b.toNat from long)]; rfl
    · next fits => rw [setRx_lawful _ law, if_neg (show ¬240 < b.toNat from fits)]; rfl
  · have sent : exec .frameSent s = .next (startTx { s with link := { s.link with tx := none } }) :=
      congrArg Host.Outcome.next (runLink_empty { s with link := { s.link with tx := none } } empty)
    refine ⟨fun f waits => ?_, fun e es silent events => ?_, fun silent events => ?_⟩
    · exact sent.trans (congrArg _ (startTx_reply_waiting (s := { s with link := { s.link with tx := none } }) rfl waits))
    · exact sent.trans (congrArg _ (startTx_event_waiting (s := { s with link := { s.link with tx := none } }) rfl silent events))
    · exact sent.trans (congrArg _ (startTx_idle { s with link := { s.link with tx := none } } silent fun _ => events))
  · rcases idle with sending | ⟨silent, events⟩
    · exact startTx_sending sending
    · exact startTx_idle s silent fun _ => events
  · by_cases room : s.link.requests.length < 4 <;> simp [arrive, enqueue, State.onLink, requestMax, room]

end Sys2Proof.Machine
end

section
/-! PROOFS. The command queue, power-on, the record of ten cells, and the bytes of events and levels. -/
namespace Sys2Proof.Machine

/-! ## The queue and power-on -/

/-- Settles O1: the two cases of a step. -/
theorem stepExecutesFrontCommand : Obligations.StepExecutesFrontCommand := by
  refine ⟨fun c r s waits => ?_, fun s none => ?_⟩
  · simp only [step, waits]
  · simp only [step, none]

/-- Settles O2: the values of `State.poweredOn`, block by block. -/
theorem powerOnGivesPowerOnValues : Obligations.PowerOnGivesPowerOnValues := by
  refine ⟨⟨fun e => by cases e <;> rfl, poweredOn_par _ _, fun p => ?_, rfl, rfl, fun n => by cases n <;> exact ⟨rfl, rfl, rfl, rfl, rfl, rfl⟩,
    ?_⟩, fun b s => rfl⟩
  · have page : State.reset.store.pages[p] = Page.empty := cleared_page p
    rw [page]
    exact ⟨rfl, fun i => by simp [Page.empty], rfl, rfl⟩
  · have unknown (r : Role) : State.reset.station.records.get r = ⟨.unknown, 0⟩ := by cases r <;> rfl
    exact ⟨rfl, rfl, rfl, rfl, rfl, rfl, rfl, rfl, rfl, rfl, rfl, rfl, rfl, rfl, rfl, rfl, rfl, rfl, unknown,
      rfl, rfl, rfl, rfl, rfl, rfl, rfl, rfl, rfl, rfl, rfl, rfl, rfl, rfl, rfl, rfl, rfl, rfl⟩

/-! ## Ten cells (R50 to R52) -/

theorem darkCount_cons (c : Bool) (cells : List Bool) : darkCount (c :: cells) = c.toNat + darkCount cells := by
  cases c <;> simp [darkCount, Nat.add_comm]

theorem darkCount_nil : darkCount [] = 0 := rfl

/-- Settles O10: the parity of the covered cells, the kind and the tag of a record of ten cells. -/
theorem tenCellsGiveMarkRecord : Obligations.TenCellsGiveMarkRecord := by
  intro mode m i c0 c1 c2 c3 c4 c5 c6 c7 c8 c9 cells count
  have covered : darkCount (if mode = 0 ∨ mode = 1 then cells.drop 1 else cells) = count := by
    by_cases tail : mode = 0 ∨ mode = 1
    · simp only [cells, count, tail, if_true, List.drop_succ_cons, List.drop_zero, darkCount_cons, darkCount_nil]
      omega
    · simp only [cells, count, tail, if_false, darkCount_cons, darkCount_nil]
      omega
  have parity : parityHolds mode cells = true ↔ if mode = 0 ∨ mode = 2 then count % 2 = 0 else count % 2 = 1 := by
    unfold parityHolds
    simp only [covered]
    split <;> simp
  have tag : cellTag cells = 128 * c1.toNat + 64 * c2.toNat + 32 * c3.toNat + 16 * c4.toNat + 8 * c5.toNat + 4 * c6.toNat
      + 2 * c7.toNat + c8.toNat := by
    simp only [cellTag, cells, List.drop_succ_cons, List.drop_zero, List.take_succ_cons, List.take_zero, List.foldl_cons,
      List.foldl_nil]
    omega
  have kind : cells.head? = some true ↔ c0 = true := by simp [cells]
  simp only [codedRecord, parity, tag, kind]

/-! ## Events and levels (R170, R177, R183, R184, R189) -/

theorem bitsWord_cons (b : Bool) (bs : List Bool) : bitsWord (b :: bs) = Nat.bit b (bitsWord bs) := by
  rw [Nat.bit_val]
  rfl

theorem bitsWord_lt (bs : List Bool) : bitsWord bs < 2 ^ bs.length := by
  induction bs with
  | nil => simp [bitsWord]
  | cons b r ih =>
    rw [bitsWord_cons, Nat.bit_val, List.length_cons]
    have := Bool.toNat_le b
    omega

theorem testBit_bitsWord (bs : List Bool) (k : Nat) : (bitsWord bs).testBit k = bs.getD k false := by
  induction bs generalizing k with
  | nil => simp [bitsWord]
  | cons b r ih =>
    rw [bitsWord_cons]
    cases k with
    | zero => simp
    | succ k => rw [Nat.testBit_bit_succ, ih]; rfl

theorem delivering_eq (c : Channel) : delivering c = decide (c.state = .pulsing ∨ c.state = .offered) := by
  unfold delivering
  cases c.state <;> rfl

theorem bitsByte_singleton (b : Bool) : bitsByte [b] = if b then 1 else 0 := by cases b <;> rfl


theorem bitsByte_pair (a b : Bool) : bitsByte [a, b] = BitVec.ofNat 8 (a.toNat + 2 * b.toNat) := by
  cases a <;> cases b <;> rfl

/-- The bytes of an event's frame (R184, R189). -/
theorem eventFrame_eq (lost : Bool) (e : Event) : eventFrame lost e = ⟨eventKind e, 0, (if lost then 1 else 0) :: eventFields e⟩ := by
  rw [eventFrame, bitsByte_singleton]

theorem getD_eq_match (o : Option Bool) (d : Bool) : o.getD d = match o with | some b => b | none => d := by cases o <;> rfl

theorem lineLevels_testBit (s : State) (n : Lane) :
    s.lineLevels.testBit (laneNum n)
        = outLevel (delivering (s.hand.channels.get n)) (s.inverted (laneNum n)) (s.pins.deliverForced.get n)
      ∧ s.lineLevels.testBit (4 + laneNum n)
        = outLevel (rejecting (s.hand.channels.get n)) (s.inverted (4 + laneNum n)) (s.pins.rejectForced.get n)
      ∧ s.lineLevels.testBit (8 + laneNum n) = s.pins.accept.get n
      ∧ s.lineLevels.testBit (12 + laneNum n) = s.pins.busy.get n := by
  unfold State.lineLevels
  simp only [testBit_bitsWord]
  cases n <;> exact ⟨rfl, rfl, rfl, rfl⟩

theorem lineLevels_lt (s : State) : s.lineLevels < 65536 := by
  unfold State.lineLevels
  refine lt_of_lt_of_eq (bitsWord_lt _) ?_
  simp [laneList, Lanes.toList]

/-- Settles O46: the frames of the six events, the sixteen line levels bit by bit, and the levels of LANE_SEL. -/
theorem eventsAndOutputsAsLaidOut : Obligations.EventsAndOutputsAsLaidOut := by
  refine ⟨fun lost e => ?_, fun n s => ?_, fun s => ⟨fun n q offered owner => ?_, fun silent => ?_, ?_⟩⟩
  · cases e with
    | panelDone r =>
      refine ⟨?_, by simp [eventFrame, eventFields, reportBytes, be16, be32]⟩
      rw [eventFrame_eq]
      rfl
    | lineState sort line holds trips first =>
      rw [eventFrame_eq]
      cases sort <;> cases line <;> cases first with
        | none => rfl
        | some c => cases c <;> rfl
    | markNotice sort lane x =>
      rw [eventFrame_eq]
      cases sort with
      | stray k => cases k <;> cases lane <;> rfl
      | _ => cases lane <;> rfl
    | pageNotice sort page =>
      rw [eventFrame_eq]
      cases sort <;> rfl
    | stationNotice sort role =>
      rw [eventFrame_eq]
      cases sort <;> cases role <;> rfl
    | zoneNotice sort cause lo hi =>
      rw [eventFrame_eq]
      cases sort <;> cases cause <;> rfl
  · obtain ⟨deliver, reject, accept, busy⟩ := lineLevels_testBit s n
    refine ⟨lineLevels_lt s, ?_, ?_, accept, busy⟩
    · rw [deliver, outLevel, getD_eq_match, delivering_eq]
      rfl
    · rw [reject, outLevel, getD_eq_match, rejecting, delivering_eq]
      rfl
  · have on : (decide (s.par .handoffGanged = 1) && delivering s.hand.channels.l0) = true := by
      rw [delivering_eq]
      simpa using offered
    unfold State.laneSel
    rw [if_pos on, owner]
  · have off : ¬(decide (s.par .handoffGanged = 1) && delivering s.hand.channels.l0) = true := by
      rw [delivering_eq]
      simpa using silent
    unfold State.laneSel
    rw [if_neg off]
  · rw [State.laneSelLevels, bitsByte_pair, getD_eq_match, getD_eq_match] <;> rfl

end Sys2Proof.Machine
end

section
/-! PROOFS. The requests that report and the requests of pages and panels (R21 to R24, R90, R91, R187). -/
namespace Sys2Proof.Machine

theorem queueEvent_eq (e : Event) (s : State) : queueEvent e s = { s with link := linkEvent s.link e } := rfl

theorem limitTo_eq_max_min {lo hi : Int} (range : lo ≤ hi) (v : Int) : limitTo lo hi v = max lo (min hi v) := by
  unfold limitTo
  split
  · omega
  · split <;> omega

theorem laneOf_eq_some {k : Nat} {n : Lane} (number : k = laneNum n) : laneOf k = some n := by
  subst number
  cases n <;> rfl

theorem laneOf_eq_none {k : Nat} (above : 3 < k) : laneOf k = none := by
  match k, above with
  | k + 4, _ => rfl

theorem pageOf_eq_some {b : Byte} {p : Fin 8} (number : b.toNat = p.val) : pageOf b = some p := by
  unfold pageOf
  rw [dif_pos (by omega)]
  exact congrArg some (Fin.ext number)

theorem pageOf_eq_none {b : Byte} (above : 7 < b.toNat) : pageOf b = none := dif_neg (by omega)

/-! ## STATUS and PANEL_QUERY (R91, R187) -/

theorem statusBytes_length (s : State) : s.statusBytes.length = 55 := by
  simp [State.statusBytes, State.laneStatus, be32, be16, laneList, roleList]

/-- A reply on a ready link with the events-lost indicator cleared after it (R183). -/
theorem startTx_reply_clears (kind tag : Byte) (st : Status) (rest : List Byte) {s : State} (silent : s.link.reply = none) :
    startTx ((reply kind tag st rest s).onLink fun l => { l with eventsLost := false })
      = { s with link := { linkReplied s.link (replyFrame kind tag st rest) with eventsLost := false } } := by
  unfold startTx reply State.onLink linkReplied
  cases tx : s.link.tx <;> simp [sendNext, tx, silent]

/-- Settles O45: the bytes of STATUS field by field, and the contexts of PANEL_QUERY. -/
theorem statusAndPanelQueryReport : Obligations.StatusAndPanelQueryReport := by
  intro tag lane s ready
  refine ⟨?_, statusBytes_length s, ?_, fun above => ?_, fun n number => ?_⟩
  · refine (exec_request_ready (c := .status tag) ready rfl trivial).trans ?_
    rw [handle, doStatus, startTx_reply_clears _ _ _ _ ready.1]
    rfl
  · have content : limitC s.content = max (-2147483648 : Int) (min 2147483647 (s.web.infeed.coord - s.web.outfeed.coord)) :=
      limitTo_eq_max_min (by decide) _
    have read : [(readPosition s.reader).1, (readPosition s.reader).2]
        = (match s.reader with
            | .reading p slot _ | .stalled p slot _ | .layoutStop p slot => [byteOf p.val, byteOf slot]
            | .inactive | .waiting | .finished => ([255, 0] : List Byte)) := by
      cases s.reader <;> rfl
    have pages : s.store.pages.toList.map (fun p => pageCode p.state)
        = s.store.pages.toList.map (fun p =>
            match p.state with | .empty => (0 : Byte) | .loading => 1 | .armed => 2 | .opened => 3 | .spent => 4) := by
      refine List.map_congr_left fun p _ => ?_
      cases p.state <;> rfl
    have fields : s.statusBytes = [lineCode s.motion.line, holdByte s.motion.holds, tripByte s.motion.trips,
          firstCauseCode s.motion.firstCause, bandCode s.motion.band, bitsByte [s.beamWait]]
        ++ be32 (limitC s.content) ++ be32 s.inPos ++ be32 s.outPos
        ++ [(readPosition s.reader).1, (readPosition s.reader).2] ++ [byteOf s.store.next.val]
        ++ s.store.pages.toList.map (fun p => pageCode p.state) ++ laneList.flatMap s.laneStatus
        ++ [byteOf s.cuts.entries.length, byteOf s.zones.length]
        ++ roleList.map (fun r => stationCode (s.station.records.get r).state)
        ++ be16 s.lineLevels ++ [s.laneSelLevels, bitsByte [s.link.eventsLost]] := by
      simp only [State.statusBytes, List.append_assoc, List.cons_append, List.nil_append]
    rw [fields, content, read, pages, bitsByte_singleton, bitsByte_singleton]
    rfl
  · have answered : handle tag (.panelQuery lane) s = reply 0x14 tag .badValue [0] s := by
      simp only [handle, doPanelQuery, laneOf_eq_none above]
    exact exec_request_answered (c := .panelQuery tag lane) ready rfl trivial answered
  · have answered : handle tag (.panelQuery lane) s
        = reply 0x14 tag .ok (lane :: byteOf (s.lists.get n).length :: (s.lists.get n).flatMap ctxBytes) s := by
      simp only [handle, doPanelQuery, laneOf_eq_some number]
    refine (exec_request_answered (c := .panelQuery tag lane) ready rfl trivial answered).trans ?_
    have bytes : ctxBytes = fun c => be16 c.panelId ++ [byteOf c.src.page.val, byteOf c.src.slot, byteOf c.src.copy,
          match c.state with | .expected => 0 | .active => 1 | .cut => 2 | .delivering => 3, reasonsByte c.reasons, notesByte c.notes]
        ++ be32 (match c.startTarget with | some x => x | none => 4294967295)
        ++ be32 (match c.endTarget with | some x => x | none => 4294967295) := by
      funext c
      unfold ctxBytes targetBytes ctxCode
      cases c.startTarget <;> cases c.endTarget <;> rfl
    rw [bytes]
    rfl

/-! ## PAGE_CLEAR and PAGE_QUERY (R23, R24) -/

theorem onPage_eq (s : State) (p : Fin 8) (f : Page → Page) :
    s.onPage p f = { s with store := { s.store with pages := s.store.pages.set p (f s.store.pages[p]) } } := rfl

/-- Settles O49: PAGE_CLEAR by the state of the page, PAGE_QUERY's three fields. -/
theorem pageClearAndPageQuery : Obligations.PageClearAndPageQuery := by
  refine ⟨fun tag page s ready => ⟨fun above => ?_, fun p number => ⟨fun written => ?_, fun empty => ?_, fun taken => ?_⟩⟩,
    fun tag page s ready => ⟨fun above => ?_, fun p number => ?_⟩⟩
  · refine exec_request_answered (st := .badValue) (rest := [page]) (kind := 0x12) ready rfl trivial ?_
    simp only [handle, doPageClear, pageOf_eq_none above]
  · refine exec_request_answered (st := .ok) (rest := []) (kind := 0x12) ready rfl trivial ?_
    rcases written with state | state <;> simp only [handle, doPageClear, pageOf_eq_some number, state] <;> rfl
  · refine exec_request_answered (st := .ok) (rest := []) (kind := 0x12) ready rfl trivial ?_
    simp only [handle, doPageClear, pageOf_eq_some number, empty]
  · refine exec_request_answered (st := .pageState) (rest := []) (kind := 0x12) ready rfl trivial ?_
    rcases taken with state | state <;> simp only [handle, doPageClear, pageOf_eq_some number, state]
  · refine exec_request_answered (st := .badValue) (rest := [page]) (kind := 0x13) ready rfl trivial ?_
    simp only [handle, doPageQuery, pageOf_eq_none above]
  · have answered : handle tag (.pageQuery page) s = reply 0x13 tag .ok
        [pageCode s.store.pages[p].state, byteOf s.store.pages[p].count, byteOf s.store.pages[p].openPanels] s := by
      simp only [handle, doPageQuery, pageOf_eq_some number]
    exact exec_request_answered (c := .pageQuery tag page) ready rfl trivial answered

/-! ## FLAG_PANEL (R90) -/

theorem find_panel {l : List Ctx} {id : Nat} {before : List Ctx} {c : Ctx} {after : List Ctx} (list : l = before ++ c :: after)
    (others : ∀ d ∈ before, d.panelId ≠ id) (own : c.panelId = id) : l.find? (fun c => c.panelId == id) = some c := by
  rw [list, List.find?_append, List.find?_eq_none.mpr (by simpa using others)]
  simp [own]

/-- Settles O51: the refusals of FLAG_PANEL, and HOST for the oldest context of the panel ID. -/
theorem flagPanelGivesHost : Obligations.FlagPanelGivesHost := by
  intro tag lane panelId s ready answered bad
  refine ⟨fun refused => ?_, fun n number (good : ¬(panelId.toNat < 1 ∨ 4095 < panelId.toNat)) => ⟨fun none => ?_, fun before c after list others own => ⟨fun late => ?_, fun early => ?_⟩⟩⟩
  · refine exec_request_answered (st := .badValue) (rest := [0]) (kind := 0x15) ready rfl trivial ?_
    simp only [handle, doFlagPanel]
    split
    · rfl
    · next n lane_n =>
      have inside : ¬3 < lane.toNat := fun above => by simp [laneOf_eq_none above] at lane_n
      exact if_pos (refused.resolve_left inside)
  · refine exec_request_answered (st := .noSuch) (rest := []) (kind := 0x15) ready rfl trivial ?_
    have absent : (s.lists.get n).find? (fun c => c.panelId == panelId.toNat) = Option.none :=
      List.find?_eq_none.mpr (by simpa using none)
    simp only [handle, doFlagPanel, laneOf_eq_some number, if_neg good, absent]
  · refine exec_request_answered (st := .late) (rest := []) (kind := 0x15) ready rfl trivial ?_
    simp only [handle, doFlagPanel, laneOf_eq_some number, if_neg good, find_panel list others own, if_pos late]
  · have flagged : handle tag (.flagPanel lane panelId) s = reply 0x15 tag .ok
        [byteOf c.src.page.val, byteOf c.src.slot, byteOf c.src.copy, ctxCode c.state]
        (s.onCtx n c.src fun c => { c with reasons := { c.reasons with host := true } }) := by
      simp only [handle, doFlagPanel, laneOf_eq_some number, if_neg good, find_panel list others own, if_neg early]
    refine (exec_request_answered (c := .flagPanel tag lane panelId) ready rfl trivial flagged).trans ?_
    simp only [State.onCtx, State.onList, beq_iff_eq]
    rfl

end Sys2Proof.Machine
end

section
/-! PROOFS. PAGE_LOAD and PAGE_ARM (R18 to R22), STATION_RELAY (R166). -/
namespace Sys2Proof.Machine

/-! ## Records in slots (R16, R21) -/

/-- Records written from a slot stand there one after another, and the other slots are unchanged. -/
theorem writeSlots_get (rs : List RawRecord) (v : Vector (Option RawRecord) 16) (f : Nat) (room : f + rs.length ≤ 16)
    (i : Fin 16) : (writeSlots v f rs)[i] = if f ≤ i.val ∧ i.val < f + rs.length then rs[i.val - f]? else v[i] := by
  induction rs generalizing v f with
  | nil =>
    rw [if_neg (by simp only [List.length_nil]; omega)]
    rfl
  | cons r rs ih =>
    have more : f + 1 + rs.length ≤ 16 := by rw [List.length_cons] at room; omega
    rw [writeSlots, ih _ _ more]
    simp only [List.length_cons]
    by_cases here : i.val = f
    · rw [if_neg (by omega), if_pos (by omega)]
      simp [here]
    · by_cases behind : f + 1 ≤ i.val ∧ i.val < f + 1 + rs.length
      · rw [if_pos behind, if_pos (by omega), show i.val - f = (i.val - (f + 1)) + 1 by omega]
        rfl
      · rw [if_neg behind, if_neg (by omega)]
        simp [Ne.symm here]

theorem exec_pageLoad {tag page first : Byte} {records : List RawRecord} {s u : State} {st : Status} {rest : List Byte}
    (ready : s.linkReady) (least : 1 ≤ records.length) (most : records.length ≤ 14)
    (answered : doPageLoad tag page first records s = reply 0x10 tag st rest u) (link : u.link = s.link := by rfl) :
    exec (.pageLoad tag page first records) s = .next { u with link := linkReplied s.link (replyFrame 0x10 tag st rest) } :=
  exec_request_answered (c := .pageLoad tag page first records) ready rfl ⟨least, most⟩ answered link

theorem writable_iff {st : PageState} : writable st = true ↔ st = .empty ∨ st = .loading := by cases st <;> simp [writable]

/-! ## The checks of PAGE_ARM (R22) -/

/-- A VOID slot below a written one. -/
def gapAt (v : Vector (Option RawRecord) 16) (i : Fin 16) : Prop := v[i] = none ∧ ∃ j : Fin 16, i < j ∧ v[j] ≠ none

/-- A slot whose record fails its check. -/
def badAt (v : Vector (Option RawRecord) 16) (i : Fin 16) : Prop := ∃ r, v[i] = some r ∧ recordOk r = false

theorem toList_getElem (v : Vector (Option RawRecord) 16) (i : Fin 16) : v.toList[i.val]?.join = v[i] := by
  simp

theorem any_drop_iff (v : Vector (Option RawRecord) 16) (i : Fin 16) :
    (v.toList.drop (i.val + 1)).any Option.isSome = true ↔ ∃ j : Fin 16, i < j ∧ v[j] ≠ none := by
  rw [List.any_eq_true]
  constructor
  · rintro ⟨r, mem, written⟩
    obtain ⟨k, below, rfl⟩ := List.mem_iff_getElem.mp mem
    have size : i.val + 1 + k < 16 := by simp at below; omega
    refine ⟨⟨i.val + 1 + k, size⟩, by simp [Fin.lt_def]; omega, ?_⟩
    simpa [Option.isSome_iff_ne_none] using written
  · rintro ⟨j, above, written⟩
    refine ⟨v[j], List.mem_iff_getElem.mpr ⟨j.val - (i.val + 1), by simp; omega, ?_⟩, by simpa [Option.isSome_iff_ne_none] using written⟩
    have place : i.val + 1 + (j.val - (i.val + 1)) = j.val := by omega
    simp [place]

theorem find_slot {P : Nat → Bool} {Q : Fin 16 → Prop} (same : ∀ i : Fin 16, P i.val = true ↔ Q i) :
    (∀ i : Fin 16, Q i → (∀ j, j < i → ¬Q j) → (List.range 16).find? P = some i.val)
      ∧ ((∀ i, ¬Q i) → (List.range 16).find? P = none) := by
  refine ⟨fun i holds first => ?_, fun none => ?_⟩
  · refine List.find?_range_eq_some.mpr ⟨(same i).mpr holds, by simp, fun j below => ?_⟩
    have := first ⟨j, by omega⟩ below
    rw [← same] at this
    simpa using this
  · refine List.find?_eq_none.mpr fun k mem holds => ?_
    exact none ⟨k, List.mem_range.mp mem⟩ ((same ⟨k, List.mem_range.mp mem⟩).mp holds)

theorem gapSlot_find (v : Vector (Option RawRecord) 16) :
    (∀ i : Fin 16, gapAt v i → (∀ j, j < i → ¬gapAt v j) → gapSlot v = some i.val)
      ∧ ((∀ i, ¬gapAt v i) → gapSlot v = none) := by
  refine find_slot fun i => ?_
  rw [Bool.and_eq_true, toList_getElem, any_drop_iff, gapAt, Option.isNone_iff_eq_none]

theorem badSlot_find (v : Vector (Option RawRecord) 16) :
    (∀ i : Fin 16, badAt v i → (∀ j, j < i → ¬badAt v j) → badSlot v = some i.val)
      ∧ ((∀ i, ¬badAt v i) → badSlot v = none) := by
  refine find_slot fun i => ?_
  rw [toList_getElem, badAt]
  cases v[i] <;> simp

theorem exec_pageArm_refused {tag page : Byte} {s : State} {st : Status} {rest : List Byte} (ready : s.linkReady)
    (answered : doPageArm tag page s = reply 0x11 tag st rest s) :
    exec (.pageArm tag page) s = .next { s with link := linkReplied s.link (replyFrame 0x11 tag st rest) } :=
  exec_request_answered (c := .pageArm tag page) ready rfl trivial answered

/-! ## The Plan Reader (R26 to R35) -/

theorem needPage_armed {s : State} {p : Fin 8} {a : Page} (next : s.store.next = p) (page : s.store.pages[p] = a)
    (armed : a.state = .armed) :
    needPage s = { s with store := ⟨s.store.pages.set p { a with state := .opened }, p + 1⟩, reader := .reading p 0 1 } := by
  subst next page
  exact if_pos armed

theorem needPage_other {s : State} (other : s.store.pages[s.store.next].state ≠ .armed) :
    needPage s = { s with reader := .waiting, link := linkEvent s.link (.pageNotice .planLow s.store.next) } := if_neg other

theorem releasePage_of_not_released {p : Fin 8} {s : State}
    (kept : ¬(s.store.pages[p].state = .spent ∧ s.store.pages[p].openPanels = 0)) : releasePage p s = s := if_neg kept

/-- A page with panels open stays SPENT (R35). -/
theorem spendPage_of_open {p : Fin 8} {s : State} (panels : 0 < s.store.pages[p].openPanels) :
    spendPage p s = s.onPage p fun a => { a with state := .spent } := by
  refine releasePage_of_not_released fun released => ?_
  rw [onPage_get, if_pos rfl] at released
  exact absurd released.2 (Nat.ne_of_gt panels)

/-- A page with no panel open is released as it becomes SPENT (R35). -/
theorem spendPage_of_closed {p : Fin 8} {s : State} (panels : s.store.pages[p].openPanels = 0) :
    spendPage p s = { s with
      store := { s.store with pages := s.store.pages.set p ⟨.empty, Vector.replicate 16 none, 0, 0⟩ }
      link := linkEvent s.link (.pageNotice .released p) } := by
  have released : (s.onPage p fun a => { a with state := .spent }).store.pages[p].state = .spent
      ∧ (s.onPage p fun a => { a with state := .spent }).store.pages[p].openPanels = 0 := by
    rw [onPage_get, if_pos rfl]
    exact ⟨rfl, panels⟩
  unfold spendPage releasePage
  rw [if_pos released]
  simp [State.onPage, State.onStore, queueEvent_eq, Page.empty]

theorem jobDone_iff (s : State) :
    s.jobDone = true ↔ s.reader = .finished ∧ (∀ n, s.lists.get n = []) ∧ s.cuts.entries = [] := by
  have lists : s.lists.toList.all List.isEmpty = true ↔ ∀ n, s.lists.get n = [] := by
    constructor
    · intro all n
      simp only [Lanes.toList, List.all_cons, List.all_nil, Bool.and_eq_true, List.isEmpty_iff] at all
      obtain ⟨l0, l1, l2, l3, -⟩ := all
      cases n
      · exact l0
      · exact l1
      · exact l2
      · exact l3
    · intro none
      simp [Lanes.toList, show s.lists.l0 = [] from none .lane0, show s.lists.l1 = [] from none .lane1,
        show s.lists.l2 = [] from none .lane2, show s.lists.l3 = [] from none .lane3]
  simp [State.jobDone, lists, and_assoc]

theorem readRecord_at {p : Fin 8} {slot : Fin 16} {copy : Nat} {r : RawRecord} {s : State}
    (record : s.store.pages[p].slots[slot] = some r) :
    readRecord p slot copy s = match parseRecord r with
      | .panel r => readPanel p slot copy r s
      | .layout l => readLayout p slot l s
      | .ending => readEnd p s
      | .unknown => recordRead p slot s := by
  have found : s.store.pages[p].slots[slot.val]?.join = some r := by simpa using record
  simp only [readRecord, found] <;> rfl

/-- Settles O50: the search for a page, a record that counts as read, the three kinds of record, job end, and the Reader's loop. -/
theorem planReaderReads : Obligations.PlanReaderReads := by
  refine ⟨fun s => ⟨needPage_armed rfl rfl, needPage_other⟩,
    fun p slot s => ⟨fun more => if_pos more, fun last => if_neg (by omega), spendPage_of_open, spendPage_of_closed⟩,
    fun p slot copy r s record => ⟨fun f n panel lane => ⟨fun first unused => ?_, fun used => ⟨fun full => ?_, fun room => ⟨fun more => ?_, fun last => ?_⟩⟩⟩,
      fun l layout => ?_, fun ending => ?_⟩,
    fun s => ⟨fun ended => ?_, fun other => ?_⟩, fun s => ⟨rfl, rfl⟩, fun k s => ⟨fun p slot copy reading => ?_, fun other => ?_⟩,
    fun s => ⟨fun p slot copy stalled => ?_, fun other => ?_, fun p slot stands => ?_⟩⟩
  · rw [readRecord_at record, panel]
    simp only [readPanel, laneOf_eq_some lane]
    exact if_pos ⟨first, by simpa [State.used] using unused⟩
  · rw [readRecord_at record, panel]
    simp only [readPanel, laneOf_eq_some lane]
    rw [if_neg (by simpa [State.used, or_iff_not_imp_left] using used), if_neg (by simpa [listMax] using full)]
    rfl
  · rw [readRecord_at record, panel]
    simp only [readPanel, laneOf_eq_some lane]
    rw [if_neg (by simpa [State.used, or_iff_not_imp_left] using used), if_pos (by simpa [listMax] using room)]
    exact if_pos more
  · rw [readRecord_at record, panel]
    simp only [readPanel, laneOf_eq_some lane]
    rw [if_neg (by simpa [State.used, or_iff_not_imp_left] using used), if_pos (by simpa [listMax] using room)]
    exact if_neg (by omega)
  · rw [readRecord_at record, layout]
    rfl
  · rw [readRecord_at record, ending]
    rfl
  · obtain ⟨finished, lists, cuts, unsignalled⟩ := ended
    exact if_pos ⟨(jobDone_iff s).mpr ⟨finished, lists, cuts⟩, unsignalled⟩
  · refine if_neg fun ended => other ?_
    obtain ⟨finished, lists, cuts⟩ := (jobDone_iff s).mp ended.1
    exact ⟨finished, lists, cuts, ended.2⟩
  · simp only [readLoop, reading]
  · cases k with
    | zero => rfl
    | succ k =>
      unfold readLoop
      split
      · next reading => exact absurd reading (other _ _ _)
      all_goals rfl
  · simp only [resumeStalled, stalled] <;> rfl
  · unfold resumeStalled
    split
    · next stalled => exact absurd stalled (other _ _ _)
    all_goals rfl
  · simp only [layoutRead, stands]

/-! ## PAGE_LOAD and PAGE_ARM (R21, R22, R27, R28) -/

theorem handle_pageArm_armed {tag page : Byte} {p : Fin 8} {s : State} (number : page.toNat = p.val)
    (loading : s.store.pages[p].state = .loading) (noGap : ∀ i, ¬gapAt s.store.pages[p].slots i)
    (noBad : ∀ i, ¬badAt s.store.pages[p].slots i) :
    handle tag (.pageArm page) s
      = settleAll s (readerAtArmed p ((reply 0x11 tag .ok [] s).onPage p fun a => { a with state := .armed })) := by
  simp only [handle, doPageArm, pageOf_eq_some number]
  rw [if_neg (not_not.mpr loading), (gapSlot_find _).2 noGap, (badSlot_find _).2 noBad]
  rfl

/-! ## The checks of a record (R18, R19, R20) -/

theorem recordNat_one (r : RawRecord) {i : Nat} (below : i < 16) : recordNat r i 1 = r[i].toNat := by
  have drop : (r.toList.drop i).take 1 = [r[i]] := by
    rw [List.drop_eq_getElem_cons (by simpa using below)]
    simp
  rw [recordNat, drop]
  simp [beNat]

theorem beNat_append (as bs : List Byte) : beNat (as ++ bs) = beNat as * 256 ^ bs.length + beNat bs := by
  unfold beNat
  induction bs using List.reverseRecOn with
  | nil => simp
  | append_singleton l b ih =>
    rw [← List.append_assoc, List.foldl_append, ih, List.foldl_append, List.length_append, List.length_singleton, Nat.pow_succ]
    simp only [List.foldl_cons, List.foldl_nil]
    ring

theorem recordNat_succ (r : RawRecord) {i k : Nat} (below : i + k < 16) :
    recordNat r i (k + 1) = recordNat r i k * 256 + r[i + k].toNat := by
  have take : (r.toList.drop i).take (k + 1) = (r.toList.drop i).take k ++ [r[i + k]] := by
    rw [List.take_succ_eq_append_getElem (by simp; omega)]
    simp
  rw [recordNat, take, beNat_append]
  simp [recordNat, beNat]

/-- A range and a congruence for the two low flags of a PANEL record (R18). -/
theorem flags_iff (x : Nat) :
    (!(x.testBit 0 && x.testBit 1) && !decide (8 ≤ x)) = true ↔ x < 8 ∧ x % 4 ≠ 3 := by
  have low : x % 4 = (x.testBit 0).toNat + 2 * (x.testBit 1).toNat := by
    rw [Nat.toNat_testBit, Nat.toNat_testBit]
    omega
  rw [low]
  cases x.testBit 0 <;> cases x.testBit 1 <;> simp

theorem panelRecord_ok_iff (p : PanelRecord) (x : Nat) (coded : p.coded = x.testBit 0) (synth : p.synth = x.testBit 1)
    (other : p.otherFlags = decide (8 ≤ x)) :
    p.ok = true ↔ p.lane ≤ 3 ∧ 1 ≤ p.panelId ∧ p.panelId ≤ 4095 ∧ 25000 ≤ p.nominal ∧ p.nominal ≤ 5000000
      ∧ (p.lead = 0 ∨ 5000 ≤ p.lead ∧ p.lead ≤ 500000)
      ∧ (p.pitch = 0 ∨ 10000 ≤ p.pitch ∧ p.pitch ≤ 200000 ∧ p.pitch < p.nominal) ∧ 1 ≤ p.copies ∧ p.copies ≤ 99 ∧ x < 8 ∧ x % 4 ≠ 3 := by
  rw [← flags_iff, PanelRecord.ok, coded, synth, other]
  simp only [Bool.and_eq_true, decide_eq_true_eq]
  tauto

theorem lanesWide_cons (a b : Nat) (r : List Nat) : lanesWide (a :: b :: r) = true ↔ a + 3000 ≤ b ∧ lanesWide (b :: r) = true := by
  simp [lanesWide]

theorem word_eq_zero (w : Word16) : (w == 0) = true ↔ w.toNat = 0 := by
  rw [beq_iff_eq]
  exact BitVec.toNat_inj.symm

theorem layout_ok_iff (l : Layout) :
    l.ok = true ↔ 20000 ≤ l.gap ∧ l.gap ≤ 1000000 ∧ l.rightTrim.toNat ≤ 32000
      ∧ (l.laneCount = 1 ∧ l.slit1.toNat = 0 ∧ l.slit2.toNat = 0 ∧ l.slit3.toNat = 0 ∧ l.leftTrim.toNat + 3000 ≤ l.rightTrim.toNat
        ∨ l.laneCount = 2 ∧ l.slit2.toNat = 0 ∧ l.slit3.toNat = 0 ∧ l.leftTrim.toNat + 3000 ≤ l.slit1.toNat
            ∧ l.slit1.toNat + 3000 ≤ l.rightTrim.toNat
        ∨ l.laneCount = 3 ∧ l.slit3.toNat = 0 ∧ l.leftTrim.toNat + 3000 ≤ l.slit1.toNat ∧ l.slit1.toNat + 3000 ≤ l.slit2.toNat
            ∧ l.slit2.toNat + 3000 ≤ l.rightTrim.toNat
        ∨ l.laneCount = 4 ∧ l.leftTrim.toNat + 3000 ≤ l.slit1.toNat ∧ l.slit1.toNat + 3000 ≤ l.slit2.toNat
            ∧ l.slit2.toNat + 3000 ≤ l.slit3.toNat ∧ l.slit3.toNat + 3000 ≤ l.rightTrim.toNat) := by
  have single (a : Nat) : lanesWide [a] = true ↔ True := by simp [lanesWide]
  by_cases lanes : 1 ≤ l.laneCount ∧ l.laneCount ≤ 4
  · have counts : l.laneCount = 1 ∨ l.laneCount = 2 ∨ l.laneCount = 3 ∨ l.laneCount = 4 := by omega
    rcases counts with n | n | n | n <;>
      simp only [Layout.ok, Layout.usedPositions, n, Bool.and_eq_true, decide_eq_true_eq, lanesWide_cons, single, word_eq_zero,
        List.take_succ_cons, List.take_zero, List.drop_succ_cons, List.drop_zero, List.cons_append, List.nil_append,
        List.all_cons, List.all_nil, Nat.add_one_sub_one, Nat.sub_self, and_true, true_and] <;> omega
  · have refused : l.ok = false := by simp [Layout.ok, lanes]
    rw [refused]
    constructor
    · intro h
      contradiction
    · intro h
      omega

theorem recordWord_toNat (r : RawRecord) {i : Nat} (below : i + 1 < 16) :
    (recordWord r i).toNat = 256 * r[i].toNat + r[i + 1].toNat := by
  have first := r[i].isLt
  have second := r[i + 1].isLt
  rw [recordWord, recordNat_succ r (k := 1) (by omega), recordNat_one r (by omega), BitVec.toNat_ofNat, Nat.mod_eq_of_lt (by omega)]
  omega

theorem recordNat_two (r : RawRecord) {i : Nat} (below : i + 1 < 16) : recordNat r i 2 = 256 * r[i].toNat + r[i + 1].toNat := by
  rw [recordNat_succ r (k := 1) (by omega), recordNat_one r (by omega)]
  omega

theorem recordNat_three (r : RawRecord) {i : Nat} (below : i + 2 < 16) :
    recordNat r i 3 = 65536 * r[i].toNat + 256 * r[i + 1].toNat + r[i + 2].toNat := by
  rw [recordNat_succ r (k := 2) (by omega), recordNat_two r (by omega)]
  omega

theorem recordNat_four (r : RawRecord) {i : Nat} (below : i + 3 < 16) :
    recordNat r i 4 = 16777216 * r[i].toNat + 65536 * r[i + 1].toNat + 256 * r[i + 2].toNat + r[i + 3].toNat := by
  rw [recordNat_succ r (k := 3) (by omega), recordNat_three r (by omega)]
  omega

/-- The third part of O48: the records that pass the check, by the bytes of their fields. -/
theorem recordOk_iff (r : RawRecord) :
    let b := fun (i : Fin 16) => r[i].toNat
    let nominal := 16777216 * b 4 + 65536 * b 5 + 256 * b 6 + b 7
    let lead := 65536 * b 8 + 256 * b 9 + b 10
    let pitch := 65536 * b 11 + 256 * b 12 + b 13
    let left := 256 * b 5 + b 6
    let s1 := 256 * b 7 + b 8
    let s2 := 256 * b 9 + b 10
    let s3 := 256 * b 11 + b 12
    let right := 256 * b 13 + b 14
    (recordOk r = true ↔
      b 0 = 1 ∧ b 1 ≤ 3 ∧ 1 ≤ 256 * b 2 + b 3 ∧ 256 * b 2 + b 3 ≤ 4095 ∧ 25000 ≤ nominal ∧ nominal ≤ 5000000
        ∧ (lead = 0 ∨ 5000 ≤ lead ∧ lead ≤ 500000) ∧ (pitch = 0 ∨ 10000 ≤ pitch ∧ pitch ≤ 200000 ∧ pitch < nominal)
        ∧ 1 ≤ b 14 ∧ b 14 ≤ 99 ∧ b 15 < 8 ∧ b 15 % 4 ≠ 3
      ∨ b 0 = 2 ∧ 20000 ≤ 65536 * b 2 + 256 * b 3 + b 4 ∧ 65536 * b 2 + 256 * b 3 + b 4 ≤ 1000000 ∧ right ≤ 32000
        ∧ (b 1 = 1 ∧ s1 = 0 ∧ s2 = 0 ∧ s3 = 0 ∧ left + 3000 ≤ right
          ∨ b 1 = 2 ∧ s2 = 0 ∧ s3 = 0 ∧ left + 3000 ≤ s1 ∧ s1 + 3000 ≤ right
          ∨ b 1 = 3 ∧ s3 = 0 ∧ left + 3000 ≤ s1 ∧ s1 + 3000 ≤ s2 ∧ s2 + 3000 ≤ right
          ∨ b 1 = 4 ∧ left + 3000 ≤ s1 ∧ s1 + 3000 ≤ s2 ∧ s2 + 3000 ≤ s3 ∧ s3 + 3000 ≤ right)
      ∨ b 0 = 3) := by
  intro b nominal lead pitch left s1 s2 s3 right
  have kind : recordNat r 0 1 = b 0 := recordNat_one r (by omega)
  match known : b 0 with
  | 1 =>
    rw [known] at kind
    simp only [recordOk, parseRecord, kind, true_and, false_and, or_false, OfNat.one_ne_ofNat]
    refine Iff.trans (panelRecord_ok_iff _ (recordNat r 15 1) ?_ ?_ ?_) ?_
    · rfl
    · rfl
    · rfl
    dsimp only
    rw [recordNat_one r (by omega : 1 < 16), recordNat_two r (by omega), recordNat_four r (by omega),
      recordNat_three r (by omega : 8 + 2 < 16), recordNat_three r (by omega : 11 + 2 < 16), recordNat_one r (by omega : 14 < 16),
      recordNat_one r (by omega : 15 < 16)]
    exact Iff.rfl
  | 2 =>
    rw [known] at kind
    simp only [recordOk, parseRecord, kind, layout_ok_iff]
    rw [recordNat_one r (by omega : 1 < 16), recordNat_three r (by omega : 2 + 2 < 16), recordWord_toNat r (by omega : 5 + 1 < 16),
      recordWord_toNat r (by omega : 7 + 1 < 16), recordWord_toNat r (by omega : 9 + 1 < 16),
      recordWord_toNat r (by omega : 11 + 1 < 16), recordWord_toNat r (by omega : 13 + 1 < 16)]
    simp only [true_and, Nat.reduceEqDiff, false_and, or_false, false_or, OfNat.ofNat_ne_one, Nat.ofNat_le_cast, Nat.cast_le_ofNat]
    exact Iff.rfl
  | 3 =>
    rw [known] at kind
    simp [recordOk, parseRecord, kind]
  | 0 =>
    rw [known] at kind
    simp [recordOk, parseRecord, kind]
  | k + 4 =>
    rw [known] at kind
    simp [recordOk, parseRecord, kind]

/-- Settles O48: the refusals of PAGE_LOAD and PAGE_ARM, the records written, the page ARMED or taken by the waiting Reader, and
the records that pass the check. -/
theorem pagesLoadAndArm : Obligations.PagesLoadAndArm := by
  refine ⟨fun tag page first records s ready least most => ⟨fun above => ?_, fun p number => ⟨fun written other => ?_,
      fun may => ⟨fun past => ?_, fun within beyond => ?_, fun room => ?_⟩⟩⟩,
    fun tag page s ready => ⟨fun above => ?_, fun p number => ⟨fun other => ?_, fun loading => ⟨fun i gap first => ?_,
      fun i noGap bad first => ?_, fun noGap noBad => ⟨?_, fun waiting pointed => ?_⟩⟩⟩⟩, recordOk_iff⟩
  · refine exec_pageLoad (st := .badValue) (rest := [page]) ready least most ?_
    simp only [doPageLoad, pageOf_eq_none above]
  · refine exec_pageLoad (st := .pageState) (rest := []) ready least most ?_
    simp only [doPageLoad, pageOf_eq_some number]
    exact if_pos (Bool.eq_false_iff.mpr fun may => (writable_iff.mp may).elim written other)
  · refine exec_pageLoad (st := .badValue) (rest := [first]) ready least most ?_
    simp only [doPageLoad, pageOf_eq_some number]
    rw [if_neg (by simpa using writable_iff.mpr may), if_pos past]
  · refine exec_pageLoad (st := .badValue) ready least most ?_
    simp only [doPageLoad, pageOf_eq_some number]
    rw [if_neg (by simpa using writable_iff.mpr may), if_neg (by omega), if_pos beyond]
  · refine ⟨loadPage first.toNat records s.store.pages[p], ?_, rfl, rfl, rfl, fun i => writeSlots_get _ _ _ room i⟩
    refine exec_pageLoad (st := .ok) (rest := []) (u := s.onPage p (loadPage first.toNat records)) ready least most ?_
    simp only [doPageLoad, pageOf_eq_some number]
    rw [if_neg (by simpa using writable_iff.mpr may), if_neg (by omega), if_neg (by omega)]
  · refine exec_pageArm_refused (st := .badValue) (rest := [page]) ready ?_
    simp only [doPageArm, pageOf_eq_none above]
  · refine exec_pageArm_refused (st := .pageState) (rest := []) ready ?_
    simp only [doPageArm, pageOf_eq_some number]
    exact if_pos other
  · refine exec_pageArm_refused (st := .badValue) (rest := [byteOf i.val]) ready ?_
    simp only [doPageArm, pageOf_eq_some number]
    rw [if_neg (not_not.mpr loading), (gapSlot_find _).1 i gap first]
    rfl
  · refine exec_pageArm_refused (st := .badValue) (rest := [byteOf i.val]) ready ?_
    simp only [doPageArm, pageOf_eq_some number]
    rw [if_neg (not_not.mpr loading), (gapSlot_find _).2 noGap, (badSlot_find _).1 i bad first]
    rfl
  · refine ⟨_, exec_request_ready (c := .pageArm tag page) ready rfl trivial, ?_, ?_, ?_, ?_, ?_, ?_, fun stands => ?_⟩
    · exact replied_of _ _ _ (by rw [handle_pageArm_armed number loading noGap noBad]; simp; rfl) (by simp)
    all_goals rw [handle_pageArm_armed number loading noGap noBad]
    · simp [State.onPage]
    · simp [State.onPage]
    · simp [State.onPage]
    · simp [State.onPage]
    · simp [State.onPage]
    · have armed : readerAtArmed p ((reply 0x11 tag .ok [] s).onPage p fun a => { a with state := .armed })
          = (reply 0x11 tag .ok [] s).onPage p fun a => { a with state := .armed } :=
        if_neg fun waits => stands.elim (fun h => h waits.1) fun h => h waits.2
      rw [armed]
      simp [State.onPage, State.onStore, reply, State.onLink]
  · refine (exec_request_ready (c := .pageArm tag page) ready rfl trivial).trans ?_
    rw [handle_pageArm_armed number loading noGap noBad]
    obtain ⟨u, after⟩ : ∃ u, (reply 0x11 tag .ok [] s).onPage p (fun a => { a with state := .armed }) = u := ⟨_, rfl⟩
    have store : u.store = { s.store with pages := s.store.pages.set p { s.store.pages[p] with state := .armed } } := by
      rw [← after]
      rfl
    have next : u.store.next = p := by rw [store]; exact pointed
    have page : u.store.pages[p] = { s.store.pages[p] with state := .armed } := by
      rw [store]
      simp
    have taken : readerAtArmed p u = readOn (needPage u) := if_pos ⟨by rw [← after]; exact waiting, next⟩
    rw [after, taken, needPage_armed next page rfl, store]
    subst after
    simp [State.onPage, State.onStore, reply, State.onLink, replyFrame, statusCode]

end Sys2Proof.Machine
end

section
/-! PROOFS. SETUP: its refusals, the candidate set, the noted clamps and the effects of an installation (R8, R75, R155, R168,
R185, R186). -/
namespace Sys2Proof.Machine

/-! ## Numbers and refusals -/

theorem paramOfNumber_isNone (n : Nat) : (paramOfNumber n).isNone = true ↔ n = 0 ∨ 55 < n := by
  unfold paramOfNumber
  split
  · next zero => simp [zero]
  · next pos =>
    rw [Option.isNone_iff_eq_none, List.getElem?_eq_none_iff, show Param.all.length = 55 from rfl]
    omega

/-- The first number that is 0 or above 55 stands behind allowed numbers alone (R185 step 1). -/
theorem badNumber_eq_some {pairs : List (Byte × Word32)} {b : Byte} (bad : badNumber pairs = some b) :
    ∃ before q after, pairs = before ++ q :: after ∧ q.1 = b ∧ (b.toNat = 0 ∨ 55 < b.toNat)
      ∧ ∀ x ∈ before, 1 ≤ x.1.toNat ∧ x.1.toNat ≤ 55 := by
  obtain ⟨q, found, rfl⟩ := Option.map_eq_some_iff.mp bad
  obtain ⟨isBad, before, after, list, others⟩ := List.find?_eq_some_iff_append.mp found
  refine ⟨before, q, after, list, rfl, (paramOfNumber_isNone _).mp isBad, fun x mem => ?_⟩
  have good := (paramOfNumber_isNone x.1.toNat).not.mp (by simpa [Option.isSome_iff_ne_none] using others x mem)
  omega

theorem exec_setup {tag : Byte} {pairs : List (Byte × Word32)} {s u : State} {st : Status} {rest : List Byte}
    (ready : s.linkReady) (least : 1 ≤ pairs.length) (most : pairs.length ≤ 48)
    (answered : doSetup tag pairs s = reply 0x02 tag st rest u) (link : u.link = s.link := by rfl) :
    exec (.setup tag pairs) s = .next { u with link := linkReplied s.link (replyFrame 0x02 tag st rest) } :=
  exec_request_answered (c := .setup tag pairs) ready rfl ⟨least, most⟩ answered link

/-! ## The candidate set (R185 steps 2 to 4) -/

theorem clamped_val (v : ParamSet) (pairs : List (Byte × Word32)) (p : Param) :
    (clampAll (applyPairs v pairs)).val p = clampParam p ((lastValue pairs p).getD (v.val p)) := by
  rw [clampAll_val, applyPairs_val]

theorem candidate_val_other (v : ParamSet) (pairs : List (Byte × Word32)) {p : Param} (other : isDelay p = false) :
    (candidate v pairs).val p = clampParam p ((lastValue pairs p).getD (v.val p)) := by
  rw [candidate, pulseClamp_val_other _ other, clamped_val]

theorem shortPulse_clamped (v : ParamSet) (pairs : List (Byte × Word32)) (n : Lane) :
    shortPulse (clampAll (applyPairs v pairs)) n = true
      ↔ clampParam (modeParam n) ((lastValue pairs (modeParam n)).getD (v.val (modeParam n))) = 1
        ∧ clampParam (delayParam n) ((lastValue pairs (delayParam n)).getD (v.val (delayParam n))) % 16 < 2 := by
  rw [shortPulse_iff, clamped_val, clamped_val]

theorem candidate_val_delay (v : ParamSet) (pairs : List (Byte × Word32)) (n : Lane) :
    (candidate v pairs).val (delayParam n)
      = if clampParam (modeParam n) ((lastValue pairs (modeParam n)).getD (v.val (modeParam n))) = 1
          ∧ clampParam (delayParam n) ((lastValue pairs (delayParam n)).getD (v.val (delayParam n))) % 16 < 2 then
          clampParam (delayParam n) ((lastValue pairs (delayParam n)).getD (v.val (delayParam n))) / 16 * 16 + 2
        else clampParam (delayParam n) ((lastValue pairs (delayParam n)).getD (v.val (delayParam n))) := by
  rw [candidate, pulseClamp_val_delay, clamped_val]
  simp only [shortPulse_clamped]

/-! ## The noted clamps (R185 step 6) -/

/-- A number that stands among the pairs has a last value. -/
theorem lastValue_isSome {pairs : List (Byte × Word32)} {q : Byte × Word32} {p : Param} (mem : q ∈ pairs)
    (number : q.1.toNat = paramNumber p) : ∃ v, lastValue pairs p = some v := by
  unfold lastValue
  obtain ⟨x, found⟩ : ∃ x, pairs.reverse.find? (fun q => q.1.toNat == paramNumber p) = some x :=
    Option.isSome_iff_exists.mp (List.find?_isSome.mpr ⟨q, List.mem_reverse.mpr mem, by simpa using number⟩)
  exact ⟨x.2.toInt, by rw [found]; rfl⟩

theorem rangeNoted_eq (v : ParamSet) (pairs : List (Byte × Word32)) :
    rangeNoted (applyPairs v pairs) pairs = pairs.filterMap fun q => (paramOfNumber q.1.toNat).bind fun p =>
      if (lastValue pairs p).any (fun v => v < paramLow p || paramHigh p < v) then some q.1.toNat else none := by
  refine List.filterMap_congr fun q mem => ?_
  cases known : paramOfNumber q.1.toNat with
  | none => rfl
  | some p =>
    have number := paramOfNumber_eq_some.mp known
    obtain ⟨x, last⟩ := lastValue_isSome mem number
    have outside : clampParam p x = x ↔ ¬(x < paramLow p ∨ paramHigh p < x) := by
      rw [clampParam_eq_iff]
      omega
    by_cases past : x < paramLow p ∨ paramHigh p < x <;>
      simp [applyPairs_val, last, outside, past, number]

theorem pulseNoted_eq (v : ParamSet) (pairs : List (Byte × Word32)) :
    pulseNoted (clampAll (applyPairs v pairs))
      = (laneList.filter fun n => decide
          (clampParam (modeParam n) ((lastValue pairs (modeParam n)).getD (v.val (modeParam n))) = 1
            ∧ clampParam (delayParam n) ((lastValue pairs (delayParam n)).getD (v.val (delayParam n))) % 16 < 2)).map
          fun n => 48 + laneNum n := by
  have number : (fun n => paramNumber (delayParam n)) = fun n => 48 + laneNum n := by
    funext n
    cases n <;> rfl
  have short : shortPulse (clampAll (applyPairs v pairs)) = fun n => decide
      (clampParam (modeParam n) ((lastValue pairs (modeParam n)).getD (v.val (modeParam n))) = 1
        ∧ clampParam (delayParam n) ((lastValue pairs (delayParam n)).getD (v.val (delayParam n))) % 16 < 2) := by
    funext n
    rw [Bool.eq_iff_iff, shortPulse_clamped, decide_eq_true_eq]
  rw [pulseNoted, number, short]

/-! ## The effects on the station link (R155, R168) -/

theorem Roles.get_set {α : Type} (t : Roles α) (r q : Role) (a : α) : (t.set r a).get q = if q = r then a else t.get q := by
  cases r <;> cases q <;> rfl

/-- The record of a role after the addresses have been taken: a new one when its address changed. -/
theorem changeAddr_records (old new : ParamSet) (r q : Role) (t : Station) :
    (changeAddr old new r t).records.get q
      = if q = r ∧ old.val (addrParam r) ≠ new.val (addrParam r) then
          ⟨if new.val (addrParam r) = 0 then .absent else .unknown, 0⟩
        else t.records.get q := by
  unfold changeAddr
  split
  · next same => simp [same]
  · next other =>
    have records (u : Station) : (forgetStatus r u).records = u.records := by cases r <;> rfl
    rw [records, Roles.get_set]
    simp [other]

theorem changeAddr_due (old new : ParamSet) (r : Role) (t : Station) :
    (changeAddr old new r t).due
      = t.due.filter fun a => decide (a = r → old.val (addrParam r) = new.val (addrParam r)) := by
  unfold changeAddr
  split
  · next same => simp [same]
  · next other =>
    have due (u : Station) : (forgetStatus r u).due = u.due := by cases r <;> rfl
    rw [due]
    refine List.filter_congr fun a _ => ?_
    by_cases own : a = r <;> simp [own, other]

/-- The four addresses taken. -/
def changeAddrs (old new : ParamSet) (t : Station) : Station :=
  changeAddr old new .trim (changeAddr old new .unwind (changeAddr old new .beam (changeAddr old new .laminator t)))

theorem changeAddrs_records (old new : ParamSet) (q : Role) (t : Station) :
    (changeAddrs old new t).records.get q
      = if old.val (addrParam q) ≠ new.val (addrParam q) then
          ⟨if new.val (addrParam q) = 0 then .absent else .unknown, 0⟩
        else t.records.get q := by
  unfold changeAddrs
  simp only [changeAddr_records]
  cases q <;> simp

theorem changeAddrs_due (old new : ParamSet) (t : Station) :
    (changeAddrs old new t).due = t.due.filter fun a => decide (old.val (addrParam a) = new.val (addrParam a)) := by
  unfold changeAddrs
  simp only [changeAddr_due, List.filter_filter]
  refine List.filter_congr fun a _ => ?_
  cases a <;> simp

/-- What the last statuses of the roles come to when their addresses are taken. -/
theorem changeAddrs_status (old new : ParamSet) (t : Station) :
    (changeAddrs old new t).laminator
        = (if old.val (addrParam .laminator) = new.val (addrParam .laminator) then t.laminator else none)
    ∧ (changeAddrs old new t).beam = (if old.val (addrParam .beam) = new.val (addrParam .beam) then t.beam else none)
    ∧ ((changeAddrs old new t).unwind = (if old.val (addrParam .unwind) = new.val (addrParam .unwind) then t.unwind else none)
      ∧ (changeAddrs old new t).spliceRecord
          = (if old.val (addrParam .unwind) = new.val (addrParam .unwind) then t.spliceRecord else none)
      ∧ (changeAddrs old new t).rollLow
          = (if old.val (addrParam .unwind) = new.val (addrParam .unwind) then t.rollLow else false))
    ∧ (changeAddrs old new t).trim = (if old.val (addrParam .trim) = new.val (addrParam .trim) then t.trim else none)
    ∧ (changeAddrs old new t).actions = t.actions ∧ (changeAddrs old new t).relay = t.relay
    ∧ (changeAddrs old new t).inFlight = t.inFlight := by
  unfold changeAddrs changeAddr
  by_cases lam : old.val (addrParam .laminator) = new.val (addrParam .laminator) <;>
    by_cases beam : old.val (addrParam .beam) = new.val (addrParam .beam) <;>
    by_cases unwind : old.val (addrParam .unwind) = new.val (addrParam .unwind) <;>
    by_cases trim : old.val (addrParam .trim) = new.val (addrParam .trim) <;>
    simp only [lam, beam, unwind, trim, if_true, if_false, forgetStatus, and_self]

/-- The schedule's effect on the waiting polls (R168). -/
def keptDue (old new : ParamSet) (t : Station) : Station :=
  if old.val .pollInterval = new.val .pollInterval ∧ old.val .pollStagger = new.val .pollStagger then t else { t with due := [] }

theorem keptDue_rest (old new : ParamSet) (t : Station) :
    (keptDue old new t).records = t.records ∧ (keptDue old new t).laminator = t.laminator ∧ (keptDue old new t).beam = t.beam
    ∧ (keptDue old new t).unwind = t.unwind ∧ (keptDue old new t).trim = t.trim
    ∧ (keptDue old new t).spliceRecord = t.spliceRecord ∧ (keptDue old new t).rollLow = t.rollLow
    ∧ (keptDue old new t).actions = t.actions ∧ (keptDue old new t).relay = t.relay
    ∧ (keptDue old new t).inFlight = t.inFlight := by
  unfold keptDue
  split <;> simp only [and_self]

theorem installStation_eq (old new : ParamSet) (t : Station) :
    installStation old new t = { keptDue old new (changeAddrs old new t) with
      records := ⟨limitFailures (new.val .stationWatchdog).toNat (changeAddrs old new t).records.laminator,
                  limitFailures (new.val .stationWatchdog).toNat (changeAddrs old new t).records.beam,
                  limitFailures (new.val .stationWatchdog).toNat (changeAddrs old new t).records.unwind,
                  limitFailures (new.val .stationWatchdog).toNat (changeAddrs old new t).records.trim⟩ } := by
  rw [← (keptDue_rest old new (changeAddrs old new t)).1]
  rfl

theorem installStation_records (old new : ParamSet) (t : Station) (r : Role) :
    (installStation old new t).records.get r
      = limitFailures (new.val .stationWatchdog).toNat ((changeAddrs old new t).records.get r) := by
  rw [installStation_eq]
  cases r <;> rfl

theorem installStation_due (old new : ParamSet) (t : Station) :
    (installStation old new t).due
      = if old.val .pollInterval = new.val .pollInterval ∧ old.val .pollStagger = new.val .pollStagger then
          t.due.filter fun a => decide (old.val (addrParam a) = new.val (addrParam a))
        else [] := by
  rw [installStation_eq, ← changeAddrs_due]
  unfold keptDue
  split <;> rfl

theorem roleAddr_eq (s : State) (r : Role) : s.roleAddr r = (s.par (addrParam r)).toNat := by cases r <;> rfl

/-! ## The obligation -/

/-- Addresses, denominators and numerators are not negative, so that their naturals differ when they do. -/
theorem toNat_eq_iff {a b : Int} (ha : 0 ≤ a) (hb : 0 ≤ b) : a.toNat = b.toNat ↔ a = b := by omega

theorem ratioOk_eq_false (n d : Int) : ratioOk n d = false ↔ ¬(d ≤ 16 * n ∧ n ≤ 16 * d) := by
  simp [ratioOk]

/-- The second part of O47: the cross-checks in the order of R186. -/
theorem crossCheck_eq (c : ParamSet) :
    let v := c.val
    let same := fun a b => v a ≠ 0 ∧ v a = v b
    crossCheck c =
      if ¬(v .inScaleD ≤ 16 * v .inScaleN ∧ v .inScaleN ≤ 16 * v .inScaleD) then some 2
      else if ¬(v .outScaleD ≤ 16 * v .outScaleN ∧ v .outScaleN ≤ 16 * v .outScaleD) then some 4
      else if ¬v .mergeWin ≤ v .cutTol then some 9
      else if ¬v .barShortMax < v .barLongMin then some 18
      else if ¬v .beamDist < v .cMin then some 23
      else if ¬v .cMin < v .cLow then some 24
      else if ¬v .cLow < v .cHigh then some 25
      else if ¬v .cHigh < v .cMax then some 26
      else if ¬v .slowSpeed < v .runSpeed then some 28
      else if same .roleAddrLaminator .roleAddrBeam then some 40
      else if same .roleAddrLaminator .roleAddrUnwind then some 41
      else if same .roleAddrLaminator .roleAddrTrim then some 42
      else if same .roleAddrBeam .roleAddrUnwind then some 41
      else if same .roleAddrBeam .roleAddrTrim then some 42
      else if same .roleAddrUnwind .roleAddrTrim then some 42
      else none := by
  simp only [crossCheck, ratioOk_eq_false, equalAddr, not_le, not_lt]

theorem limitFailures_eq (w : Nat) (x : StationRecord) : limitFailures w x = ⟨x.state, min x.failures w⟩ := by
  unfold limitFailures
  split
  · rw [Nat.min_eq_right (by omega)]
  · rw [Nat.min_eq_left (by omega)]

/-- What an installation leaves of the station link, role by role (R155, R168). -/
theorem install_roles {new : ParamSet} {s : State} (law : ParamsLaw s)
    (range : ∀ p, paramLow p ≤ new.val p ∧ new.val p ≤ paramHigh p) (r : Role) :
    let t := install new s
    let changed := t.roleAddr r ≠ s.roleAddr r
    let x : StationRecord := s.station.records.get r
    let y : StationRecord := t.station.records.get r
    let w := (t.par .stationWatchdog).toNat
    (changed → y = ⟨if t.roleAddr r = 0 then .absent else .unknown, 0⟩)
    ∧ (¬changed → y = ⟨x.state, min x.failures w⟩)
    ∧ (changed → match r with
        | .laminator => t.station.laminator = none
        | .beam => t.station.beam = none
        | .unwind => t.station.unwind = none ∧ t.station.spliceRecord = none ∧ t.station.rollLow = false
        | .trim => t.station.trim = none)
    ∧ (¬changed → match r with
        | .laminator => t.station.laminator = s.station.laminator
        | .beam => t.station.beam = s.station.beam
        | .unwind => t.station.unwind = s.station.unwind ∧ t.station.spliceRecord = s.station.spliceRecord
            ∧ t.station.rollLow = s.station.rollLow
        | .trim => t.station.trim = s.station.trim) := by
  intro t changed x y w
  have low : paramLow (addrParam r) = 0 := by cases r <;> rfl
  have positive : 0 ≤ s.par (addrParam r) ∧ 0 ≤ new.val (addrParam r) := low ▸ ⟨(law.1 _).1, (range _).1⟩
  have moved : changed ↔ ParamSet.val s.params (addrParam r) ≠ new.val (addrParam r) := by
    have : t.par (addrParam r) = new.val (addrParam r) := install_par _ _ _
    change (t.roleAddr r ≠ s.roleAddr r) ↔ (s.par (addrParam r) ≠ new.val (addrParam r))
    rw [roleAddr_eq, roleAddr_eq, this, Ne, toNat_eq_iff positive.2 positive.1, eq_comm]
  have absent : new.val (addrParam r) = 0 ↔ t.roleAddr r = 0 := by
    rw [roleAddr_eq, show t.par (addrParam r) = new.val (addrParam r) from install_par _ _ _]
    omega
  have record : y = limitFailures w ((changeAddrs s.params new s.station).records.get r) :=
    installStation_records s.params new s.station r
  rw [limitFailures_eq, changeAddrs_records] at record
  have status := changeAddrs_status s.params new s.station
  obtain ⟨-, lam, beam, unwind, trim, splice, roll, -⟩ := keptDue_rest s.params new (changeAddrs s.params new s.station)
  have station : t.station = installStation s.params new s.station := rfl
  rw [installStation_eq] at station
  refine ⟨fun h => ?_, fun h => ?_, fun h => ?_, fun h => ?_⟩
  · rw [record, if_pos (moved.mp h)]
    simp [absent]
  · rw [record, if_neg fun other => h (moved.mpr other)]
  · have other := moved.mp h
    obtain ⟨l, b, ⟨u, sp, ro⟩, tr, -⟩ := status
    cases r <;> simp only [station, lam, beam, unwind, trim, splice, roll, l, b, u, sp, ro, tr, if_neg other, and_self]
  · have same : ParamSet.val s.params (addrParam r) = new.val (addrParam r) := by
      by_contra other
      exact h (moved.mpr other)
    obtain ⟨l, b, ⟨u, sp, ro⟩, tr, -⟩ := status
    cases r <;> simp only [station, lam, beam, unwind, trim, splice, roll, l, b, u, sp, ro, tr, if_pos same, and_self]

/-- What an installation leaves of a channel of the Web Counter (R8). -/
theorem install_counter {new : ParamSet} {s : State} (law : ParamsLaw s)
    (range : ∀ p, paramLow p ≤ new.val p ∧ new.val p ≤ paramHigh p) (e : Encoder) :
    let t := install new s
    (t.web.get e).coord = (s.web.get e).coord ∧ (t.web.get e).hold = (s.web.get e).hold
      ∧ (t.web.get e).rem = if t.ratio e = s.ratio e then (s.web.get e).rem else 0 := by
  intro t
  have positive (p : Param) (low : 0 ≤ paramLow p) : 0 ≤ s.par p ∧ 0 ≤ new.val p :=
    ⟨low.trans (law.1 p).1, low.trans (range p).1⟩
  have same (n d : Param) (hn : 0 ≤ paramLow n) (hd : 0 ≤ paramLow d) :
      ((t.par n).toNat, (t.par d).toNat) = ((s.par n).toNat, (s.par d).toNat)
        ↔ ParamSet.val s.params n = new.val n ∧ ParamSet.val s.params d = new.val d := by
    change ((new.val n).toNat, (new.val d).toNat) = _ ↔ s.par n = new.val n ∧ s.par d = new.val d
    rw [Prod.mk.injEq, toNat_eq_iff (positive n hn).2 (positive n hn).1, toNat_eq_iff (positive d hd).2 (positive d hd).1, eq_comm,
      @eq_comm _ (new.val d)]
  cases e with
  | infeed =>
    have ratio := same .inScaleN .inScaleD (by decide) (by decide)
    change (resetRemainders s.params new s.web).infeed.coord = _ ∧ (resetRemainders s.params new s.web).infeed.hold = _
      ∧ (resetRemainders s.params new s.web).infeed.rem = if ((t.par .inScaleN).toNat, (t.par .inScaleD).toNat)
        = ((s.par .inScaleN).toNat, (s.par .inScaleD).toNat) then _ else 0
    simp only [ratio, resetRemainders]
    split <;> exact ⟨rfl, rfl, rfl⟩
  | outfeed =>
    have ratio := same .outScaleN .outScaleD (by decide) (by decide)
    change (resetRemainders s.params new s.web).outfeed.coord = _ ∧ (resetRemainders s.params new s.web).outfeed.hold = _
      ∧ (resetRemainders s.params new s.web).outfeed.rem = if ((t.par .outScaleN).toNat, (t.par .outScaleD).toNat)
        = ((s.par .outScaleN).toNat, (s.par .outScaleD).toNat) then _ else 0
    simp only [ratio, resetRemainders]
    split <;> exact ⟨rfl, rfl, rfl⟩

/-- The state after an installation, but for the parameters, the remainders, the registers, the station link and the link. -/
theorem install_rest (new : ParamSet) (s : State) (l : LineLink) :
    { install new s with link := l }
      = { s with params := (install new s).params, web := (install new s).web, reg := (install new s).reg,
                 station := (install new s).station, link := l } := rfl

theorem install_due {new : ParamSet} {s : State} (law : ParamsLaw s)
    (range : ∀ p, paramLow p ≤ new.val p ∧ new.val p ≤ paramHigh p) :
    let t := install new s
    t.station.due = if t.par .pollInterval = s.par .pollInterval ∧ t.par .pollStagger = s.par .pollStagger
      then s.station.due.filter (fun r => t.roleAddr r = s.roleAddr r) else [] := by
  intro t
  have due : t.station.due = _ := installStation_due s.params new s.station
  have filter : (fun r => decide (ParamSet.val s.params (addrParam r) = new.val (addrParam r)))
      = fun r => decide (t.roleAddr r = s.roleAddr r) := by
    funext r
    have low : paramLow (addrParam r) = 0 := by cases r <;> rfl
    have positive : 0 ≤ s.par (addrParam r) ∧ 0 ≤ new.val (addrParam r) := low ▸ ⟨(law.1 _).1, (range _).1⟩
    rw [roleAddr_eq, roleAddr_eq, show t.par (addrParam r) = new.val (addrParam r) from install_par _ _ _,
      decide_eq_decide, toNat_eq_iff positive.2 positive.1, eq_comm]
    rfl
  rw [due, filter]
  change (if s.par .pollInterval = t.par .pollInterval ∧ s.par .pollStagger = t.par .pollStagger then _ else _) = _
  simp only [eq_comm]

/-- A SETUP taken installs the candidate set and is answered OK or CLAMPED (R185 step 6). -/
theorem doSetup_installs {tag : Byte} {pairs : List (Byte × Word32)} {s : State} (idle : s.motion.line = .idle)
    (numbers : badNumber pairs = none) (checks : crossCheck (candidate s.params pairs) = none) :
    doSetup tag pairs s = reply 0x02 tag (if notedClamps s.params pairs = [] then .ok else .clamped)
      (((notedClamps s.params pairs).head?.map fun (k : Nat) => byteOf k).toList) (install (candidate s.params pairs) s) := by
  simp only [doSetup, if_neg (not_not.mpr idle), numbers, checks]
  cases notedClamps s.params pairs <;> rfl

/-- The lane registers and the rest of the station link after an installation (R75, R168). -/
theorem install_kept {new : ParamSet} {s : State} (range : ∀ p, paramLow p ≤ new.val p ∧ new.val p ≤ paramHigh p) :
    let t := install new s
    (∀ n, t.reg.get n = { s.reg.get n with f := max (-t.par .stretchLimit) (min (t.par .stretchLimit) (s.reg.get n).f) })
    ∧ t.station.actions = s.station.actions ∧ t.station.relay = s.station.relay ∧ t.station.inFlight = s.station.inFlight := by
  obtain ⟨-, -, -, -, actions, relay, inFlight⟩ := changeAddrs_status s.params new s.station
  obtain ⟨-, -, -, -, -, -, -, keptActions, keptRelay, keptFlight⟩ := keptDue_rest s.params new (changeAddrs s.params new s.station)
  have station : (install new s).station = installStation s.params new s.station := rfl
  rw [installStation_eq] at station
  refine ⟨fun n => ?_, ?_, ?_, ?_⟩
  · have limit : (1000 : Int) ≤ new.val .stretchLimit := (range .stretchLimit).1
    rw [install_reg, limitStretch, clampSample, limitTo_eq_max_min (by omega)]
    rfl
  · rw [station]
    exact keptActions.trans actions
  · rw [station]
    exact keptRelay.trans relay
  · rw [station]
    exact keptFlight.trans inFlight

/-- Settles O47: the refusals of SETUP, the candidate set, what its installation changes, and the cross-checks. -/
theorem setupClampsChecksInstalls : Obligations.SetupClampsChecksInstalls := by
  refine ⟨fun tag pairs s ready least most => ?_, crossCheck_eq⟩
  intro cand given short noted
  have range : ∀ p, paramLow p ≤ cand.val p ∧ cand.val p ≤ paramHigh p := candidate_range s.params pairs
  refine ⟨fun other => ?_, fun b idle bad => ⟨badNumber_eq_some bad, ?_⟩,
    fun _ => ⟨fun p => candidate_val_other _ _, candidate_val_delay _ _⟩, fun k idle numbers fails => ?_,
    fun idle numbers checks law => ?_⟩
  · exact exec_setup (st := .wrongState) (rest := []) ready least most (if_pos other)
  · refine exec_setup (st := .badValue) (rest := [b]) ready least most ?_
    simp only [doSetup, if_neg (not_not.mpr idle), bad]
  · refine exec_setup (st := .badValue) (rest := [byteOf k]) ready least most ?_
    have fails : crossCheck (candidate s.params pairs) = some k := fails
    simp only [doSetup, if_neg (not_not.mpr idle), numbers, fails]
  · have clamps : notedClamps s.params pairs = noted := by rw [notedClamps, rangeNoted_eq, pulseNoted_eq]; rfl
    have ran := exec_setup ready least most (doSetup_installs (tag := tag) idle numbers checks)
    rw [clamps] at ran
    change exec (.setup tag pairs) s = .next { install cand s with link := _ } at ran
    clear_value cand noted
    obtain ⟨reg, actions, relay, inFlight⟩ := install_kept (s := s) range
    refine ⟨_, ran, install_params _ s, ⟨range, checks⟩, ?_, fun e => install_counter law range e, reg, install_rest _ s _,
      install_roles law range, install_due law range, actions, relay, inFlight⟩
    cases noted <;> rfl

end Sys2Proof.Machine
end

section
/-! PROOFS. The arbiter's rules (R157), the relay (R166, R167) and what an answer's outcome is (R156). -/
namespace Sys2Proof.Machine

/-! ## The arbiter (R157) -/

theorem arbiter_busy (k : Nat) {s : State} (busy : s.station.inFlight ≠ none) : arbiter k s = s := by
  cases k with
  | zero => rfl
  | succ k => exact if_pos (Option.isSome_iff_ne_none.mpr busy)

theorem runArbiter_busy {s : State} (busy : s.station.inFlight ≠ none) : runArbiter s = s := arbiter_busy _ busy

theorem arbiter_action (k : Nat) {s : State} {a : Action} {r : List Action} (free : s.station.inFlight = none)
    (actions : s.station.actions = a :: r) :
    arbiter (k + 1) s = if s.roleAddr (actionRole a) = 0 then arbiter k (actionFailed a (s.onStation fun x => { x with actions := r }))
      else sendTxn (actionTxn (s.roleAddr (actionRole a)) a) (s.onStation fun x => { x with actions := r }) := by
  simp only [arbiter, free, actions, Option.isSome_none, Bool.false_eq_true, if_false] <;> rfl

theorem arbiter_poll (k : Nat) {s : State} {r : Role} {rs : List Role} (free : s.station.inFlight = none)
    (actions : s.station.actions = []) (due : s.station.due = r :: rs) :
    arbiter (k + 1) s = sendTxn ⟨s.roleAddr r, .poll r, .poll, [], 0, 0⟩ (s.onStation fun x => { x with due := rs }) := by
  simp only [arbiter, free, actions, due, Option.isSome_none, Bool.false_eq_true, if_false]

theorem arbiter_chunk (k : Nat) {s : State} {r : Relay} (free : s.station.inFlight = none)
    (actions : s.station.actions = []) (due : s.station.due = []) (relay : s.station.relay = some r) :
    arbiter (k + 1) s = sendTxn (chunkTxn r) s := by
  simp only [arbiter, free, actions, due, relay, Option.isSome_none, Bool.false_eq_true, if_false]

theorem arbiter_nothing (k : Nat) {s : State} (actions : s.station.actions = []) (due : s.station.due = [])
    (relay : s.station.relay = none) : arbiter k s = s := by
  cases k with
  | zero => rfl
  | succ k => simp only [arbiter, actions, due, relay, ite_self]

/-! ## Relay chunks (R166, R167) -/

theorem indexBytes_eq (width index : Nat) :
    indexBytes width index = if width = 1 then [byteOf index] else [byteOf (index / 256 : Nat), byteOf index] := by
  unfold indexBytes be16
  rw [Int.natCast_ediv]
  rfl

/-- The transaction of a chunk, with the awaited time of its answer (R167, R168). -/
theorem chunkTxn_eq (r : Relay) :
    chunkTxn r = if r.write then
        ⟨r.addr, .relay, .write, byteOf r.width :: (indexBytes r.width r.index ++ r.toWrite.take (16 - r.width)), 0, 0⟩
      else ⟨r.addr, .relay, .read, byteOf r.width :: (indexBytes r.width r.index ++ [byteOf (min r.toRead 16 : Nat)]),
        min r.toRead 16, 0⟩ := by
  have count : (if r.toRead ≤ 16 then r.toRead else 16) = min r.toRead 16 := by split <;> omega
  unfold chunkTxn
  rw [count]
  rfl

theorem sendTxn_chunk (r : Relay) (s : State) :
    let index := if r.width = 1 then [byteOf r.index] else [byteOf (r.index / 256 : Nat), byteOf r.index]
    let ms := (s.par .replyTimeout).toNat
    sendTxn (chunkTxn r) s = { s with station := { s.station with inFlight := some (
      if r.write then ⟨r.addr, .relay, .write, byteOf r.width :: (index ++ r.toWrite.take (16 - r.width)), 0, ms⟩
      else ⟨r.addr, .relay, .read, byteOf r.width :: (index ++ [byteOf (min r.toRead 16 : Nat)]), min r.toRead 16, ms⟩) } } := by
  intro index ms
  rw [chunkTxn_eq, indexBytes_eq]
  cases r.write <;> rfl

theorem chunkOutcome_ack {r : Relay} {s : State} (relay : s.station.relay = some r) (p : List Byte) :
    chunkOutcome (.ack p) s = if (r.acked p).complete then endRelay (r.acked p) .ok (be32 (r.acked p).carried ++ (r.acked p).got) s
      else s.onStation fun x => { x with relay := some (r.acked p) } := by
  simp only [chunkOutcome, relay]

theorem complete_iff (r : Relay) (p : List Byte) :
    (r.acked p).complete = true ↔ if r.write then r.toWrite.length ≤ 16 - r.width else r.toRead ≤ p.length := by
  unfold Relay.acked Relay.complete
  cases r.write
  · simp [Nat.sub_eq_zero_iff_le]
  · simp [List.length_take]

theorem acked_length (r : Relay) : (r.toWrite.take (16 - r.width)).length = min (16 - r.width) r.toWrite.length := by
  rw [List.length_take]

/-! ## Outcomes (R156) -/

/-- An outcome is taken, and the line link goes on. -/
theorem exec_replyTimeout {x : Txn} {s : State} (inFlight : s.station.inFlight = some x) :
    exec .replyTimeout s = .next (runLink (settleAll s (takeOutcome x .noAnswer s))) := by
  change Host.Outcome.next (runLink (replyExpired s)) = _
  simp only [replyExpired, inFlight]

theorem exec_stationAnswer {x : Txn} {s : State} (inFlight : s.station.inFlight = some x) (a : Answer) :
    exec (.stationAnswer a) s = .next (runLink (settleAll s (takeOutcome x (judgeAnswer x a) s))) := by
  change Host.Outcome.next (runLink (stationAnswered a s)) = _
  simp only [stationAnswered, inFlight]

theorem judgeAnswer_unfit {t : Txn} {a : Answer} (kind : a.kind = kindCode t.kind) (unfit : ackPayloadOk t a.payload = false) :
    judgeAnswer t a = .badAnswer := by
  simp [judgeAnswer, kind, unfit]

theorem judgeAnswer_longNak {t : Txn} {a : Answer} (kind : a.kind = kindCode t.kind + 0x80) (long : a.payload.length ≠ 1) :
    judgeAnswer t a = .badAnswer := by
  have other := kindCode_ne_nak t.kind
  match payload : a.payload with
  | [] => simp [judgeAnswer, kind, payload]
  | [c] => simp [payload] at long
  | c :: d :: r => simp [judgeAnswer, kind, payload]

/-- Settles O38: an acknowledged and a failed chunk, what the arbiter sends next, and the outcome an answer to a chunk has. -/
theorem relayChunksCarryTheData : Obligations.RelayChunksCarryTheData := by
  refine ⟨fun r s relay => ⟨fun p => ?_, fun o kind code failed => ?_⟩, fun r s free actions due relay => ?_,
    fun r rs s free actions due => arbiter_poll 39 free actions due, fun s idle => ?_, fun x s inFlight owner => ?_⟩
  · intro k last
    have count : k = if r.write then (r.toWrite.take (16 - r.width)).length else p.length := by
      simp only [k, acked_length]
    refine ⟨fun done => ?_, fun more => ?_⟩
    · rw [chunkOutcome_ack relay, if_pos ((complete_iff r p).mpr done), count]
      rfl
    · rw [chunkOutcome_ack relay, if_neg (fun done => more ((complete_iff r p).mp done)), count]
      rfl
  · rcases failed with ⟨rfl, rfl⟩ | ⟨rfl, rfl, rfl⟩ | ⟨rfl, rfl, rfl⟩ <;> simp only [chunkOutcome, relay] <;> rfl
  · exact (arbiter_chunk 39 free actions due relay).trans (sendTxn_chunk r s)
  · rcases idle with busy | ⟨actions, due, relay⟩
    · exact runArbiter_busy busy
    · exact arbiter_nothing _ actions due relay
  · intro z
    have taken (o : TxnOutcome) : takeOutcome x o s = chunkOutcome o (watchdog x o z) := by
      simp only [takeOutcome, ownerOutcome, owner]
      rfl
    refine ⟨⟨?_, by simp [z], by simp [z]⟩, fun a => ⟨judgeAnswer x a, ?_, by simp [z], by simp [z], ?_⟩⟩
    · rw [exec_replyTimeout inFlight, taken]
    · rw [exec_stationAnswer inFlight, taken]
    · intro sound fits
      have isSound : sound ↔ answerSound x a = true := (answerSound_iff x a).symm
      have fitting : x.kind ≠ .poll → (fits ↔ ackPayloadOk x a.payload = true) := by
        intro noPoll
        simp only [fits, ackPayloadOk]
        cases kind : x.kind with
        | poll => exact absurd kind noPoll
        | write => simp
        | read => simp
      have pollUnfit : x.kind = .poll → ackPayloadOk x a.payload = false := by
        intro poll
        simp [ackPayloadOk, poll, owner]
      refine ⟨fun right kind fit => ?_, fun c right kind payload => judgeAnswer_nak x a c (isSound.mp right) kind payload,
        fun bad => ?_⟩
      · refine judgeAnswer_ack x a (isSound.mp right) kind ((fitting fun poll => ?_).mp fit)
        simp [fits, poll] at fit
      · rcases bad with wrong | ⟨kind, unfit⟩ | ⟨kind, long⟩ | ⟨other, noNak⟩
        · exact judgeAnswer_bad x a (.inl (by simpa using fun right => wrong (isSound.mpr right)))
        · refine judgeAnswer_unfit kind ?_
          by_cases poll : x.kind = .poll
          · exact pollUnfit poll
          · simpa using fun fit => unfit ((fitting poll).mpr fit)
        · exact judgeAnswer_longNak kind long
        · exact judgeAnswer_bad x a (.inr ⟨other, noNak⟩)

/-! ## STATION_RELAY (R166) -/

theorem toNat_eq_one {w : Byte} : w.toNat = 1 ↔ w = 1 := BitVec.toNat_inj (y := 1#8)

theorem toNat_eq_two {w : Byte} : w.toNat = 2 ↔ w = 2 := BitVec.toNat_inj (y := 2#8)

theorem relayBad_iff (tt target d w : Byte) (index : Word16) (data : List Byte) :
    let k := if d = 0 then beNat data else data.length
    (relayBad tt target d w index data = true
      ↔ 1 < tt.toNat ∨ (tt = 0 ∧ 3 < target.toNat) ∨ (tt = 1 ∧ (target.toNat < 1 ∨ 15 < target.toNat)) ∨ 1 < d.toNat
        ∨ (w ≠ 1 ∧ w ≠ 2) ∨ k < 1 ∨ 64 < k ∨ (w = 1 ∧ 256 < index.toNat + k) ∨ (w = 2 ∧ 65536 < index.toNat + k)) := by
  intro k
  have length : relayLength d data = k := rfl
  have top : (w ≠ 1 ∧ w ≠ 2) ∨ ((if w = 1 then 256 else 65536) < index.toNat + k
      ↔ (w = 1 ∧ 256 < index.toNat + k) ∨ (w = 2 ∧ 65536 < index.toNat + k)) := by
    by_cases one : w = 1
    · subst one
      simp
    · by_cases two : w = 2
      · subst two
        simp
      · exact .inl ⟨one, two⟩
  have last : ((w ≠ 1 ∧ w ≠ 2) ∨ k < 1 ∨ 64 < k ∨ (if w = 1 then 256 else 65536) < index.toNat + k)
      ↔ (w ≠ 1 ∧ w ≠ 2) ∨ k < 1 ∨ 64 < k ∨ (w = 1 ∧ 256 < index.toNat + k) ∨ (w = 2 ∧ 65536 < index.toNat + k) := by
    rcases top with width | same
    · exact iff_of_true (.inl width) (.inl width)
    · rw [same]
  clear_value k
  simp only [relayBad, length, Bool.or_eq_true, Bool.and_eq_true, decide_eq_true_eq, beq_iff_eq, ne_eq, toNat_eq_one, toNat_eq_two,
    or_assoc]
  exact or_congr_right (or_congr_right (or_congr_right (or_congr_right last)))

theorem byteOf_toNat (w : Byte) : byteOf w.toNat = w := by
  unfold byteOf
  rw [BitVec.ofInt_natCast, BitVec.ofNat_toNat, BitVec.setWidth_eq]

theorem startTx_of_link {s u : State} (link : u.link = s.link) (silent : s.link.reply = none)
    (events : s.link.tx = none → s.link.events = []) : startTx u = u :=
  startTx_idle u (by rwa [link]) (by rwa [link])

theorem relayAddr_eq {s : State} {tt target : Byte} {addr : Nat}
    (names : tt = 0 ∧ (∃ r, roleOf target.toNat = some r ∧ s.roleAddr r = addr) ∨ tt = 1 ∧ addr = target.toNat) :
    s.relayAddr tt target = addr := by
  unfold State.relayAddr
  rcases names with ⟨role, r, known, same⟩ | ⟨raw, same⟩
  · rw [if_pos role, known]
    exact same
  · rw [if_neg (by rw [raw]; decide), same]

/-- Settles O52: the refusals of STATION_RELAY, and the relay it begins with its first chunk sent on a link with nothing waiting. -/
theorem stationRelayBegins : Obligations.StationRelayBegins := by
  intro tag tt target d w index data s ready wf k bad c
  have sized : (Request.stationRelay tt target d w index data).sized := sized_of_wf (c := c) rfl wf
  have isBad : relayBad tt target d w index data = true ↔ bad := relayBad_iff tt target d w index data
  refine ⟨fun refused => ?_, fun r good role known absent => ?_, fun addr good present names => ?_⟩
  · exact exec_request_answered (c := c) (st := .badValue) (rest := [0]) (kind := 0x20) ready rfl sized (if_pos (isBad.mpr refused))
  · refine exec_request_answered (c := c) (st := .noSuch) (rest := []) (kind := 0x20) ready rfl sized ?_
    simp only [handle, doStationRelay]
    rw [if_neg fun h => good (isBad.mp h), if_pos (relayAddr_eq (.inl ⟨role, r, known, absent⟩))]
  · intro r
    have began : exec c s = .next (startTx (runArbiter (s.onStation fun t => { t with relay := some r }))) := by
      refine (exec_request_ready (c := c) ready rfl sized).trans ?_
      simp only [handle, doStationRelay]
      rw [if_neg fun h => good (isBad.mp h), relayAddr_eq names, if_neg present]
      rfl
    obtain ⟨silent, -, -, events⟩ := ready
    refine ⟨fun busy => ?_, fun free actions due => ?_⟩
    · rw [began, runArbiter_busy (by simpa using busy)]
      refine congrArg Host.Outcome.next (startTx_of_link (s := s) ?_ silent events)
      rfl
    · have sent := (arbiter_chunk 39 (s := s.onStation fun t => { t with relay := some r }) free actions due rfl).trans
        (sendTxn_chunk r _)
      have running : runArbiter (s.onStation fun t => { t with relay := some r }) = _ := sent
      rw [began, running]
      refine (congrArg Host.Outcome.next (startTx_of_link (s := s) ?_ silent events)).trans ?_
      · rfl
      simp only [r, byteOf_toNat, toNat_eq_one, k]
      by_cases write : d = 0
      · simp [write, State.onStation, State.par]
      · have flag : (d != 0) = true := bne_iff_ne.mpr write
        simp only [flag, if_true, if_neg write]
        rfl

end Sys2Proof.Machine
end

section
/-! PROOFS. What raising a hold reason changes: the hold set grows, a RUNNING line goes to HOLDING, line actions join the list,
and an event is queued (R141, R142); and the operations that do no more than that to the motion. -/
namespace Sys2Proof.Machine

/-- From s to t no hold reason is lost, and of the rest of the motion a RUNNING line may have gone to HOLDING. -/
structure HoldsRise (s t : State) : Prop where
  motion : (∃ h, t.motion = { s.motion with holds := h })
    ∨ (s.motion.line = .running ∧ ∃ h, t.motion = { s.motion with holds := h, line := .holding, speed := 0 })
  holds : ∀ r, s.motion.holds.has r = true → t.motion.holds.has r = true

theorem HoldsRise.same {s t : State} (same : t.motion = s.motion) : HoldsRise s t :=
  ⟨.inl ⟨s.motion.holds, by rw [same]⟩, fun r has => by rw [same]; exact has⟩

theorem HoldsRise.trans {s t u : State} (first : HoldsRise s t) (second : HoldsRise t u) : HoldsRise s u := by
  refine ⟨?_, fun r has => second.holds r (first.holds r has)⟩
  rcases first.motion with ⟨h, m⟩ | ⟨run, h, m⟩ <;> rcases second.motion with ⟨k, n⟩ | ⟨run', k, n⟩
  · exact .inl ⟨k, by rw [n, m]⟩
  · exact .inr ⟨by rw [m] at run'; exact run', k, by rw [n, m]⟩
  · exact .inr ⟨run, k, by rw [n, m]⟩
  · rw [m] at run'
    exact absurd run' (by simp)

theorem HoldsRise.nip {s t : State} (rise : HoldsRise s t) : t.motion.nip = s.motion.nip := by
  rcases rise.motion with ⟨h, m⟩ | ⟨_, h, m⟩ <;> rw [m]

theorem HoldsRise.outfeed {s t : State} (rise : HoldsRise s t) : t.motion.outfeed = s.motion.outfeed := by
  rcases rise.motion with ⟨h, m⟩ | ⟨_, h, m⟩ <;> rw [m]

theorem HoldsRise.line {s t : State} (rise : HoldsRise s t) :
    t.motion.line = s.motion.line ∨ (s.motion.line = .running ∧ t.motion.line = .holding) := by
  rcases rise.motion with ⟨h, m⟩ | ⟨run, h, m⟩
  · exact .inl (by rw [m])
  · exact .inr ⟨run, by rw [m]⟩

theorem HoldsRise.line_of_not_running {s t : State} (rise : HoldsRise s t) (still : s.motion.line ≠ .running) :
    t.motion.line = s.motion.line := rise.line.resolve_right fun went => still went.1

theorem HoldsRise.line_ne_idle {s t : State} (rise : HoldsRise s t) (busy : s.motion.line ≠ .idle) : t.motion.line ≠ .idle := by
  rcases rise.line with same | ⟨_, holding⟩
  · rw [same]; exact busy
  · rw [holding]; decide

theorem HoldsRise.line_of_running {s t : State} (rise : HoldsRise s t) (run : s.motion.line = .running) :
    t.motion.line = .running ∨ t.motion.line = .holding :=
  rise.line.imp (fun same => same.trans run) fun went => went.2

/-! ## Hold sets -/

theorem HoldSet.has_add_iff (h : HoldSet) (q r : HoldReason) : (h.add q).has r = true ↔ r = q ∨ h.has r = true := by
  cases q <;> cases r <;> simp [HoldSet.add, HoldSet.has]

theorem HoldSet.add_of_has (h : HoldSet) (r : HoldReason) (has : h.has r = true) : h.add r = h := by
  obtain ⟨⟩ := h
  cases r <;> simp_all [HoldSet.add, HoldSet.has]

theorem addReason_motion (r : HoldReason) (s : State) :
    (addReason r s).motion = { s.motion with holds := s.motion.holds.add r } := by
  unfold addReason
  split
  · next has => rw [HoldSet.add_of_has _ _ has]
  · simp

theorem addReason_rise (r : HoldReason) (s : State) : HoldsRise s (addReason r s) := by
  refine ⟨.inl ⟨_, addReason_motion r s⟩, fun q has => ?_⟩
  rw [addReason_motion]
  exact (HoldSet.has_add_iff _ _ _).mpr (.inr has)

theorem stationIfFailed_rise (sf : State × Bool) : HoldsRise sf.1 (stationIfFailed sf) := by
  unfold stationIfFailed
  split
  · exact addReason_rise _ _
  · exact .same rfl

/-- Entering HOLDING: the line and the commanded speed, and no hold reason is lost (R142). -/
theorem enterHolding_holding (s : State) :
    ∃ h, (enterHolding s).motion = { s.motion with holds := h, line := .holding, speed := 0 }
      ∧ ∀ r, s.motion.holds.has r = true → h.has r = true := by
  obtain ⟨h, motion⟩ := enterHolding_motion s
  refine ⟨h, motion, fun r has => ?_⟩
  have rise := (stationIfFailed_rise (commandSpeed (queueLine .state (s.onMotion fun m => { m with line := .holding })))).holds r
  change _ → (enterHolding s).motion.holds.has r = true at rise
  rw [motion] at rise
  exact rise (by rw [commandSpeed_motion]; simpa using has)

/-- Raising a reason: nothing in IDLE, and otherwise the reason is in the set and a RUNNING line HOLDING (R141). -/
theorem raiseHold_rise (r : HoldReason) (s : State) : HoldsRise s (raiseHold r s) := by
  unfold raiseHold
  split
  · exact .same rfl
  · next run =>
    obtain ⟨h, motion, kept⟩ := enterHolding_holding (s.onMotion fun m => { m with holds := m.holds.add r })
    refine ⟨.inr ⟨run, h, by rw [motion]; simp⟩, fun q has => ?_⟩
    rw [motion]
    exact kept q ((HoldSet.has_add_iff _ _ _).mpr (.inr has))
  all_goals exact addReason_rise _ _

theorem raiseHold_has (r : HoldReason) {s : State} (busy : s.motion.line ≠ .idle) :
    (raiseHold r s).motion.holds.has r = true := by
  unfold raiseHold
  split
  · next idle => exact absurd idle busy
  · obtain ⟨h, motion, kept⟩ := enterHolding_holding (s.onMotion fun m => { m with holds := m.holds.add r })
    rw [motion]
    exact kept r (HoldSet.has_add _ _)
  all_goals
    rw [addReason_motion]
    exact HoldSet.has_add _ _

theorem raiseHold_not_running (r : HoldReason) (s : State) : (raiseHold r s).motion.line ≠ .running := by
  unfold raiseHold
  split
  · next idle => rw [idle]; decide
  · obtain ⟨h, motion, -⟩ := enterHolding_holding (s.onMotion fun m => { m with holds := m.holds.add r })
    simp [motion]
  all_goals
    next line =>
    rw [addReason_motion]
    simp [line]

theorem raiseHold_of_running (r : HoldReason) {s : State} (run : s.motion.line = .running) :
    (raiseHold r s).motion.line = .holding := by
  have line := (raiseHold_rise r s).line
  rw [run] at line
  exact (line.resolve_left (raiseHold_not_running r s)).2

/-! ## The operations that raise reasons -/

theorem failChangeover_rise (s : State) : HoldsRise s (failChangeover s) := by
  unfold failChangeover
  split
  · exact (HoldsRise.same (by simp)).trans (raiseHold_rise _ _)
  all_goals exact .same rfl

/-- A changeover in MOVING fails, and BEAM is raised (R130). -/
theorem failChangeover_moving {s : State} {l : Layout} {g : Int} (moving : s.beam.changeover = .moving l g) :
    failChangeover s = raiseHold .beam { s with beam := { s.beam with changeover := .failed l g, timer := none } } := by
  simp only [failChangeover, moving] <;> rfl

theorem failChangeover_other {s : State} (still : ∀ l g, s.beam.changeover ≠ .moving l g) : failChangeover s = s := by
  unfold failChangeover
  split
  · next moving => exact absurd moving (still _ _)
  all_goals rfl

theorem beamActionPushed_rise (sf : State × Bool) : HoldsRise sf.1 (beamActionPushed sf) := by
  unfold beamActionPushed
  split
  · exact failChangeover_rise _
  · exact .same rfl

theorem startMove_rise (l : Layout) (g : Int) (s : State) : HoldsRise s (startMove l g s) := by
  unfold startMove
  exact (HoldsRise.same (by simp)).trans (beamActionPushed_rise _)

theorem judgeTrigger_rise (s : State) : HoldsRise s (judgeTrigger s) := by
  unfold judgeTrigger
  split
  · split
    · exact (HoldsRise.same (by simp)).trans (startMove_rise _ _ _)
    · exact .same rfl
  all_goals exact .same rfl

theorem reissue_rise (s : State) : HoldsRise s (reissue s) := by
  unfold reissue
  split
  · exact startMove_rise _ _ _
  all_goals exact .same rfl

theorem beamActionFailed_rise (m : Nat) (s : State) : HoldsRise s (beamActionFailed m s) := by
  unfold beamActionFailed
  split
  · exact failChangeover_rise _
  · exact .same rfl

theorem actionFailed_rise (a : Action) (s : State) : HoldsRise s (actionFailed a s) := by
  unfold actionFailed
  split
  · exact raiseHold_rise _ _
  · exact raiseHold_rise _ _
  · exact beamActionFailed_rise _ _
  · exact beamActionFailed_rise _ _

theorem arbiter_rise (k : Nat) (s : State) : HoldsRise s (arbiter k s) := by
  induction k generalizing s with
  | zero => exact .same rfl
  | succ k ih =>
    unfold arbiter
    split
    · exact .same rfl
    · split
      · dsimp only
        split
        · exact (HoldsRise.same (by simp)).trans ((actionFailed_rise _ _).trans (ih _))
        · exact .same (by simp)
      · split
        · exact .same (by simp)
        · split
          · exact .same (by simp)
          · exact .same rfl

theorem runArbiter_rise (s : State) : HoldsRise s (runArbiter s) := arbiter_rise 40 s

theorem lossOf_rise (r : Role) (s : State) : HoldsRise s (lossOf r s) := by
  unfold lossOf
  split
  · split
    · exact raiseHold_rise _ _
    · exact .same rfl
  · split
    · exact raiseHold_rise _ _
    · exact .same rfl
  · exact failChangeover_rise _
  · exact .same (by simp)

theorem failedOutcome_rise (r : Role) (s : State) : HoldsRise s (failedOutcome r s) := by
  unfold failedOutcome
  split
  · dsimp only
    split
    · exact (HoldsRise.same (by simp)).trans (lossOf_rise _ _)
    · exact .same (by simp)
  · dsimp only
    split
    · exact (HoldsRise.same (by simp)).trans (lossOf_rise _ _)
    · exact .same (by simp)
  · exact .same (by simp)
  · exact .same rfl

theorem watchdog_rise (t : Txn) (o : TxnOutcome) (s : State) : HoldsRise s (watchdog t o s) := by
  unfold watchdog
  split
  · exact .same rfl
  · split
    · exact .same (by simp)
    · exact failedOutcome_rise _ _
    · exact .same (by simp)
    · exact .same (by simp)
    · exact failedOutcome_rise _ _
    · exact failedOutcome_rise _ _

/-! ## A reason that stands through what follows a command -/

/-- The line is IDLE, or it is not RUNNING and has the reason. -/
def Held (r : HoldReason) (s : State) : Prop :=
  s.motion.line = .idle ∨ (s.motion.line ≠ .running ∧ s.motion.holds.has r = true)

theorem Held.rise {r : HoldReason} {s t : State} (held : Held r s) (rise : HoldsRise s t) : Held r t := by
  rcases held with idle | ⟨still, has⟩
  · exact .inl (by rw [rise.line_of_not_running (by rw [idle]; decide), idle])
  · exact .inr ⟨by rw [rise.line_of_not_running still]; exact still, rise.holds r has⟩

theorem Held.same {r : HoldReason} {s t : State} (held : Held r s) (same : t.motion = s.motion) : Held r t := held.rise (.same same)

theorem raiseHold_held (r : HoldReason) (s : State) : Held r (raiseHold r s) := by
  by_cases idle : s.motion.line = .idle
  · exact .inl (by rw [(raiseHold_rise r s).line_of_not_running (by rw [idle]; decide), idle])
  · exact .inr ⟨raiseHold_not_running r s, raiseHold_has r idle⟩

theorem judgeHolding_lineHolds (a b : Bool) (s : State) :
    (judgeHolding a b s).motion.line = s.motion.line ∧ (judgeHolding a b s).motion.holds = s.motion.holds := by
  unfold judgeHolding issueIndex sendDrive
  split
  · exact ⟨rfl, rfl⟩
  · split
    · exact ⟨rfl, rfl⟩
    · exact ⟨rfl, rfl⟩

theorem endHolding_held {r : HoldReason} {s : State} (holding : s.motion.line = .holding) (held : Held r s) :
    Held r (endHolding s) := by
  unfold endHolding
  split
  · split
    · exact .inl (by unfold jobEndStop; simp)
    · rcases held with idle | ⟨_, has⟩
      · exact absurd (holding.symm.trans idle) (by decide)
      · exact .inr ⟨by simp, by simpa using has⟩
  · exact held

theorem judgeHolding_held {r : HoldReason} (a b : Bool) {s : State} (held : Held r s) : Held r (judgeHolding a b s) := by
  obtain ⟨line, holds⟩ := judgeHolding_lineHolds a b s
  unfold Held at held ⊢
  rw [line, holds]
  exact held

theorem reactMotion_held {r : HoldReason} (before : State) {s : State} (held : Held r s) : Held r (reactMotion before s) := by
  unfold reactMotion
  split
  · next run =>
    rcases held with idle | ⟨still, _⟩
    · exact absurd (run.symm.trans idle) (by decide)
    · exact absurd run still
  · next holding => exact endHolding_held ((judgeHolding_lineHolds _ _ s).1.trans holding) (judgeHolding_held _ _ held)
  all_goals exact held

theorem settle_held {r : HoldReason} (before : State) {s : State} (held : Held r s) : Held r (settle before s) :=
  ((reactMotion_held _ ((reactMotion_held before (held.rise (judgeTrigger_rise s))).rise (runArbiter_rise _))).rise
    (runArbiter_rise _))

end Sys2Proof.Machine
end

section
/-! PROOFS. The line actions (R128, R130, R165). -/
namespace Sys2Proof.Machine

/-- A changeover in MOVING may have failed from s to t, with BEAM raised; the Beam Controller is else unchanged. -/
def MayFail (s t : State) : Prop :=
  t.beam = s.beam ∨ ∃ l g, s.beam.changeover = .moving l g
    ∧ t.beam = { s.beam with changeover := .failed l g, timer := none } ∧ Held .beam t

theorem failChangeover_mayFail (s : State) : MayFail s (failChangeover s) := by
  by_cases moves : ∃ l g, s.beam.changeover = .moving l g
  · obtain ⟨l, g, moving⟩ := moves
    rw [failChangeover_moving moving]
    exact .inr ⟨l, g, moving, by simp, raiseHold_held _ _⟩
  · rw [failChangeover_other fun l g moving => moves ⟨l, g, moving⟩]
    exact .inl rfl

theorem lossOf_mayFail (r : Role) (s : State) : MayFail s (lossOf r s) := by
  unfold lossOf
  split
  · split
    · exact .inl (by simp)
    · exact .inl rfl
  · split
    · exact .inl (by simp)
    · exact .inl rfl
  · exact failChangeover_mayFail s
  · exact .inl (by simp)

theorem MayFail.of_beam {s u t : State} (same : u.beam = s.beam) (may : MayFail u t) : MayFail s t := by
  unfold MayFail at may ⊢
  rw [same] at may
  exact may

theorem failedOutcome_mayFail (r : Role) (s : State) : MayFail s (failedOutcome r s) := by
  unfold failedOutcome
  split
  · dsimp only
    split
    · exact (lossOf_mayFail r _).of_beam (by simp)
    · exact .inl (by simp)
  · dsimp only
    split
    · exact (lossOf_mayFail r _).of_beam (by simp)
    · exact .inl (by simp)
  · exact .inl (by simp)
  · exact .inl rfl

theorem watchdog_mayFail (t : Txn) (o : TxnOutcome) (s : State) : MayFail s (watchdog t o s) := by
  unfold watchdog
  split
  · exact .inl rfl
  · split
    · exact .inl (by simp)
    · exact failedOutcome_mayFail _ _
    · exact .inl (by simp)
    · exact .inl (by simp)
    · exact failedOutcome_mayFail _ _
    · exact failedOutcome_mayFail _ _

/-- An ACK's watchdog leaves everything but the records and the event queue. -/
theorem watchdog_ack (t : Txn) (p : List Byte) (s : State) :
    (watchdog t (.ack p) s).motion = s.motion ∧ (watchdog t (.ack p) s).beam = s.beam
      ∧ (watchdog t (.ack p) s).station.actions = s.station.actions := by
  unfold watchdog
  split
  · exact ⟨rfl, rfl, rfl⟩
  · refine ⟨by simp, by simp, ?_⟩
    simp only [goodOutcome]
    split <;> simp [queueEvent_eq, State.onRecord, State.onStation]

/-! ## Failed and acknowledged actions -/

theorem actionFailed_lam {a : Action} (lam : (∃ v, a = .speed v) ∨ ∃ n, a = .nip n) (s : State) :
    actionFailed a s = raiseHold .station s := by
  rcases lam with ⟨v, rfl⟩ | ⟨n, rfl⟩ <;> rfl

theorem actionFailed_beam {a : Action} {m : Nat} (beam : a = .move m ∨ ∃ l, a = .positions m l) (s : State) :
    actionFailed a s = if m = s.beam.move then failChangeover s else s := by
  rcases beam with rfl | ⟨l, rfl⟩ <;> rfl

theorem positionsAcked_hand {s : State} {m : Nat} {l : Layout} {g : Int} (moving : s.beam.changeover = .moving l g)
    (hand : m = s.beam.move) : positionsAcked m s = beamActionPushed (pushAction (.move m) s) := by
  simp only [positionsAcked, moving, if_pos hand]

theorem positionsAcked_other {s : State} {m : Nat} (other : ∀ l g, ¬(s.beam.changeover = .moving l g ∧ m = s.beam.move)) :
    positionsAcked m s = s := by
  unfold positionsAcked
  split
  · next moving => exact if_neg fun hand => other _ _ ⟨moving, hand⟩
  all_goals rfl

theorem moveAcked_hand {s : State} {m : Nat} {l : Layout} {g : Int} (moving : s.beam.changeover = .moving l g)
    (hand : m = s.beam.move) : moveAcked m s = s.onBeam fun b => { b with timer := some (s.par .beamTimeout).toNat } := by
  simp only [moveAcked, moving, if_pos hand]

theorem moveAcked_other {s : State} {m : Nat} (other : ∀ l g, ¬(s.beam.changeover = .moving l g ∧ m = s.beam.move)) :
    moveAcked m s = s := by
  unfold moveAcked
  split
  · next moving => exact if_neg fun hand => other _ _ ⟨moving, hand⟩
  all_goals rfl

theorem pushAction_room {a : Action} {s : State} (room : s.station.actions.length < 16) :
    pushAction a s = ({ s with station := { s.station with actions := s.station.actions ++ [a] } }, false) := if_pos room

theorem pushAction_full {a : Action} {s : State} (full : 16 ≤ s.station.actions.length) : pushAction a s = (s, true) :=
  if_neg (Nat.not_lt.mpr full)

/-- Any outcome of an action but ACK hands it to `actionFailed` after the watchdog (R165). -/
theorem takeOutcome_action_fails {x : Txn} {a : Action} (owner : x.owner = .action a) {o : TxnOutcome} (failed : ∀ p, o ≠ .ack p)
    (s : State) : takeOutcome x o s = actionFailed a (watchdog x o (s.onStation fun t => { t with inFlight := none })) := by
  cases o with
  | ack p => exact absurd rfl (failed p)
  | nak c => simp only [takeOutcome, ownerOutcome, owner]
  | noAnswer => simp only [takeOutcome, ownerOutcome, owner]
  | badAnswer => simp only [takeOutcome, ownerOutcome, owner]

/-- A failed action leaves the nip as commanded and raises STATION, or fails the changeover of its move and raises BEAM
(R130, R165). -/
theorem takeOutcome_action_failed {x : Txn} {act : Action} (owner : x.owner = .action act) {o : TxnOutcome}
    (failed : ∀ p, o ≠ .ack p) (s : State) :
    let u := takeOutcome x o s
    ((∃ v, act = .speed v) ∨ (∃ n, act = .nip n) →
        u.motion.nip = s.motion.nip ∧ (s.motion.line ≠ .idle → u.motion.holds.station = true)
        ∧ (s.motion.line = .running → u.motion.line = .holding))
      ∧ (∀ m, act = .move m ∨ (∃ l, act = .positions m l) →
        (∀ l g, s.beam.changeover = .moving l g ∧ m = s.beam.move → u.beam = { s.beam with changeover := .failed l g, timer := none }
          ∧ (s.motion.line ≠ .idle → u.motion.holds.beam = true))
        ∧ ((∀ l g, s.beam.changeover ≠ .moving l g) → u.beam = s.beam)) := by
  intro u
  have taken : u = actionFailed act (watchdog x o (s.onStation fun t => { t with inFlight := none })) :=
    takeOutcome_action_fails owner failed s
  have watched : HoldsRise s (watchdog x o (s.onStation fun t => { t with inFlight := none })) :=
    (HoldsRise.same (s := s) (t := s.onStation fun t => { t with inFlight := none }) rfl).trans (watchdog_rise x o _)
  have may : MayFail s (watchdog x o (s.onStation fun t => { t with inFlight := none })) :=
    (watchdog_mayFail x o _).of_beam rfl
  rw [taken]
  clear_value u
  generalize watchdog x o (s.onStation fun t => { t with inFlight := none }) = w at watched may
  refine ⟨fun lam => ?_, fun m beam => ⟨fun l g hand => ?_, fun still => ?_⟩⟩
  · rw [actionFailed_lam lam]
    refine ⟨(watched.trans (raiseHold_rise _ _)).nip, fun busy => raiseHold_has .station (watched.line_ne_idle busy), fun run => ?_⟩
    rcases (watched.trans (raiseHold_rise .station w)).line_of_running run with running | holding
    · exact absurd running (raiseHold_not_running _ _)
    · exact holding
  · obtain ⟨moving, hand⟩ := hand
    rw [actionFailed_beam beam]
    rcases may with same | ⟨l', g', moving', failed, held⟩
    · have moving' : w.beam.changeover = .moving l g := by rw [same]; exact moving
      rw [if_pos (by rw [same]; exact hand), failChangeover_moving moving']
      exact ⟨by simp [same], fun busy => raiseHold_has .beam (watched.line_ne_idle busy)⟩
    · obtain ⟨rfl, rfl⟩ := Changeover.moving.inj (moving.symm.trans moving')
      rw [if_pos (by rw [failed]; exact hand), failChangeover_other (by simp [failed])]
      exact ⟨failed, fun busy => (held.resolve_left (watched.line_ne_idle busy)).2⟩
  · have same : w.beam = s.beam := by
      rcases may with same | ⟨l, g, moving, -⟩
      · exact same
      · exact absurd moving (still l g)
    rw [actionFailed_beam beam, failChangeover_other (by simpa [same] using still), ite_self]
    exact same

/-- An action answered ACK (R128): nothing for a LAMINATOR action; of the move in hand, the positions raise the move action or
fail the changeover, and the move action starts the beam timer. -/
theorem takeOutcome_action_acked {x : Txn} {act : Action} (owner : x.owner = .action act) (p : List Byte) (s : State) :
    let u := takeOutcome x (.ack p) s
    let hand := fun (m : Nat) (l : Layout) (g : Int) => s.beam.changeover = .moving l g ∧ m = s.beam.move
    ((∃ v, act = .speed v) ∨ (∃ n, act = .nip n) →
        u.beam = s.beam ∧ u.station.actions = s.station.actions ∧ u.motion = s.motion)
      ∧ (∀ m l', act = .positions m l' →
        (∀ l g, hand m l g →
          (s.station.actions.length < 16 → u.beam = s.beam ∧ u.station.actions = s.station.actions ++ [.move m])
          ∧ (16 ≤ s.station.actions.length → u.beam = { s.beam with changeover := .failed l g, timer := none }))
        ∧ ((∀ l g, ¬hand m l g) → u.beam = s.beam ∧ u.station.actions = s.station.actions))
      ∧ (∀ m, act = .move m → u.station.actions = s.station.actions
        ∧ (∀ l g, hand m l g → u.beam = { s.beam with timer := some (s.par .beamTimeout).toNat })
        ∧ ((∀ l g, ¬hand m l g) → u.beam = s.beam)) := by
  intro u hand
  have taken : u = actionAcked act (watchdog x (.ack p) (s.onStation fun t => { t with inFlight := none })) := by
    simp only [u, takeOutcome, ownerOutcome, owner]
  obtain ⟨motion, beam, actions⟩ := watchdog_ack x p (s.onStation fun t => { t with inFlight := none })
  have params : (watchdog x (.ack p) (s.onStation fun t => { t with inFlight := none })).params = s.params := by simp
  rw [taken]
  clear_value u
  generalize watchdog x (.ack p) (s.onStation fun t => { t with inFlight := none }) = w at motion beam actions params
  change w.motion = s.motion at motion
  change w.beam = s.beam at beam
  change w.station.actions = s.station.actions at actions
  have other {m : Nat} (no : ∀ l g, ¬hand m l g) (l : Layout) (g : Int) : ¬(w.beam.changeover = .moving l g ∧ m = w.beam.move) := by
    rw [beam]
    exact no l g
  refine ⟨fun lam => ?_, ?_, ?_⟩
  · rcases lam with ⟨v, rfl⟩ | ⟨n, rfl⟩ <;> exact ⟨beam, actions, motion⟩
  · rintro m l' rfl
    refine ⟨fun l g here => ?_, fun no => ?_⟩
    · have moving : w.beam.changeover = .moving l g := by rw [beam]; exact here.1
      have acked : actionAcked (.positions m l') w = beamActionPushed (pushAction (.move m) w) :=
        positionsAcked_hand moving (by rw [beam]; exact here.2)
      refine ⟨fun room => ?_, fun full => ?_⟩
      · rw [acked, pushAction_room (by rw [actions]; exact room)]
        exact ⟨beam, congrArg (· ++ [Action.move m]) actions⟩
      · rw [acked, pushAction_full (by rw [actions]; exact full)]
        change (failChangeover w).beam = _
        rw [failChangeover_moving moving]
        simp [beam]
    · change (positionsAcked m w).beam = _ ∧ (positionsAcked m w).station.actions = _
      rw [positionsAcked_other (other no)]
      exact ⟨beam, actions⟩
  · rintro m rfl
    refine ⟨?_, fun l g here => ?_, fun no => ?_⟩
    · change (moveAcked m w).station.actions = _
      unfold moveAcked
      split
      · split
        · exact actions
        · exact actions
      all_goals exact actions
    · change (moveAcked m w).beam = _
      rw [moveAcked_hand (by rw [beam]; exact here.1) (by rw [beam]; exact here.2)]
      change { w.beam with timer := some (w.par .beamTimeout).toNat } = _
      rw [beam, State.par, params]
      rfl
    · change (moveAcked m w).beam = _
      rw [moveAcked_other (other no)]
      exact beam

theorem judgeAnswer_write_ack {x : Txn} {a : Answer} (kind : x.kind = .write)
    (acked : a.check = crc16 (a.addr :: a.kind :: a.payload) ∧ a.addr.toNat = x.addr ∧ a.kind = kindCode .write ∧ a.payload = []) :
    judgeAnswer x a = .ack [] := by
  obtain ⟨check, addr, code, empty⟩ := acked
  have ack := judgeAnswer_ack x a ((answerSound_iff x a).mpr ⟨check, addr⟩) (by rw [kind]; exact code)
    (by simp [ackPayloadOk, kind, empty])
  rwa [empty] at ack

theorem judgeAnswer_write_fails {x : Txn} {a : Answer} (kind : x.kind = .write)
    (bad : ¬(a.check = crc16 (a.addr :: a.kind :: a.payload) ∧ a.addr.toNat = x.addr ∧ a.kind = kindCode .write ∧ a.payload = []))
    (p : List Byte) : judgeAnswer x a ≠ .ack p := by
  intro ack
  unfold judgeAnswer at ack
  split at ack
  · contradiction
  · next sound =>
    obtain ⟨check, addr⟩ := (answerSound_iff x a).mp (Bool.eq_true_of_not_eq_false sound)
    split at ack
    · next code =>
      split at ack
      · next fits => exact bad ⟨check, addr, by rw [← kind]; exact code, by simpa [ackPayloadOk, kind] using fits⟩
      · contradiction
    · split at ack
      · split at ack <;> contradiction
      · contradiction

/-- Settles O37: what the arbiter sends for a line action, and what the outcome of an action does. -/
theorem lineActionsAreCarriedOut : Obligations.LineActionsAreCarriedOut := by
  refine ⟨fun a r s free actions => ?_, fun act x s inFlight owner kind => ?_⟩
  · intro role bytes left
    have sent := arbiter_action 39 free actions
    refine ⟨fun present => ?_, fun k absent => ?_⟩
    · rw [runArbiter, sent]
      cases a with
      | speed v => exact if_neg present
      | nip n => cases n <;> exact if_neg present
      | positions m l => exact if_neg present
      | move m => exact if_neg present
    · rw [arbiter_action k free actions]
      cases a with
      | speed v => exact if_pos absent
      | nip n => exact if_pos absent
      | positions m l => exact if_pos absent
      | move m => exact if_pos absent
  · intro hand fails
    have lost {o : TxnOutcome} {i : Instr} (run : exec i s = .next (runLink (settleAll s (takeOutcome x o s))))
        (failed : ∀ p, o ≠ .ack p) : fails i := ⟨_, run, takeOutcome_action_failed owner failed s⟩
    refine ⟨lost (exec_replyTimeout inFlight) (by simp), fun a => ?_⟩
    intro acked
    refine ⟨fun bad => lost (exec_stationAnswer inFlight a) (judgeAnswer_write_fails kind bad), fun good => ?_⟩
    have run := exec_stationAnswer inFlight a
    rw [judgeAnswer_write_ack kind good] at run
    obtain ⟨lam, positions, move⟩ := takeOutcome_action_acked owner [] s
    exact ⟨_, run, fun v speed => lam (.inl ⟨v, speed⟩), fun n nip => lam (.inr ⟨n, nip⟩), positions, move⟩

end Sys2Proof.Machine
end

section
/-! PROOFS. The watchdog of the stations (R155, R156, R159, R164). -/
namespace Sys2Proof.Machine

theorem Roles.set_self {α : Type} (v : Roles α) (r : Role) : v.set r (v.get r) = v := by
  cases r <;> rfl

/-- The station record of a role after a failed outcome (R159, log entry 10). -/
def failedRecord (w : Nat) (x : StationRecord) : StationRecord :=
  match x.state with
  | .unknown | .present => if w ≤ x.failures + 1 then ⟨.lost, w⟩ else { x with failures := x.failures + 1 }
  | .lost => ⟨.lost, w⟩
  | .absent => x

theorem failedRecord_live {w : Nat} {x : StationRecord} (live : x.state = .unknown ∨ x.state = .present) :
    failedRecord w x = if w ≤ x.failures + 1 then ⟨.lost, w⟩ else { x with failures := x.failures + 1 } := by
  rcases live with state | state <;> simp only [failedRecord, state]

/-- The state of a role that becomes LOST, before the loss's own consequence (R159, R164). -/
def lostRole (r : Role) (s : State) : State :=
  { s with
    station := { s.station with records := s.station.records.set r ⟨.lost, (s.par .stationWatchdog).toNat⟩ }
    link := linkEvent s.link (.stationNotice .lost r) }

theorem failedOutcome_lost {r : Role} {s : State}
    (live : (s.station.records.get r).state = .unknown ∨ (s.station.records.get r).state = .present)
    (reached : (s.par .stationWatchdog).toNat ≤ (s.station.records.get r).failures + 1) :
    failedOutcome r s = lossOf r (lostRole r s) := by
  rcases live with state | state <;> simp only [failedOutcome, state, if_pos reached] <;> rfl

theorem failedOutcome_counted {r : Role} {s : State}
    (live : (s.station.records.get r).state = .unknown ∨ (s.station.records.get r).state = .present)
    (within : ¬(s.par .stationWatchdog).toNat ≤ (s.station.records.get r).failures + 1) :
    failedOutcome r s = s.onRecord r fun x => { x with failures := x.failures + 1 } := by
  rcases live with state | state <;> simp only [failedOutcome, state, if_neg within]

theorem lossOf_records (r : Role) (s : State) : (lossOf r s).station.records = s.station.records := by simp

theorem failedOutcome_records (r : Role) (s : State) :
    (failedOutcome r s).station.records
      = s.station.records.set r (failedRecord (s.par .stationWatchdog).toNat (s.station.records.get r)) := by
  have counted (live : (s.station.records.get r).state = .unknown ∨ (s.station.records.get r).state = .present) :
      (failedOutcome r s).station.records
        = s.station.records.set r (failedRecord (s.par .stationWatchdog).toNat (s.station.records.get r)) := by
    rw [failedRecord_live live]
    by_cases reached : (s.par .stationWatchdog).toNat ≤ (s.station.records.get r).failures + 1
    · rw [failedOutcome_lost live reached, if_pos reached]
      exact lossOf_records r (lostRole r s)
    · rw [failedOutcome_counted live reached, if_neg reached]
      rfl
  cases state : (s.station.records.get r).state with
  | unknown => exact counted (.inl state)
  | present => exact counted (.inr state)
  | lost => simp only [failedOutcome, failedRecord, state] <;> rfl
  | absent => simp only [failedOutcome, failedRecord, state, Roles.set_self]

theorem goodOutcome_records {r : Role} {s : State} (here : (s.station.records.get r).state ≠ .absent) :
    (goodOutcome r s).station.records = s.station.records.set r ⟨.present, 0⟩ := by
  cases state : (s.station.records.get r).state with
  | absent => exact absurd state here
  | present => simp only [goodOutcome, state] <;> rfl
  | unknown => simp only [goodOutcome, state] <;> rfl
  | lost => simp only [goodOutcome, state] <;> rfl

/-! ## Which outcome the watchdog counts as good (R156, R159) -/

/-- The outcome of an answer: an ACK that fits, a NAK with its code, or a failure; and which the answer is. -/
theorem judgeAnswer_cases (x : Txn) (a : Answer) :
    let sound := a.check = crc16 (a.addr :: a.kind :: a.payload) ∧ a.addr.toNat = x.addr
    (sound ∧ a.kind = kindCode x.kind ∧ ackPayloadOk x a.payload = true ∧ judgeAnswer x a = .ack a.payload)
    ∨ (sound ∧ a.kind = kindCode x.kind + 0x80 ∧ a.payload.length = 1 ∧ ∃ c, judgeAnswer x a = .nak c)
    ∨ (¬(sound ∧ (a.kind = kindCode x.kind ∧ ackPayloadOk x a.payload = true
        ∨ a.kind = kindCode x.kind + 0x80 ∧ a.payload.length = 1)) ∧ judgeAnswer x a = .badAnswer) := by
  intro sound
  have isSound : answerSound x a = true ↔ sound := answerSound_iff x a
  by_cases right : sound
  · by_cases same : a.kind = kindCode x.kind
    · by_cases fits : ackPayloadOk x a.payload = true
      · exact .inl ⟨right, same, fits, judgeAnswer_ack x a (isSound.mpr right) same fits⟩
      · exact .inr (.inr ⟨by simp [same, fits], judgeAnswer_unfit same (by simpa using fits)⟩)
    · by_cases nak : a.kind = kindCode x.kind + 0x80
      · by_cases one : a.payload.length = 1
        · obtain ⟨c, payload⟩ := List.length_eq_one_iff.mp one
          exact .inr (.inl ⟨right, nak, one, c, judgeAnswer_nak x a c (isSound.mpr right) nak payload⟩)
        · exact .inr (.inr ⟨by tauto, judgeAnswer_longNak nak one⟩)
      · exact .inr (.inr ⟨by tauto, judgeAnswer_bad x a (.inr ⟨same, nak⟩)⟩)
  · have wrong : answerSound x a = false := Bool.eq_false_iff.mpr fun h => right (isSound.mp h)
    exact .inr (.inr ⟨fun h => right h.1, by simp [judgeAnswer, wrong]⟩)

/-- With no request waiting, what follows an outcome leaves the records as the outcome's watchdog left them. -/
theorem runLink_settleAll {x : Txn} {o : TxnOutcome} {before w : State} {lost : Bool} (none : w.link.requests = []) :
    let t := runLink (settleAll before (ownerOutcome x lost o w))
    t.station.records = w.station.records ∧ t.params = w.params ∧ t.web = w.web ∧ t.pins = w.pins := by
  intro t
  have link : t = startTx (settleAll before (ownerOutcome x lost o w)) := runLink_empty _ (by simp [settleAll, none])
  rw [link]
  simp [settleAll]

/-- What a LOST role's loss brings (R164). -/
theorem lossOf_states (r : Role) (lost : State) :
    let t := lossOf r lost
    (r = .laminator ∨ r = .trim →
      (lost.motion.line = .running → t = raiseHold .station lost ∧ t.motion.line = .holding ∧ t.motion.holds.station = true)
      ∧ (lost.motion.line ≠ .running → t = lost))
    ∧ (r = .beam →
      (∀ l g, lost.beam.changeover = .moving l g → t = raiseHold .beam
          { lost with beam := { lost.beam with changeover := .failed l g, timer := none } }
        ∧ (lost.motion.line ≠ .idle → t.motion.holds.beam = true))
      ∧ ((∀ l g, lost.beam.changeover ≠ .moving l g) → t = lost))
    ∧ (r = .unwind → t = { lost with station := { lost.station with spliceRecord := none } }) := by
  intro t
  refine ⟨fun role => ?_, ?_, ?_⟩
  · have loss : t = if lost.motion.line = .running then raiseHold .station lost else lost := by
      rcases role with rfl | rfl <;> rfl
    rw [loss]
    refine ⟨fun run => ?_, fun still => if_neg still⟩
    rw [if_pos run]
    exact ⟨rfl, raiseHold_of_running .station run, raiseHold_has .station (by rw [run]; decide)⟩
  · rintro rfl
    refine ⟨fun l g moving => ?_, fun still => failChangeover_other still⟩
    have failed : t = _ := failChangeover_moving moving
    exact ⟨failed, fun busy => by rw [failed]; exact raiseHold_has .beam busy⟩
  · rintro rfl
    rfl

/-- Settles O35: the outcome feeds the watchdog first and then its owner; a role that becomes LOST has its consequence. -/
theorem stationOutcomeFeedsWatchdog : Obligations.StationOutcomeFeedsWatchdog := by
  refine ⟨fun x r s inFlight at_ here => ?_, fun r s live reached => ?_⟩
  · intro w failed v
    let z : State := { s with station := { s.station with inFlight := none } }
    have failedRecords : v.station.records = failed := by
      refine (failedOutcome_records r z).trans ?_
      change s.station.records.set r (failedRecord w (s.station.records.get r)) = failed
      congr 1
      by_cases lost : (s.station.records.get r).state = .lost
      · simp [failedRecord, lost]
      · rw [failedRecord_live (by cases state : (s.station.records.get r).state <;> simp_all)]
        simp [lost]
    have quiet (u : State) (same : u.link.requests = s.link.requests) (empty : s.link.requests = []) : u.link.requests = [] :=
      same.trans empty
    have fails (o : TxnOutcome) (bad : watchdog x o z = failedOutcome r z) :
        takeOutcome x o s = ownerOutcome x (s.lostAt x.addr) o v := by
      change ownerOutcome x (s.lostAt x.addr) o (watchdog x o z) = _
      rw [bad]
    have atZ : z.roleAt x.addr = some r := at_
    have timeout : exec .replyTimeout s = .next (runLink (settleAll s (ownerOutcome x (s.lostAt x.addr) .noAnswer v))) := by
      rw [exec_replyTimeout inFlight, fails .noAnswer (by simp only [watchdog, atZ])]
    refine ⟨timeout, fun empty => ?_, fun a => ?_⟩
    · obtain ⟨records, params, web, pins⟩ := runLink_settleAll (x := x) (o := .noAnswer) (before := s) (w := v)
        (lost := s.lostAt x.addr) (quiet v (by simp [v]) empty)
      exact ⟨_, timeout, records.trans failedRecords, params.trans (by simp [v]), web.trans (by simp [v]), pins.trans (by simp [v])⟩
    · intro sound acked naked
      have run := exec_stationAnswer inFlight a
      have bad (unsound : ¬(sound ∧ (acked ∨ naked))) :
          (judgeAnswer x a = .badAnswer ∨ ∃ c, judgeAnswer x a = .nak c) ∧ watchdog x (judgeAnswer x a) z = failedOutcome r z := by
        rcases judgeAnswer_cases x a with ⟨right, kind, fits, -⟩ | ⟨right, kind, one, c, nak⟩ | ⟨-, bad⟩
        · exact absurd ⟨right, .inl ⟨kind, fits⟩⟩ unsound
        · have poll : x.kind = .poll := by
            by_contra other
            exact unsound ⟨right, .inr ⟨kind, one, other⟩⟩
          exact ⟨.inr ⟨c, nak⟩, by simp only [watchdog, atZ, nak, poll]⟩
        · exact ⟨.inl bad, by simp only [watchdog, atZ, bad]⟩
      have good (fine : sound ∧ (acked ∨ naked)) : watchdog x (judgeAnswer x a) z = goodOutcome r z := by
        rcases judgeAnswer_cases x a with ⟨-, -, -, ack⟩ | ⟨-, kind, one, c, nak⟩ | ⟨wrong, -⟩
        · simp only [watchdog, atZ, ack]
        · have noPoll : x.kind ≠ .poll := by
            rcases fine.2 with ⟨same, -⟩ | ⟨-, -, other⟩
            · exact absurd (kind.symm.trans same) (kindCode_ne_nak x.kind)
            · exact other
          cases other : x.kind with
          | poll => exact absurd other noPoll
          | write => simp only [watchdog, atZ, nak, other]
          | read => simp only [watchdog, atZ, nak, other]
        · exact absurd ⟨fine.1, fine.2.imp id fun h => ⟨h.1, h.2.1⟩⟩ wrong
      refine ⟨fun unsound => ?_, fun empty => ?_⟩
      · obtain ⟨outcome, watched⟩ := bad unsound
        exact ⟨_, outcome, by rw [run, fails _ watched]⟩
      · have after := runLink_settleAll (x := x) (o := judgeAnswer x a) (before := s) (w := watchdog x (judgeAnswer x a) z)
          (lost := s.lostAt x.addr) (quiet _ (by simp [z]) empty)
        obtain ⟨records, params, web, pins⟩ := after
        refine ⟨_, run, params.trans (by simp [z]), web.trans (by simp [z]), pins.trans (by simp [z]), fun fine => ?_, fun unsound => ?_⟩
        · exact records.trans (by rw [good fine]; exact goodOutcome_records here)
        · exact records.trans (by rw [(bad unsound).2]; exact failedRecords)
  · intro lost t
    have loss : t = lossOf r lost := failedOutcome_lost live reached
    rw [loss]
    exact lossOf_states r lost

end Sys2Proof.Machine
end

section
/-! PROOFS. A POLL_DUE (R157, R158): what joins the due polls, and what the arbiter then sends. -/
namespace Sys2Proof.Machine

/-! ## Operations that add line actions only -/

/-- Of the station link the action list alone may have grown at its tail, and the parameters are the same. -/
def ActionsOnly (s t : State) : Prop :=
  t.params = s.params ∧ ∃ more, t.station = { s.station with actions := s.station.actions ++ more }

theorem ActionsOnly.same {s t : State} (params : t.params = s.params) (station : t.station = s.station) : ActionsOnly s t :=
  ⟨params, [], by rw [List.append_nil]; exact station⟩

theorem ActionsOnly.refl (s : State) : ActionsOnly s s := .same rfl rfl

theorem ActionsOnly.trans {s t u : State} (first : ActionsOnly s t) (second : ActionsOnly t u) : ActionsOnly s u := by
  obtain ⟨params, l, station⟩ := first
  obtain ⟨params', l', station'⟩ := second
  exact ⟨params'.trans params, l ++ l', by rw [station', station, List.append_assoc]⟩

theorem ActionsOnly.actions {s t : State} (only : ActionsOnly s t) : ∃ more, t.station.actions = s.station.actions ++ more := by
  obtain ⟨-, l, station⟩ := only
  exact ⟨l, by rw [station]⟩

theorem ActionsOnly.due {s t : State} (only : ActionsOnly s t) : t.station.due = s.station.due := by
  obtain ⟨-, l, station⟩ := only
  rw [station]

theorem ActionsOnly.inFlight {s t : State} (only : ActionsOnly s t) : t.station.inFlight = s.station.inFlight := by
  obtain ⟨-, l, station⟩ := only
  rw [station]

theorem ActionsOnly.roleAddr {s t : State} (only : ActionsOnly s t) (r : Role) : t.roleAddr r = s.roleAddr r := by
  unfold State.roleAddr State.par
  rw [only.1]

theorem pushAction_only (a : Action) (s : State) : ActionsOnly s (pushAction a s).1 := by
  unfold pushAction
  split
  · exact ⟨rfl, _, rfl⟩
  · exact .refl s

theorem pushAction_length (a : Action) (s : State) :
    (pushAction a s).1.station.actions.length ≤ s.station.actions.length + 1 := by
  unfold pushAction
  split
  · exact Nat.le_of_eq (by simp [State.onStation])
  · exact Nat.le_succ _

/-- Of a commanded speed of 0 only its own action joins the list (R146). -/
theorem commandSpeed_stop {s : State} (stop : s.wantedSpeed = 0) :
    ActionsOnly s (commandSpeed s).1 ∧ (commandSpeed s).1.station.actions.length ≤ s.station.actions.length + 1 := by
  unfold commandSpeed
  split
  · exact ⟨.refl s, Nat.le_succ _⟩
  · rw [if_neg (fun runs => runs.1 stop)]
    exact ⟨(ActionsOnly.same rfl rfl).trans (pushAction_only _ _), pushAction_length _ _⟩

theorem stationIfFailed_station (sf : State × Bool) : (stationIfFailed sf).station = sf.1.station
    ∧ (stationIfFailed sf).params = sf.1.params := by
  unfold stationIfFailed
  split <;> simp

theorem enterHolding_actions (s : State) :
    ActionsOnly s (enterHolding s) ∧ (enterHolding s).station.actions.length ≤ s.station.actions.length + 1 := by
  have stop : (queueLine .state (s.onMotion fun m => { m with line := .holding })).wantedSpeed = 0 := by
    unfold State.wantedSpeed
    simp
  obtain ⟨only, length⟩ := commandSpeed_stop stop
  obtain ⟨station, params⟩ := stationIfFailed_station
    (commandSpeed (queueLine .state (s.onMotion fun m => { m with line := .holding })))
  unfold enterHolding
  refine ⟨((ActionsOnly.same (by simp) (by simp)).trans only).trans (.same params station), ?_⟩
  rw [station]
  simpa using length

/-- The actions waiting, and one more that a RUNNING line brings when it stops. -/
def actionWork (s : State) : Nat := s.station.actions.length + if s.motion.line = .running then 1 else 0

theorem raiseHold_actions (r : HoldReason) (s : State) :
    ActionsOnly s (raiseHold r s) ∧ actionWork (raiseHold r s) ≤ actionWork s := by
  by_cases run : s.motion.line = .running
  · obtain ⟨only, length⟩ := enterHolding_actions (s.onMotion fun m => { m with holds := m.holds.add r })
    have raised : raiseHold r s = enterHolding (s.onMotion fun m => { m with holds := m.holds.add r }) := by
      simp only [raiseHold, run]
    have line : (raiseHold r s).motion.line ≠ .running := raiseHold_not_running r s
    rw [raised] at line ⊢
    refine ⟨(ActionsOnly.same rfl rfl).trans only, ?_⟩
    rw [actionWork, actionWork, if_neg line, if_pos run]
    exact length
  · have station : (raiseHold r s).station = s.station := by
      unfold raiseHold
      split
      · rfl
      · next running => exact absurd running run
      all_goals simp
    refine ⟨.same (by simp) station, ?_⟩
    rw [actionWork, actionWork, if_neg run, if_neg (raiseHold_not_running r s), station]

theorem failChangeover_actions (s : State) :
    ActionsOnly s (failChangeover s) ∧ actionWork (failChangeover s) ≤ actionWork s := by
  unfold failChangeover
  split
  · next l g _ => exact raiseHold_actions .beam (s.onBeam fun b => { b with changeover := .failed l g, timer := none })
  all_goals exact ⟨.refl s, le_refl _⟩

theorem actionFailed_actions (a : Action) (s : State) :
    ActionsOnly s (actionFailed a s) ∧ actionWork (actionFailed a s) ≤ actionWork s := by
  unfold actionFailed beamActionFailed
  split
  · exact raiseHold_actions _ _
  · exact raiseHold_actions _ _
  all_goals
    split
    · exact failChangeover_actions s
    · exact ⟨.refl s, le_refl _⟩

theorem startMove_actions (l : Layout) (g : Int) (s : State) :
    ActionsOnly s (startMove l g s) ∧ actionWork (startMove l g s) ≤ actionWork s + 1 := by
  unfold startMove beamActionPushed
  dsimp only
  generalize same : (s.onBeam fun b => { b with changeover := .moving l g, timer := none, move := b.move + 1 }) = u
  have only : ActionsOnly s u := same ▸ .same rfl rfl
  have work : actionWork u = actionWork s := by rw [← same]; rfl
  rw [← work]
  have pushed := only.trans (pushAction_only (.positions u.beam.move l) u)
  have length : actionWork (pushAction (.positions u.beam.move l) u).1 ≤ actionWork u + 1 := by
    have := pushAction_length (.positions u.beam.move l) u
    have motion : (pushAction (.positions u.beam.move l) u).1.motion = u.motion := by simp
    rw [actionWork, actionWork, motion]
    omega
  split
  · obtain ⟨failed, fewer⟩ := failChangeover_actions (pushAction (.positions u.beam.move l) u).1
    exact ⟨pushed.trans failed, fewer.trans length⟩
  · exact ⟨pushed, length⟩

theorem judgeTrigger_actions (s : State) :
    ActionsOnly s (judgeTrigger s) ∧ actionWork (judgeTrigger s) ≤ actionWork s + 1 := by
  unfold judgeTrigger
  split
  · split
    · next l _ _ =>
      dsimp only
      generalize same : ((syncEyes (s.onBeam fun b => { b with changeover := .moving l (s.triggerGuard l) })).mapReg fun _ =>
        LaneReg.blinded) = u
      obtain ⟨only, work⟩ := startMove_actions l (s.triggerGuard l) u
      have station : u.station = s.station := by simp [← same]
      have motion : u.motion = s.motion := by simp [← same]
      refine ⟨(ActionsOnly.same (by simp [← same]) station).trans only, ?_⟩
      have : actionWork u = actionWork s := by rw [actionWork, actionWork, station, motion]
      rwa [this] at work
    · exact ⟨.refl s, Nat.le_succ _⟩
  all_goals exact ⟨.refl s, Nat.le_succ _⟩

theorem judgeTrigger_other {s : State} (quiet : ∀ l, s.beam.changeover ≠ .pending l) : judgeTrigger s = s := by
  unfold judgeTrigger
  split
  · next pending => exact absurd pending (quiet _)
  all_goals rfl

theorem endHolding_actions (s : State) :
    ActionsOnly s (endHolding s) ∧ (endHolding s).station.actions.length ≤ s.station.actions.length + 1 := by
  have nip : ActionsOnly s (stationIfFailed (openNip s))
      ∧ (stationIfFailed (openNip s)).station.actions.length ≤ s.station.actions.length + 1 := by
    obtain ⟨station, params⟩ := stationIfFailed_station (openNip s)
    rw [station]
    have pushed : ActionsOnly s (openNip s).1 := (ActionsOnly.same rfl rfl).trans (pushAction_only _ _)
    exact ⟨pushed.trans (.same params station), pushAction_length _ _⟩
  unfold endHolding
  split
  · split
    · obtain ⟨only, length⟩ := nip
      refine ⟨only.trans (.same (by simp [jobEndStop]) (by simp [jobEndStop])), ?_⟩
      simpa [jobEndStop] using length
    · exact ⟨.same (by simp) (by simp), by simp⟩
  · exact ⟨.refl s, Nat.le_succ _⟩

theorem endHolding_not_running {s : State} (holding : s.motion.line = .holding) : (endHolding s).motion.line ≠ .running := by
  unfold endHolding
  split
  · split <;> simp [jobEndStop]
  · simp [holding]

theorem reactMotion_actions (before s : State) :
    ActionsOnly s (reactMotion before s) ∧ actionWork (reactMotion before s) ≤ actionWork s + 1 := by
  unfold reactMotion
  split
  · split
    · exact ⟨.same (by simp) (by simp), by simp [actionWork]⟩
    · exact ⟨.refl s, Nat.le_succ _⟩
  · next holding =>
    obtain ⟨only, length⟩ := endHolding_actions
      (judgeHolding (before.motion.line != .holding) (before.headKey != s.headKey) s)
    refine ⟨(ActionsOnly.same (by simp) (by simp)).trans only, ?_⟩
    rw [actionWork, actionWork, if_neg (endHolding_not_running (by simpa using holding)), if_neg (by simp [holding])]
    simpa using length
  all_goals exact ⟨.refl s, Nat.le_succ _⟩

theorem reactMotion_station_of_not_holding (before : State) {s : State} (other : s.motion.line ≠ .holding) :
    (reactMotion before s).station = s.station := by
  unfold reactMotion
  split
  · split <;> simp
  · next holding => exact absurd holding other
  all_goals rfl

/-! ## What the arbiter sends when a poll is due (R157) -/

/-- The poll of a role, as it is sent (R157, R158). -/
def pollTxn (r : Role) (s : State) : Txn := ⟨s.roleAddr r, .poll r, .poll, [], 0, (s.par .replyTimeout).toNat⟩

theorem ActionsOnly.pollTxn {s t : State} (only : ActionsOnly s t) (r : Role) : pollTxn r t = pollTxn r s := by
  simp only [Machine.pollTxn, State.roleAddr, State.par, only.1]

/-- With one poll due, the arbiter sends it, or an action before it whose role has an address. -/
theorem arbiter_one_due {r : Role} (k : Nat) {s : State} (free : s.station.inFlight = none) (due : s.station.due = [r])
    (enough : actionWork s < k) :
    ((arbiter k s).station.inFlight = some (pollTxn r s) ∧ (arbiter k s).station.due = [])
    ∨ ((arbiter k s).station.due = [r] ∧ ∃ y a, (arbiter k s).station.inFlight = some y ∧ y.owner = .action a ∧ y.addr ≠ 0) := by
  induction k generalizing s with
  | zero => omega
  | succ k ih =>
    cases actions : s.station.actions with
    | nil =>
      rw [arbiter_poll k free actions due]
      exact .inl ⟨rfl, rfl⟩
    | cons a rest =>
      rw [arbiter_action k free actions]
      split
      · let u := s.onStation fun x => { x with actions := rest }
        obtain ⟨only, work⟩ := actionFailed_actions a u
        have fewer : actionWork u + 1 = actionWork s := by
          simp only [actionWork, u, actions, List.length_cons]
          change rest.length + (if s.motion.line = .running then 1 else 0) + 1 = _
          omega
        rw [show pollTxn r s = pollTxn r u from rfl, ← only.pollTxn r]
        exact ih (only.inFlight.trans free) (only.due.trans due) (Nat.lt_of_le_of_lt work (by omega))
      · next present => exact .inr ⟨due, _, a, rfl, rfl, present⟩

/-- While a transaction is in flight, what follows a command leaves the due polls (R157). -/
theorem settle_due_of_busy (before : State) {s : State} (busy : s.station.inFlight ≠ none) :
    (settle before s).station.due = s.station.due ∧ (settle before s).station.inFlight = s.station.inFlight := by
  have triggered := (judgeTrigger_actions s).1
  have reacted := (reactMotion_actions before (judgeTrigger s)).1
  have first := triggered.trans reacted
  have still : runArbiter (reactMotion before (judgeTrigger s)) = reactMotion before (judgeTrigger s) :=
    runArbiter_busy (by rw [first.inFlight]; exact busy)
  have again := (reactMotion_actions (reactMotion before (judgeTrigger s)) (reactMotion before (judgeTrigger s))).1
  have all := first.trans again
  unfold settle
  dsimp only
  rw [still, runArbiter_busy (by rw [all.inFlight]; exact busy)]
  exact ⟨all.due, all.inFlight⟩

theorem settle_of_sent {before s : State} {y : Txn}
    (sent : (runArbiter (reactMotion before (judgeTrigger s))).station.inFlight = some y) :
    (settle before s).station.inFlight = some y
      ∧ (settle before s).station.due = (runArbiter (reactMotion before (judgeTrigger s))).station.due := by
  have again := (reactMotion_actions (reactMotion before (judgeTrigger s)) (runArbiter (reactMotion before (judgeTrigger s)))).1
  unfold settle
  dsimp only
  rw [runArbiter_busy (by rw [again.inFlight, sent]; simp)]
  exact ⟨again.inFlight.trans sent, again.due⟩

/-! ## POLL_DUE -/

theorem exec_pollDue (r : Role) (s : State) : exec (.pollDue r) s = .next (startTx (settle s (fallDue r s))) := rfl

theorem lossOf_due (r : Role) (s : State) : (lossOf r s).station.due = s.station.due := by
  unfold lossOf
  split
  · split
    · exact (raiseHold_actions _ _).1.due
    · rfl
  · split
    · exact (raiseHold_actions _ _).1.due
    · rfl
  · exact (failChangeover_actions s).1.due
  · rfl

theorem failedOutcome_due (r : Role) (s : State) : (failedOutcome r s).station.due = s.station.due := by
  by_cases live : (s.station.records.get r).state = .unknown ∨ (s.station.records.get r).state = .present
  · by_cases reached : (s.par .stationWatchdog).toNat ≤ (s.station.records.get r).failures + 1
    · rw [failedOutcome_lost live reached, lossOf_due]
      rfl
    · rw [failedOutcome_counted live reached]
      rfl
  · cases state : (s.station.records.get r).state with
    | unknown => exact absurd (.inl state) live
    | present => exact absurd (.inr state) live
    | lost => simp only [failedOutcome, state] <;> rfl
    | absent => simp only [failedOutcome, state]

theorem fallDue_absent {r : Role} {s : State} (absent : s.roleAddr r = 0) : fallDue r s = s := if_pos absent

/-- A role that falls due: the poll still waiting for it is removed and counts as a failure, and the new one joins (R158). -/
theorem fallDue_present {r : Role} {s : State} (present : s.roleAddr r ≠ 0) :
    (fallDue r s).station.due = s.station.due.filter (fun a => a != r) ++ [r]
      ∧ (fallDue r s).station.records = if r ∈ s.station.due then
          s.station.records.set r (failedRecord (s.par .stationWatchdog).toNat (s.station.records.get r)) else s.station.records := by
  unfold fallDue
  rw [if_neg present]
  by_cases waits : r ∈ s.station.due
  · rw [if_pos (List.contains_iff_mem.mpr waits), if_pos waits]
    refine ⟨?_, ?_⟩
    · change (failedOutcome r _).station.due ++ [r] = _
      rw [failedOutcome_due]
      rfl
    · change (failedOutcome r _).station.records = _
      rw [failedOutcome_records]
      rfl
  · rw [if_neg (fun h => waits (List.contains_iff_mem.mp h)), if_neg waits]
    refine ⟨?_, rfl⟩
    change s.station.due ++ [r] = _
    rw [List.filter_eq_self.mpr fun a mem => by simpa using fun same : a = r => waits (same ▸ mem)]

/-- The failed record written with its three cases. -/
theorem failedRecord_eq (w : Nat) (x : StationRecord) :
    failedRecord w x = match x.state with
      | .unknown | .present => if w ≤ x.failures + 1 then ⟨.lost, w⟩ else ⟨x.state, x.failures + 1⟩
      | .lost => ⟨.lost, w⟩
      | .absent => x := by
  cases state : x.state <;> simp [failedRecord, state]

/-- Settles O34: the four states of the link in which a role falls due. -/
theorem pollFallsDue : Obligations.PollFallsDue := by
  intro r s x w poll
  refine ⟨fun absent => ?_, fun absent busy => ?_, fun present busy => ?_, fun present free actions due => ?_⟩
  · rw [exec_pollDue, fallDue_absent absent]
  · refine ⟨_, exec_pollDue r s, ?_⟩
    rw [fallDue_absent absent]
    exact ⟨by simpa using (settle_due_of_busy s busy).1, by simp⟩
  · have still : (fallDue r s).station.inFlight = s.station.inFlight := by simp
    obtain ⟨dueNow, records⟩ := fallDue_present present
    obtain ⟨dueKept, flight⟩ := settle_due_of_busy s (s := fallDue r s) (by rw [still]; exact busy)
    refine ⟨_, exec_pollDue r s, ?_, ?_, ?_⟩
    · simpa using dueKept.trans dueNow
    · simpa using flight.trans still
    · rw [failedRecord_eq] at records
      simp only [startTx_frame, settle_frame]
      exact records.trans (by rfl)
  · have fell : fallDue r s = { s with station := { s.station with due := [r] } } := by
      unfold fallDue
      rw [if_neg present, if_neg (by simp [due])]
      simp [State.onStation, due]
    refine ⟨_, exec_pollDue r s, ?_⟩
    rw [fell]
    generalize same : ({ s with station := { s.station with due := [r] } } : State) = u
    have free' : u.station.inFlight = none := by rw [← same]; exact free
    have due' : u.station.due = [r] := by rw [← same]
    have work : actionWork u ≤ 1 := by
      rw [actionWork, ← same]
      simp only [actions, List.length_nil]
      split <;> omega
    have pollSame : pollTxn r u = poll := by rw [← same]; rfl
    obtain ⟨triggered, work1⟩ := judgeTrigger_actions u
    obtain ⟨reacted, work2⟩ := reactMotion_actions s (judgeTrigger u)
    have first := triggered.trans reacted
    have sent := arbiter_one_due (r := r) 40 (first.inFlight.trans free') (first.due.trans due') (by omega)
    rw [first.pollTxn r, pollSame] at sent
    simp only [startTx_frame, settle_frame]
    refine ⟨by rw [← same], fun line quiet => ?_, ?_⟩
    · have plain : judgeTrigger u = u := judgeTrigger_other (by rw [← same]; exact quiet)
      have station : (reactMotion s (judgeTrigger u)).station = u.station := by
        rw [plain]
        exact reactMotion_station_of_not_holding s (by rw [← same]; exact line)
      have direct : (runArbiter (reactMotion s (judgeTrigger u))).station.inFlight = some poll
          ∧ (runArbiter (reactMotion s (judgeTrigger u))).station.due = [] := by
        rw [← pollSame, ← first.pollTxn r]
        rw [runArbiter, arbiter_poll 39 (by rw [station]; exact free') (by rw [station, ← same]; exact actions)
          (by rw [station]; exact due')]
        exact ⟨rfl, rfl⟩
      obtain ⟨flight, dueAfter⟩ := settle_of_sent direct.1
      exact ⟨flight, dueAfter.trans direct.2⟩
    · rcases sent with ⟨flight, none⟩ | ⟨kept, y, a, flight, owner, addr⟩
      · obtain ⟨flight', dueAfter⟩ := settle_of_sent flight
        exact .inl ⟨flight', dueAfter.trans none⟩
      · obtain ⟨flight', dueAfter⟩ := settle_of_sent flight
        exact .inr ⟨dueAfter.trans kept, y, a, flight', owner, addr⟩

end Sys2Proof.Machine
end

section
/-! PROOFS. Registration raises hold reasons at most (R55, R36): what it leaves of the motion and of the station link. -/
namespace Sys2Proof.Machine

/-- From s to t hold reasons may have been raised, with the line actions of a line that stops, and no more of the motion and of
the station link has changed. -/
structure Raises (s t : State) : Prop extends HoldsRise s t where
  only : ActionsOnly s t

theorem Raises.same {s t : State} (motion : t.motion = s.motion) (station : t.station = s.station) (params : t.params = s.params) :
    Raises s t := ⟨.same motion, .same params station⟩

theorem Raises.refl (s : State) : Raises s s := .same rfl rfl rfl

theorem Raises.trans {s t u : State} (first : Raises s t) (second : Raises t u) : Raises s u :=
  ⟨first.toHoldsRise.trans second.toHoldsRise, first.only.trans second.only⟩

theorem raiseHold_raises (r : HoldReason) (s : State) : Raises s (raiseHold r s) :=
  ⟨raiseHold_rise r s, (raiseHold_actions r s).1⟩

theorem starvationCheck_raises (parts : Lanes (Option LanePart)) (s : State) : Raises s (starvationCheck parts s) := by
  unfold starvationCheck
  split
  · exact raiseHold_raises _ _
  · exact .refl _

theorem lockEntry_raises (x : Entry) (s : State) : Raises s (lockEntry x s) := by
  unfold lockEntry
  exact (Raises.same (by simp [forLanes]) (by simp [forLanes]) (by simp [forLanes])).trans (starvationCheck_raises _ _)

theorem lockDue_raises (k : Nat) (s : State) : Raises s (lockDue k s) := by
  induction k generalizing s with
  | zero => exact .refl _
  | succ k ih =>
    unfold lockDue
    split
    · exact (lockEntry_raises _ _).trans (ih _)
    · exact .refl _

theorem judgeLocks_raises (s : State) : Raises s (judgeLocks s) := lockDue_raises _ s

theorem createEntry_raises (n : Lane) (p : LanePart) (x : Int) (s : State) : Raises s (createEntry n p x s) :=
  (Raises.same (by simp) (by simp) (by simp)).trans (judgeLocks_raises _)

theorem moveEntry_raises (e : Entry) (x : Int) (f : Lanes (Option LanePart) → Lanes (Option LanePart)) (s : State) :
    Raises s (moveEntry e x f s) :=
  (Raises.same (by simp) (by simp) (by simp)).trans (judgeLocks_raises _)

theorem startReport_raises (n : Lane) (p : Ctx) (m : Int) (first : Bool) (s : State) :
    Raises s (startReport n p m first s) := by
  unfold startReport
  dsimp only
  generalize (if p.lead > 0 ∨ first = true then none else s.sharedEntry n p.src) = shared
  cases shared with
  | none => exact createEntry_raises _ _ _ _
  | some e =>
    dsimp only
    split
    · exact moveEntry_raises _ _ _ _
    · exact .same (by simp) (by simp) (by simp)

/-- The first step of an END report: its entry is created or moved (R104). -/
def placeEnd (n : Lane) (p : Source) (y : Int) (s : State) : State :=
  match ((s.ctx? n p).bind Ctx.endEntry).bind s.entry? with
  | none => if s.panelActive n p then createEntry n ⟨some p, none⟩ y s else s
  | some e => if e.status = .provisional then moveEntry e y id s else s

theorem endReport_eq (n : Lane) (p : Source) (y : Int) (s : State) :
    endReport n p y s = match ((placeEnd n p y s).ctx? n p).bind Ctx.endTarget with
      | some t => setEnd n t (placeEnd n p y s)
      | none => placeEnd n p y s := rfl

theorem placeEnd_raises (n : Lane) (p : Source) (y : Int) (s : State) : Raises s (placeEnd n p y s) := by
  unfold placeEnd
  split
  · split
    · exact createEntry_raises _ _ _ _
    · exact .refl _
  · split
    · exact moveEntry_raises _ _ _ _
    · exact .refl _

theorem endReport_raises (n : Lane) (p : Source) (y : Int) (s : State) : Raises s (endReport n p y s) := by
  rw [endReport_eq]
  split
  · exact (placeEnd_raises n p y s).trans (.same (by simp) (by simp) (by simp))
  · exact placeEnd_raises _ _ _ _

theorem compareTag_raises (n : Lane) (p : Ctx) (rec : MarkRecord) (s : State) : Raises s (compareTag n p rec s) := by
  unfold compareTag
  split
  · split
    · split
      · exact (Raises.same (by simp) (by simp) (by simp)).trans (raiseHold_raises _ _)
      · exact .same (by simp) (by simp) (by simp)
    · exact .refl _
  · exact .refl _

theorem markEffects_raises (n : Lane) (p : Ctx) (how : How) (s : State) : Raises s (markEffects n p how s) := by
  unfold markEffects
  split
  · next rec =>
    dsimp only
    split
    · exact (compareTag_raises n p rec s).trans (.same (by simp) (by simp) (by simp))
    · exact compareTag_raises n p rec s
  all_goals exact .refl _

theorem countHow_raises (n : Lane) (x : Int) (how : How) (s : State) : Raises s (countHow n x how s) := .same (by simp) (by simp) (by simp)

theorem formPitch_raises (n : Lane) (s : State) : Raises s (formPitch n s) := .same (by simp) (by simp) (by simp)

theorem startPanel_raises (n : Lane) (p : Ctx) (m : Int) (how : How) (first : Bool) (s : State) :
    Raises s (startPanel n p m how first s) := by
  have begun : Raises s ((makeCurrent n p.src how s).onReg n fun r => { r with anchor := some ⟨m, 0, how.isObserved, p.src⟩ }) :=
    .same (by simp) (by simp) (by simp)
  have noted (u : State) : Raises u (u.onCtx n p.src fun c =>
      { c with notes := { c.notes with unverified := c.notes.unverified || unverifiedStart p how } }) := .same (by simp) (by simp) (by simp)
  have formed (u : State) : Raises u (formStart n u) := .same (by simp) (by simp) (by simp)
  exact ((((((begun.trans (countHow_raises n m how _)).trans (noted _)).trans (markEffects_raises n p how _)).trans
    (startReport_raises n p m first _)).trans (endReport_raises n p.src _ _)).trans (formPitch_raises n _)).trans (formed _)

theorem takePitch_raises (n : Lane) (p : Ctx) (k m : Int) (how : How) (s : State) : Raises s (takePitch n p k m how s) := by
  have anchored : Raises s ((sampleAt n p m how s).onReg n fun r =>
      { r with anchor := some ⟨m, k * p.pitch, how.isObserved, p.src⟩ }) := .same (by simp) (by simp) (by simp)
  exact (((anchored.trans (countHow_raises n m how _)).trans (markEffects_raises n p how _)).trans
    (endReport_raises n p.src _ _)).trans (formPitch_raises n _)

theorem passPitch_raises (n : Lane) (e : PitchExpect) (how : How) (s : State) : Raises s (passPitch n e how s) := by
  unfold passPitch
  split
  · exact takePitch_raises _ _ _ _ _ _
  · exact .same (by simp) (by simp) (by simp)

theorem dueSynth_raises {n : Lane} {s t : State} (due : dueSynth n s = some t) : Raises s t := by
  unfold dueSynth at due
  repeat' split at due
  · exact Option.some.inj due ▸ startPanel_raises _ _ _ _ _ _
  all_goals contradiction

theorem duePitch_raises {n : Lane} {s t : State} (due : duePitch n s = some t) : Raises s t := by
  unfold duePitch at due
  dsimp only at due
  repeat' split at due
  · contradiction
  · exact Option.some.inj due ▸ passPitch_raises _ _ _ _
  · exact Option.some.inj due ▸ passPitch_raises _ _ _ _
  all_goals contradiction

theorem dueStart_raises {n : Lane} {s t : State} (due : dueStart n s = some t) : Raises s t := by
  unfold dueStart at due
  dsimp only at due
  repeat' split at due
  · contradiction
  · exact Option.some.inj due ▸ startPanel_raises _ _ _ _ _ _
  · contradiction
  · contradiction
  · exact Option.some.inj due ▸ startPanel_raises _ _ _ _ _ _
  all_goals contradiction

theorem dueInLane_raises {n : Lane} {s t : State} (due : dueInLane n s = some t) : Raises s t := by
  have found : (((seekSynth n s = some t ∨ dueSynth n s = some t) ∨ dueForm n s = some t) ∨ duePitch n s = some t)
      ∨ dueStart n s = some t := by
    simp only [dueInLane, Option.or_eq_some_iff] at due
    tauto
  rcases found with (((found | found) | found) | found) | found
  · have kept := seekSynth_frame n s found
    exact .same (by simp [kept]) (by simp [kept]) (by simp [kept])
  · exact dueSynth_raises found
  · have kept := dueForm_frame n s found
    exact .same (by simp [kept]) (by simp [kept]) (by simp [kept])
  · exact duePitch_raises found
  · exact dueStart_raises found

theorem dueNext_raises {s t : State} (due : dueNext s = some t) : Raises s t := by
  have found : ∃ n, dueInLane n s = some t := by
    simp only [dueNext, Option.or_eq_some_iff] at due
    tauto
  obtain ⟨n, found⟩ := found
  exact dueInLane_raises found

theorem regDue_raises (k : Nat) (s : State) : Raises s (regDue k s) := by
  induction k generalizing s with
  | zero => exact .refl _
  | succ k ih =>
    unfold regDue
    split
    · next due => exact (dueNext_raises due).trans (ih _)
    · exact .refl _

theorem settleReg_raises (s : State) : Raises s (settleReg s) := regDue_raises 64 s

theorem settleAll_held {r : HoldReason} (before : State) {s : State} (held : Held r s) : Held r (settleAll before s) :=
  settle_held before (held.rise (settleReg_raises s).toHoldsRise)

end Sys2Proof.Machine
end

section
/-! PROOFS. What the station link keeps of its statuses while a command settles, and what the Plan Reader leaves of it. -/
namespace Sys2Proof.Machine

/-! ## The statuses -/

/-- The last statuses, the splice record and the roll-low flag are the same. -/
structure SameStatus (s t : State) : Prop where
  laminator : t.station.laminator = s.station.laminator
  beam : t.station.beam = s.station.beam
  unwind : t.station.unwind = s.station.unwind
  trim : t.station.trim = s.station.trim
  spliceRecord : t.station.spliceRecord = s.station.spliceRecord
  rollLow : t.station.rollLow = s.station.rollLow

theorem SameStatus.refl (s : State) : SameStatus s s := ⟨rfl, rfl, rfl, rfl, rfl, rfl⟩

theorem SameStatus.trans {s t u : State} (first : SameStatus s t) (second : SameStatus t u) : SameStatus s u :=
  ⟨second.laminator.trans first.laminator, second.beam.trans first.beam, second.unwind.trans first.unwind,
    second.trim.trans first.trim, second.spliceRecord.trans first.spliceRecord, second.rollLow.trans first.rollLow⟩

theorem ActionsOnly.status {s t : State} (only : ActionsOnly s t) : SameStatus s t := by
  obtain ⟨-, l, station⟩ := only
  constructor <;> rw [station]

theorem SameStatus.of_station {s t : State} (same : t.station = s.station) : SameStatus s t := by
  constructor <;> rw [same]

theorem arbiter_status (k : Nat) (s : State) : SameStatus s (arbiter k s) := by
  induction k generalizing s with
  | zero => exact .refl s
  | succ k ih =>
    unfold arbiter
    split
    · exact .refl s
    · split
      · next a rest _ =>
        have popped : SameStatus s (s.onStation fun x => { x with actions := rest }) := ⟨rfl, rfl, rfl, rfl, rfl, rfl⟩
        dsimp only
        split
        · exact popped.trans ((actionFailed_actions a _).1.status.trans (ih _))
        · exact ⟨rfl, rfl, rfl, rfl, rfl, rfl⟩
      · split
        · exact ⟨rfl, rfl, rfl, rfl, rfl, rfl⟩
        · split
          · exact ⟨rfl, rfl, rfl, rfl, rfl, rfl⟩
          · exact .refl s

theorem settle_status (before s : State) : SameStatus s (settle before s) :=
  (((judgeTrigger_actions s).1.trans (reactMotion_actions before _).1).status.trans
    ((arbiter_status 40 _).trans (reactMotion_actions _ _).1.status)).trans (arbiter_status 40 _)

theorem settleAll_status (before s : State) : SameStatus s (settleAll before s) :=
  (settleReg_raises s).only.status.trans (settle_status before _)

/-! ## The Beam Controller while a command settles -/

theorem actionFailed_beam_of_still (a : Action) {s : State} (still : ∀ l g, s.beam.changeover ≠ .moving l g) :
    (actionFailed a s).beam = s.beam := by
  unfold actionFailed beamActionFailed
  split
  · simp
  · simp
  all_goals
    split
    · rw [failChangeover_other still]
    · rfl

theorem arbiter_beam_of_still (k : Nat) {s : State} (still : ∀ l g, s.beam.changeover ≠ .moving l g) :
    (arbiter k s).beam = s.beam := by
  induction k generalizing s with
  | zero => rfl
  | succ k ih =>
    unfold arbiter
    split
    · rfl
    · split
      · next a rest _ =>
        dsimp only
        split
        · have failed := actionFailed_beam_of_still a (s := s.onStation fun x => { x with actions := rest }) still
          exact (ih (by rw [failed]; exact still)).trans failed
        · rfl
      · split
        · rfl
        · split <;> rfl

/-- With no changeover pending or in MOVING, what follows a command leaves the Beam Controller. -/
theorem settle_beam_of_quiet (before : State) {s : State} (settled : ∀ l, s.beam.changeover ≠ .pending l)
    (still : ∀ l g, s.beam.changeover ≠ .moving l g) : (settle before s).beam = s.beam := by
  have first : (runArbiter (reactMotion before s)).beam = s.beam :=
    (arbiter_beam_of_still 40 (by simpa using still)).trans (by simp)
  unfold settle
  dsimp only
  rw [judgeTrigger_other settled]
  refine (arbiter_beam_of_still 40 ?_).trans ((reactMotion_frame _ _).2.2.2.2.2.2.2.1.trans first)
  simpa [first] using still

/-! ## The Plan Reader and the station link -/

theorem examineJobEnd_only (s : State) : ActionsOnly s (examineJobEnd s) := by
  unfold examineJobEnd
  split
  · unfold signalJobEnd
    split
    · exact .refl s
    · exact (ActionsOnly.same rfl rfl).trans (enterHolding_actions _).1
    · exact (ActionsOnly.same rfl rfl).trans (enterHolding_actions _).1
    · exact (ActionsOnly.same rfl rfl).trans (enterHolding_actions _).1
    all_goals exact .same rfl rfl
  · exact .refl s

theorem needPage_only (s : State) : ActionsOnly s (needPage s) := .same (by simp) (by simp)

theorem recordRead_only (p : Fin 8) (slot : Nat) (s : State) : ActionsOnly s (recordRead p slot s) :=
  .same (by simp) (by simp)

theorem readPanel_only (p : Fin 8) (slot copy : Nat) (r : PanelRecord) (s : State) :
    ActionsOnly s (readPanel p slot copy r s) :=
  .same (by simp) (by simp)

theorem readRecord_only (p : Fin 8) (slot copy : Nat) (s : State) : ActionsOnly s (readRecord p slot copy s) := by
  unfold readRecord
  split
  · exact recordRead_only p slot s
  · split
    · exact readPanel_only p slot copy _ s
    · exact (ActionsOnly.same (by simp) (by simp)).trans (judgeTrigger_actions _).1
    · exact (ActionsOnly.same (by simp) (by simp)).trans (examineJobEnd_only _)
    · exact recordRead_only p slot s

theorem readLoop_only (k : Nat) (s : State) : ActionsOnly s (readLoop k s) := by
  induction k generalizing s with
  | zero => exact .refl s
  | succ k ih =>
    unfold readLoop
    split
    · exact (readRecord_only _ _ _ s).trans (ih _)
    all_goals exact .refl s

theorem readOn_only (s : State) : ActionsOnly s (readOn s) := readLoop_only 512 s

theorem layoutRead_only (s : State) : ActionsOnly s (layoutRead s) := by
  unfold layoutRead
  split
  · exact (recordRead_only _ _ s).trans (readOn_only _)
  all_goals exact .refl s

/-! ## The tables of the lanes -/

/-- Every registration record changed (R78, R79), lane by lane. -/
theorem mapReg_reg (s : State) (g : Lane → LaneReg → LaneReg) (n : Lane) : (s.mapReg g).reg.get n = g n (s.reg.get n) := by
  cases n <;> rfl

/-- The eye of a lane under the conditions of R40. -/
def syncedEye (active dark : Bool) (e : Eye) : Eye :=
  if active then (if e.decode = .off then Eye.activate dark e else e)
  else if e.decode = .off then e else Eye.deactivate e

theorem syncEye_eq (n : Lane) (s : State) :
    syncEye n s = s.onEye n (syncedEye (s.eyeActive n) (s.pins.eyeDark.get n)) := by
  have kept : s.onEye n (fun e => e) = s := by
    change { s with eyes := s.eyes.set n (s.eyes.get n) } = s
    rw [Lanes.set_get]
  unfold syncEye
  by_cases active : s.eyeActive n = true
  · rw [if_pos active]
    split
    · next off =>
      change ({ s with eyes := _ } : State) = { s with eyes := _ }
      simp only [syncedEye, active, if_true, off]
    · next on =>
      refine kept.symm.trans ?_
      change ({ s with eyes := _ } : State) = { s with eyes := _ }
      simp only [syncedEye, active, if_true, on, if_false]
  · rw [if_neg active]
    split
    · next off =>
      refine kept.symm.trans ?_
      change ({ s with eyes := _ } : State) = { s with eyes := _ }
      simp [syncedEye, active, off]
    · next on =>
      change ({ s with eyes := _ } : State) = { s with eyes := _ }
      simp [syncedEye, active, on]

theorem syncEyes_get (s : State) (n : Lane) :
    (syncEyes s).eyes.get n = syncedEye (s.eyeActive n) (s.pins.eyeDark.get n) (s.eyes.get n) := by
  simp only [syncEyes, forLanes, syncEye_eq]
  cases n <;> rfl

end Sys2Proof.Machine
end

section
/-! PROOFS. Good poll answers by role (R128 to R130, R160 to R163). -/
namespace Sys2Proof.Machine

theorem linkEvent_events {l : LineLink} (e : Event) (room : l.events.length < 32) : (linkEvent l e).events = l.events ++ [e] := by
  unfold linkEvent
  rw [if_pos (by simpa [eventMax] using room)]

theorem linkEvent_events_le (l : LineLink) (e : Event) : (linkEvent l e).events.length ≤ l.events.length + 1 := by
  unfold linkEvent
  split <;> simp

/-! ## The role answers again (R159) -/

/-- The state in which a poll's answer is taken: nothing in flight, and the role PRESENT. -/
def presentAgain (r : Role) (s : State) : State := goodOutcome r (s.onStation fun x => { x with inFlight := none })

theorem presentAgain_eq (r : Role) (s : State) :
    ∃ recs, presentAgain r s = { s with
      station := { s.station with inFlight := none, records := recs }
      link := if (s.station.records.get r).state = .unknown ∨ (s.station.records.get r).state = .lost
        then linkEvent s.link (.stationNotice .present r) else s.link } := by
  cases state : (s.station.records.get r).state with
  | unknown => exact ⟨s.station.records.set r ⟨.present, 0⟩, by
      simp only [presentAgain, goodOutcome, State.onStation, state, true_or, if_true] <;> rfl⟩
  | lost => exact ⟨s.station.records.set r ⟨.present, 0⟩, by
      simp only [presentAgain, goodOutcome, State.onStation, state, or_true, if_true] <;> rfl⟩
  | present => exact ⟨s.station.records.set r ⟨.present, 0⟩, by
      simp only [presentAgain, goodOutcome, State.onStation, state, reduceCtorEq, or_self, if_false] <;> rfl⟩
  | absent => exact ⟨s.station.records, by
      simp only [presentAgain, goodOutcome, State.onStation, state, reduceCtorEq, or_self, if_false]⟩

theorem presentAgain_events (r : Role) (s : State) : (presentAgain r s).link.events.length ≤ s.link.events.length + 1 := by
  obtain ⟨recs, again⟩ := presentAgain_eq r s
  rw [again]
  dsimp only
  split
  · exact linkEvent_events_le _ _
  · exact Nat.le_succ _

/-- A good answer to a poll is handed to the rule of its role (R158, R160 to R163). -/
theorem exec_pollAnswer {r : Role} {ms : Nat} {a : Answer} {s : State}
    (inFlight : s.station.inFlight = some ⟨s.roleAddr r, .poll r, .poll, [], 0, ms⟩)
    (at_ : s.roleAt (s.roleAddr r) = some r) (addr : a.addr.toNat = s.roleAddr r) (kind : a.kind = kindCode .poll)
    (check : a.check = crc16 (a.addr :: a.kind :: a.payload)) (fits : pollPayloadOk r a.payload = true) :
    exec (.stationAnswer a) s
      = .next (runLink (settleAll s (pollAnswer r (s.lostAt (s.roleAddr r)) a.payload (presentAgain r s)))) := by
  have ack : judgeAnswer ⟨s.roleAddr r, .poll r, .poll, [], 0, ms⟩ a = .ack a.payload :=
    judgeAnswer_ack _ a ((answerSound_iff _ a).mpr ⟨check, addr⟩) kind fits
  have atNow : (s.onStation fun x => { x with inFlight := none }).roleAt (s.roleAddr r) = some r := at_
  have params : (presentAgain r s).roleAddr r = s.roleAddr r := by
    obtain ⟨recs, again⟩ := presentAgain_eq r s
    rw [again]
    rfl
  rw [exec_stationAnswer inFlight, ack]
  have good : watchdog ⟨s.roleAddr r, .poll r, .poll, [], 0, ms⟩ (.ack a.payload) (s.onStation fun x => { x with inFlight := none })
      = presentAgain r s := by
    simp only [watchdog, atNow] <;> rfl
  simp only [takeOutcome, ownerOutcome, good, params, if_true]

/-! ## The laminator (R160) -/

/-- The two cases in which a laminator's answer holds a RUNNING line (R160). -/
def laminatorHolds (v : LaminatorStatus) (s : State) : Prop :=
  s.motion.line = .running ∧ ((v.heatReady = false ∨ v.fault = true)
    ∨ (s.motion.nip = .closed ∧ s.nipBusy = false ∧ v.nip = .opened))

theorem laminatorAnswer_status (v : LaminatorStatus) (s : State) : (laminatorAnswer v s).station.laminator = some v := by
  unfold laminatorAnswer
  dsimp only
  generalize same : (s.onStation fun x => { x with laminator := some v }) = u
  have status : u.station.laminator = some v := by rw [← same]; rfl
  have raised (w : State) : (raiseHold .laminatorNotReady w).station.laminator = w.station.laminator :=
    (raiseHold_actions _ w).1.status.laminator
  repeat' split
  · rw [raised, raised, status]
  · rw [raised, status]
  · rw [raised, status]
  · exact status

theorem laminatorAnswer_held {v : LaminatorStatus} {s : State} (holds : laminatorHolds v s) :
    Held .laminatorNotReady (laminatorAnswer v s) := by
  obtain ⟨run, cause⟩ := holds
  let u := s.onStation fun x => { x with laminator := some v }
  have run' : u.motion.line = .running := run
  unfold laminatorAnswer
  dsimp only
  by_cases hot : v.heatReady = false ∨ v.fault = true
  · have first : (if u.motion.line = .running ∧ (v.heatReady = false ∨ v.fault = true) then raiseHold .laminatorNotReady u else u)
        = raiseHold .laminatorNotReady u := if_pos ⟨run', hot⟩
    rw [first]
    split
    · exact raiseHold_held _ _
    · exact raiseHold_held _ _
  · obtain ⟨nip, idle, opened⟩ := cause.resolve_left hot
    have first : (if u.motion.line = .running ∧ (v.heatReady = false ∨ v.fault = true) then raiseHold .laminatorNotReady u else u)
        = u := if_neg fun h => hot h.2
    rw [first, if_pos ⟨run', nip, idle, opened⟩]
    exact raiseHold_held _ _

theorem nipBusy_of_none {s : State} (free : s.station.inFlight = none) (none : ∀ x, Action.nip x ∉ s.station.actions) :
    s.nipBusy = false := by
  unfold State.nipBusy
  rw [free, Bool.or_false, List.any_eq_false]
  intro a mem
  cases a with
  | nip x => exact absurd mem (none x)
  | _ => simp [isNip]

/-! ## The beam (R128 to R130, R161) -/

theorem takeBeamStatus_moving {s : State} {l : Layout} {g : Int} (moving : s.beam.changeover = .moving l g)
    (timer : s.beam.timer ≠ none) :
    takeBeamStatus .fault s = failChangeover s ∧ takeBeamStatus .done s = completeChangeover s := by
  obtain ⟨k, running⟩ := Option.ne_none_iff_exists'.mp timer
  constructor <;> simp only [takeBeamStatus, moving, running]

theorem takeBeamStatus_nothing {b : BeamStatus} {s : State}
    (nothing : (∀ l g, s.beam.changeover ≠ .moving l g) ∨ s.beam.timer = none ∨ b = .idle ∨ b = .moving) : takeBeamStatus b s = s := by
  unfold takeBeamStatus
  split
  · next moving running =>
    rcases nothing with other | off | rfl | rfl
    · exact absurd moving (other _ _)
    · exact absurd (running.symm.trans off) (by simp)
    · rfl
    · rfl
  · rfl

/-- A changeover completed, before the Plan Reader goes on (R129). -/
def completed (l : Layout) (s : State) : State :=
  let s := s.onBeam fun b => { b with timer := none, changeover := .none, current := l }
  queueLine (.layout l.laneCount l.label) (syncEyes (s.mapReg fun n => LaneReg.released (s.used n)))

theorem completeChangeover_moving {s : State} {l : Layout} {g : Int} (moving : s.beam.changeover = .moving l g) :
    completeChangeover s = layoutRead (completed l s) := by
  simp only [completeChangeover, moving] <;> rfl

theorem used_iff (s : State) (n : Lane) : s.used n = true ↔ laneNum n < s.beam.current.laneCount := by
  simp [State.used]

theorem released_eq {used : Bool} (r : LaneReg) :
    LaneReg.released used r = if used = true then { r with state := .seeking }
      else ⟨.unused, none, 0, 0, none, none, none, none, none⟩ := by
  unfold LaneReg.released LaneReg.cleared
  split <;> rfl

theorem completed_reg (l : Layout) (s : State) (n : Lane) :
    (completed l s).reg.get n = if laneNum n < l.laneCount then { s.reg.get n with state := .seeking }
      else ⟨.unused, none, 0, 0, none, none, none, none, none⟩ := by
  have reg : (completed l s).reg = ((s.onBeam fun b => { b with timer := none, changeover := .none, current := l }).mapReg fun n =>
      LaneReg.released ((s.onBeam fun b => { b with timer := none, changeover := .none, current := l }).used n)).reg := by
    simp only [completed, queueLine_frame, syncEyes_frame]
  rw [reg, mapReg_reg, released_eq]
  simp only [used_iff]
  rfl

/-- The eyes of a completed changeover: off in IDLE and on a lane the layout does not use, and otherwise on (R40, R129). -/
theorem completed_eyes (l : Layout) (s : State) (n : Lane) :
    (s.motion.line = .idle ∨ l.laneCount ≤ laneNum n → ((completed l s).eyes.get n).decode = .off)
      ∧ (s.motion.line ≠ .idle → laneNum n < l.laneCount → (s.eyes.get n).decode = .off →
          ((completed l s).eyes.get n).decode = if s.pins.eyeDark.get n = true then .clearing else .watching) := by
  generalize same : ((s.onBeam fun b => { b with timer := none, changeover := .none, current := l }).mapReg fun n =>
      LaneReg.released ((s.onBeam fun b => { b with timer := none, changeover := .none, current := l }).used n)) = u
  have eyes : (completed l s).eyes = (syncEyes u).eyes := by simp only [completed, queueLine_frame, same]
  have active : u.eyeActive n = true ↔ s.motion.line ≠ .idle ∧ laneNum n < l.laneCount := by
    rw [← same]
    simp [State.eyeActive, State.used, State.blinded, State.guardAt, State.onBeam]
  have sameEye : u.eyes.get n = s.eyes.get n := by rw [← same]; simp
  have samePin : u.pins = s.pins := by rw [← same]; simp
  rw [eyes, syncEyes_get, sameEye, samePin]
  refine ⟨fun off => ?_, fun on used dark => ?_⟩
  · have inactive : u.eyeActive n = false := Bool.eq_false_iff.mpr fun h => by
      obtain ⟨on, used⟩ := active.mp h
      rcases off with idle | beyond
      · exact on idle
      · omega
    rw [inactive, syncedEye]
    by_cases dark : (s.eyes.get n).decode = .off
    · simp [dark]
    · simp [dark, Eye.deactivate]
  · rw [active.mpr ⟨on, used⟩, syncedEye, if_pos rfl, if_pos dark]
    rfl

theorem completed_fields (l : Layout) (s : State) :
    (completed l s).beam = { s.beam with current := l, changeover := .none, timer := none }
      ∧ (completed l s).motion = s.motion ∧ (completed l s).cuts = s.cuts ∧ (completed l s).lists = s.lists
      ∧ (completed l s).store = s.store ∧ (completed l s).reader = s.reader
      ∧ (completed l s).link = linkEvent s.link (.lineState (.layout l.laneCount l.label) s.motion.line s.motion.holds s.motion.trips
          s.motion.firstCause) := by
  refine ⟨?_, by simp [completed], by simp [completed], by simp [completed], by simp [completed], by simp [completed], ?_⟩
  · simp [completed, State.onBeam]
  · simp only [completed, queueLine, queueEvent_eq]
    simp

/-! ## The unwind (R94, R162) -/

theorem addPlaced_relinked (z : Zone) (st : Station) (l : LineLink) (s : State) :
    ∃ l', addPlaced z { s with station := st, link := l } = { addPlaced z s with station := st, link := l' } := by
  have merge : mergeZone z ({ s with station := st, link := l } : State).zones = mergeZone z s.zones := rfl
  unfold addPlaced
  rw [merge]
  rcases mergeZone z s.zones with ⟨zs, _ | m⟩
  · exact ⟨l, rfl⟩
  · exact ⟨_, rfl⟩

theorem reportZone_silent {lo len : Int} {cause : ZoneCause} {s : State} (silent : s.motion.line = .idle ∨ len = 0) :
    reportZone lo len cause s = s := if_pos silent

theorem reportZone_late {lo len : Int} {cause : ZoneCause} {s : State} (told : ¬(s.motion.line = .idle ∨ len = 0))
    (late : placeZone s.lockPoint ⟨lo, lo + len, cause⟩ = none) :
    reportZone lo len cause s = queueEvent (.zoneNotice .late cause lo (lo + len)) s := by
  unfold reportZone
  rw [if_neg told, late]

theorem reportZone_placed {lo len : Int} {cause : ZoneCause} {s : State} {z : Zone} (told : ¬(s.motion.line = .idle ∨ len = 0))
    (placed : placeZone s.lockPoint ⟨lo, lo + len, cause⟩ = some z) : reportZone lo len cause s = addPlaced z s := by
  unfold reportZone
  rw [if_neg told, placed]

theorem reportZone_relinked (lo len : Int) (cause : ZoneCause) (st : Station) (l : LineLink) (s : State) :
    ∃ l', reportZone lo len cause { s with station := st, link := l } = { reportZone lo len cause s with station := st, link := l' } := by
  by_cases silent : s.motion.line = .idle ∨ len = 0
  · rw [reportZone_silent silent, reportZone_silent (s := { s with station := st, link := l }) silent]
    exact ⟨l, rfl⟩
  · cases placed : placeZone s.lockPoint ⟨lo, lo + len, cause⟩ with
    | none =>
      rw [reportZone_late silent placed, reportZone_late (s := { s with station := st, link := l }) silent placed]
      exact ⟨_, rfl⟩
    | some z =>
      rw [reportZone_placed silent placed, reportZone_placed (s := { s with station := st, link := l }) silent placed]
      exact addPlaced_relinked z st l s

/-- A report of splices does not look at the links: they pass through, but for the events. -/
theorem reportSplices_relinked (k : Nat) (st : Station) (l : LineLink) (s : State) :
    ∃ l', reportSplices k { s with station := st, link := l } = { reportSplices k s with station := st, link := l' } := by
  induction k generalizing s l with
  | zero => exact ⟨l, rfl⟩
  | succ k ih =>
    obtain ⟨l', one⟩ := reportZone_relinked (s.inPos + s.par .filmPath - s.par .spliceLeadback) (s.par .spliceZoneLen) .splice st l s
    have first : reportSplice { s with station := st, link := l } = { reportSplice s with station := st, link := l' } := one
    change ∃ l', reportSplices k (reportSplice { s with station := st, link := l })
      = { reportSplices k (reportSplice s) with station := st, link := l' }
    rw [first]
    exact ih l' (reportSplice s)

/-- The step of an UNWIND's answer that looks at the splices counted before (R162). -/
def spliceStep (lost : Bool) (v : UnwindStatus) (old : Option Nat) (s : State) : State :=
  match old with
  | none => if lost then queueEvent (.stationNotice .splicesUnknown .unwind) s else s
  | some k => reportSplices ((v.splices + 256 - k) % 256) s

/-- The step of an UNWIND's answer that looks at the roll (R162). -/
def rollStep (v : UnwindStatus) (s : State) : State :=
  if v.rollLow = true ∧ s.station.rollLow = false then queueEvent (.stationNotice .rollLow .unwind) s else s

theorem unwindAnswer_eq (lost : Bool) (v : UnwindStatus) (s : State) :
    unwindAnswer lost v s
      = (rollStep v (spliceStep lost v s.station.spliceRecord (s.onStation fun x => { x with unwind := some v, spliceRecord := some v.splices }))).onStation
          fun x => { x with rollLow := v.rollLow } := rfl

theorem spliceStep_station (lost : Bool) (v : UnwindStatus) (old : Option Nat) (s : State) :
    (spliceStep lost v old s).station = s.station := by
  unfold spliceStep
  split
  · split <;> simp
  · simp

theorem rollStep_fields (v : UnwindStatus) (s : State) :
    (rollStep v s).station = s.station ∧ (rollStep v s).zones = s.zones := by
  unfold rollStep
  split <;> simp

/-- What an UNWIND's answer records (R162). -/
theorem unwindAnswer_station (lost : Bool) (v : UnwindStatus) (s : State) :
    (unwindAnswer lost v s).station.unwind = some v ∧ (unwindAnswer lost v s).station.spliceRecord = some v.splices
      ∧ (unwindAnswer lost v s).station.rollLow = v.rollLow := by
  have station := (rollStep_fields v (spliceStep lost v s.station.spliceRecord
    (s.onStation fun x => { x with unwind := some v, spliceRecord := some v.splices }))).1.trans (spliceStep_station _ _ _ _)
  rw [unwindAnswer_eq]
  refine ⟨?_, ?_, rfl⟩
  · exact congrArg Station.unwind station
  · exact congrArg Station.spliceRecord station

/-- The zones an UNWIND's answer leaves: its new splices reported when one was recorded before (R162). -/
theorem unwindAnswer_zones (lost : Bool) (v : UnwindStatus) (s : State) :
    (unwindAnswer lost v s).zones = match s.station.spliceRecord with
      | none => s.zones
      | some k => (reportSplices ((v.splices + 256 - k) % 256) s).zones := by
  rw [unwindAnswer_eq]
  change (rollStep v _).zones = _
  rw [(rollStep_fields v _).2]
  unfold spliceStep
  cases old : s.station.spliceRecord with
  | none =>
    dsimp only
    split <;> rfl
  | some k =>
    obtain ⟨l, relinked⟩ := reportSplices_relinked ((v.splices + 256 - k) % 256)
      { s.station with unwind := some v, spliceRecord := some v.splices } s.link s
    have zones := congrArg State.zones relinked
    exact zones

/-- The events an UNWIND's answer queues when no splice was recorded before (R162). -/
theorem unwindAnswer_link {lost : Bool} {v : UnwindStatus} {s : State} :
    (v.rollLow = true → s.station.rollLow = false → ∃ l, (unwindAnswer lost v s).link = linkEvent l (.stationNotice .rollLow .unwind))
      ∧ (s.station.spliceRecord = none → s.link.events.length < 31 →
        (unwindAnswer lost v s).link.events = s.link.events ++ (if lost = true then [.stationNotice .splicesUnknown .unwind] else [])
          ++ (if v.rollLow = true ∧ s.station.rollLow = false then [.stationNotice .rollLow .unwind] else [])) := by
  have rollLow : (spliceStep lost v s.station.spliceRecord (s.onStation fun x =>
      { x with unwind := some v, spliceRecord := some v.splices })).station.rollLow = s.station.rollLow := by
    rw [spliceStep_station]
    rfl
  rw [unwindAnswer_eq]
  refine ⟨fun low high => ⟨(spliceStep lost v s.station.spliceRecord (s.onStation fun x =>
      { x with unwind := some v, spliceRecord := some v.splices })).link, ?_⟩, fun old room => ?_⟩
  · change (rollStep v _).link = _
    rw [rollStep, if_pos ⟨low, by rw [rollLow]; exact high⟩]
    rfl
  · change (rollStep v _).link.events = _
    have spliced : (spliceStep lost v s.station.spliceRecord (s.onStation fun x =>
        { x with unwind := some v, spliceRecord := some v.splices })).link.events
          = s.link.events ++ (if lost = true then [.stationNotice .splicesUnknown .unwind] else []) := by
      rw [old, spliceStep]
      cases lost
      · exact (List.append_nil _).symm
      · exact linkEvent_events (l := s.link) _ (by omega)
    rw [rollStep, rollLow]
    split
    · refine (linkEvent_events _ ?_).trans (by rw [spliced])
      rw [spliced]
      cases lost <;> simp <;> omega
    · rw [List.append_nil]
      exact spliced

/-! ## Settling O36 -/

/-- With no request waiting, what follows a poll's answer leaves the statuses and the zones. -/
theorem answered_settled {before u : State} (empty : u.link.requests = []) :
    let t := runLink (settleAll before u)
    SameStatus u t ∧ t.zones = u.zones ∧ t.motion = (settleAll before u).motion ∧ t.beam = (settleAll before u).beam := by
  intro t
  have sent : t = startTx (settleAll before u) := runLink_empty _ (by simp [settleAll, empty])
  rw [sent]
  exact ⟨(settleAll_status before u).trans (.of_station (by simp)), by simp [settleAll], by simp, by simp⟩

/-- A reason that stands when the answer has been taken stands when the command has settled. -/
theorem answered_held {before u : State} {r : HoldReason} (empty : u.link.requests = []) (held : Held r u) :
    let t := runLink (settleAll before u)
    t.motion.line = .idle ∨ t.motion.holds.has r = true := by
  intro t
  have motion : t.motion = (settleAll before u).motion := (answered_settled empty).2.2.1
  rw [motion]
  exact (settleAll_held before held).imp id And.right

theorem trimAnswer_status (v : TrimStatus) (s : State) : (trimAnswer v s).station.trim = some v
    ∧ (v ≠ .ok → Held .station (trimAnswer v s)) := by
  have raised (w : State) : (raiseHold .station w).station.trim = w.station.trim := (raiseHold_actions _ w).1.status.trim
  cases v with
  | ok => exact ⟨rfl, fun bad => absurd rfl bad⟩
  | broken => exact ⟨raised _, fun _ => raiseHold_held _ _⟩
  | full => exact ⟨raised _, fun _ => raiseHold_held _ _⟩

/-- A beam's answer leaves the station link but for the action list. -/
theorem takeBeamStatus_only (v : BeamStatus) (s : State) : ActionsOnly s (takeBeamStatus v s) := by
  have completes : ActionsOnly s (completeChangeover s) := by
    unfold completeChangeover
    split
    · exact (ActionsOnly.same (by simp) (by simp)).trans (layoutRead_only _)
    all_goals exact .refl s
  unfold takeBeamStatus
  split
  · split
    · exact .refl s
    · exact .refl s
    · exact completes
    · exact (failChangeover_actions s).1
  · exact .refl s

/-- The state in which the Beam Controller takes the beam's status: only the links differ from before the answer. -/
theorem beamAgain_eq (v : BeamStatus) (s : State) :
    ∃ st l, (presentAgain .beam s).onStation (fun x => { x with beam := some v }) = { s with station := st, link := l }
      ∧ st.beam = some v ∧ l.requests = s.link.requests ∧ l.events.length ≤ s.link.events.length + 1 := by
  obtain ⟨recs, again⟩ := presentAgain_eq .beam s
  have events := presentAgain_events .beam s
  have requests : (presentAgain .beam s).link.requests = s.link.requests := by simp [presentAgain]
  rw [again] at events requests ⊢
  exact ⟨_, _, rfl, rfl, requests, events⟩

/-- A failed changeover stays as it is while the command settles. -/
theorem settleAll_failed {before u : State} {l : Layout} {g : Int} (failed : u.beam.changeover = .failed l g) :
    (settleAll before u).beam = u.beam := by
  have reg : (settleReg u).beam = u.beam := by simp
  exact (settle_beam_of_quiet before (by simp [failed]) (by simp [failed])).trans reg

/-- Settles O36: an answer to the poll of each role in turn. -/
theorem pollAnswersUpdateStatus : Obligations.PollAnswersUpdateStatus := by
  intro r ms a s inFlight at_ empty addr kind check
  have emptyAgain : (presentAgain r s).link.requests = [] := by simp [presentAgain, empty]
  obtain ⟨t, run⟩ : ∃ t, exec (.stationAnswer a) s = .next t := ⟨_, exec_stationAnswer inFlight a⟩
  have answered (fits : pollPayloadOk r a.payload = true) :
      exec (.stationAnswer a) s = .next (runLink (settleAll s (pollAnswer r (s.lostAt (s.roleAddr r)) a.payload (presentAgain r s)))) :=
    exec_pollAnswer inFlight at_ addr kind check fits
  refine ⟨t, run, ?_, ?_, ?_, ?_⟩
  · rintro v rfl parsed
    have now := answered (by simp [pollPayloadOk, parsed])
    rw [show pollAnswer .laminator (s.lostAt (s.roleAddr .laminator)) a.payload (presentAgain .laminator s)
      = laminatorAnswer v (presentAgain .laminator s) by simp only [pollAnswer, parsed]] at now
    obtain rfl := Host.Outcome.next.inj (run.symm.trans now)
    have empty' : (laminatorAnswer v (presentAgain .laminator s)).link.requests = [] := by simp [emptyAgain]
    obtain ⟨recs, again⟩ := presentAgain_eq .laminator s
    have line : (presentAgain .laminator s).motion = s.motion := by rw [again]
    refine ⟨(answered_settled empty').1.laminator.trans (laminatorAnswer_status v _), fun runs cold => ?_, fun runs closed none opened => ?_⟩
    · exact answered_held empty' (laminatorAnswer_held ⟨by rw [line]; exact runs, .inl cold⟩)
    · refine answered_held empty' (laminatorAnswer_held ⟨by rw [line]; exact runs, .inr ⟨by rw [line]; exact closed, ?_, opened⟩⟩)
      exact nipBusy_of_none (by rw [again]) (by rw [again]; exact none)
  · rintro v rfl parsed
    have now := answered (by simp [pollPayloadOk, parsed])
    rw [show pollAnswer .beam (s.lostAt (s.roleAddr .beam)) a.payload (presentAgain .beam s)
      = takeBeamStatus v ((presentAgain .beam s).onStation fun x => { x with beam := some v }) by simp only [pollAnswer, parsed]] at now
    obtain ⟨st, l, again, status, requests, events⟩ := beamAgain_eq v s
    rw [again] at now
    obtain rfl := Host.Outcome.next.inj (run.symm.trans now)
    have empty' : (takeBeamStatus v { s with station := st, link := l }).link.requests = [] := by simp [requests, empty]
    obtain ⟨statuses, -, -, beam⟩ := answered_settled (before := s) empty'
    refine ⟨statuses.beam.trans ((takeBeamStatus_only v _).status.beam.trans status), fun lay g moving timer => ⟨?_, ?_⟩, fun nothing => ?_⟩
    · rintro rfl
      have fails : takeBeamStatus .fault { s with station := st, link := l } = _ :=
        (takeBeamStatus_moving (s := { s with station := st, link := l }) moving timer).1
      have failed : (takeBeamStatus .fault { s with station := st, link := l }).beam.changeover = .failed lay g := by
        rw [fails, failChangeover_moving (s := { s with station := st, link := l }) moving]
        simp
      rw [beam, settleAll_failed failed]
      exact failed
    · rintro rfl
      have done : takeBeamStatus .done { s with station := st, link := l } = layoutRead (completed lay { s with station := st, link := l }) :=
        (takeBeamStatus_moving (s := { s with station := st, link := l }) moving timer).2.trans
          (completeChangeover_moving (s := { s with station := st, link := l }) moving)
      obtain ⟨beam', motion, cuts, lists, store, reader, link⟩ := completed_fields lay { s with station := st, link := l }
      have eyes := completed_eyes lay { s with station := st, link := l }
      refine ⟨?_, completed lay { s with station := st, link := l }, by rw [now, done], beam',
        completed_reg lay { s with station := st, link := l }, eyes, fun room => ⟨l.events, ?_⟩, motion, cuts, lists, store, reader⟩
      · rw [beam, done]
        have current : (settleAll s (layoutRead (completed lay { s with station := st, link := l }))).beam.current
            = (completed lay { s with station := st, link := l }).beam.current := by simp [settleAll]
        rw [current, beam']
      · rw [link]
        exact linkEvent_events _ (by change l.events.length < 32; omega)
    · have nothing' : takeBeamStatus v { s with station := st, link := l } = { s with station := st, link := l } :=
        takeBeamStatus_nothing nothing
      exact ⟨{ s with station := st, link := l }, by rw [now, nothing'], rfl, rfl, rfl, rfl, rfl, rfl⟩
  · rintro v rfl parsed
    have now := answered (by simp [pollPayloadOk, parsed])
    rw [show pollAnswer .unwind (s.lostAt (s.roleAddr .unwind)) a.payload (presentAgain .unwind s)
      = unwindAnswer (s.lostAt (s.roleAddr .unwind)) v (presentAgain .unwind s) by simp only [pollAnswer, parsed]] at now
    obtain rfl := Host.Outcome.next.inj (run.symm.trans now)
    have empty' : (unwindAnswer (s.lostAt (s.roleAddr .unwind)) v (presentAgain .unwind s)).link.requests = [] := by simp [emptyAgain]
    obtain ⟨recs, again⟩ := presentAgain_eq .unwind s
    obtain ⟨statuses, zones, -, -⟩ := answered_settled (before := s) empty'
    obtain ⟨unwind, splices, rollLow⟩ := unwindAnswer_station (s.lostAt (s.roleAddr .unwind)) v (presentAgain .unwind s)
    have lost : s.lostAt (s.roleAddr .unwind) = true ↔ s.station.records.unwind.state = .lost := by
      unfold State.lostAt
      rw [at_]
      exact beq_iff_eq
    have zonesNow := zones.trans (unwindAnswer_zones _ v (presentAgain .unwind s))
    have record : (presentAgain .unwind s).station.spliceRecord = s.station.spliceRecord := by rw [again]
    rw [record] at zonesNow
    obtain ⟨roll, queued⟩ := unwindAnswer_link (lost := s.lostAt (s.roleAddr .unwind)) (v := v) (s := presentAgain .unwind s)
    refine ⟨statuses.unwind.trans unwind, statuses.spliceRecord.trans splices, statuses.rollLow.trans rollLow, fun old => ?_, fun k old => ?_,
      _, now, fun low high => roll low (by rw [again]; exact high), fun old room => ?_⟩
    · rw [old] at zonesNow
      exact zonesNow.trans (by rw [again])
    · rw [old] at zonesNow
      refine zonesNow.trans ?_
      rw [again]
      obtain ⟨l, relinked⟩ := reportSplices_relinked ((v.splices + 256 - k) % 256)
        { s.station with inFlight := none, records := recs } (presentAgain .unwind s).link s
      rw [again] at relinked
      have same := congrArg State.zones relinked
      exact same
    · have fewer := presentAgain_events .unwind s
      have all := queued (by rw [record]; exact old) (by omega)
      have first : (presentAgain .unwind s).link.events = s.link.events
          ++ (if s.station.records.unwind.state = .unknown ∨ s.station.records.unwind.state = .lost
            then [.stationNotice .present .unwind] else []) := by
        rw [again]
        change (if s.station.records.unwind.state = .unknown ∨ s.station.records.unwind.state = .lost
          then linkEvent s.link (.stationNotice .present .unwind) else s.link).events = _
        split
        · exact linkEvent_events _ (by omega)
        · exact (List.append_nil _).symm
      have high : (presentAgain .unwind s).station.rollLow = s.station.rollLow := by rw [again]
      rw [all, first, high]
      simp only [lost]
  · rintro v rfl parsed
    have now := answered (by simp [pollPayloadOk, parsed])
    rw [show pollAnswer .trim (s.lostAt (s.roleAddr .trim)) a.payload (presentAgain .trim s)
      = trimAnswer v (presentAgain .trim s) by simp only [pollAnswer, parsed]] at now
    obtain rfl := Host.Outcome.next.inj (run.symm.trans now)
    have empty' : (trimAnswer v (presentAgain .trim s)).link.requests = [] := by simp [emptyAgain]
    obtain ⟨status, held⟩ := trimAnswer_status v (presentAgain .trim s)
    exact ⟨(answered_settled empty').1.trim.trans status, fun bad _ => answered_held empty' (held bad)⟩

end Sys2Proof.Machine
end

section
/-! PROOFS. The outfeed's judgement (R112, R127, R150), the end of HOLDING (R142, R152), and the events nothing waits for. -/
namespace Sys2Proof.Machine

/-! ## Events that find nothing to do (R2, R121, log entries 6 and 8) -/

theorem Pins.setInput_self (p : Pins) (i : TripInput) : p.setInput i (p.input i) = p := by
  cases i <;> rfl

theorem traverseEnd_ignored {s : State} (none : ∀ e r, s.cuts.entries = e :: r → e.status ≠ .cutting) : traverseEnd s = s := by
  unfold traverseEnd State.headEntry
  cases entries : s.cuts.entries with
  | nil => rfl
  | cons e r => exact if_neg (none e r entries)

/-- Settles O25: each of the events in the state that does not wait for it. -/
theorem unaskedEventsChangeNothing : Obligations.UnaskedEventsChangeNothing := by
  intro s
  refine ⟨fun e => rfl, fun i => ?_, fun i high => ?_, fun idle => ⟨?_, fun a => ?_⟩, fun none => ?_, fun off => ?_, fun off => ?_,
    fun off => ?_, fun off => ?_, fun ch off => ?_, fun ch off => ?_⟩
  · change Host.Outcome.next (startTx (tripInput i false s)) = _
    unfold tripInput
    split
    · next low => rw [← low, Pins.setInput_self]
    · rfl
  · change Host.Outcome.next (startTx (tripInput i true s)) = _
    rw [tripInput, if_pos high]
  · change Host.Outcome.next (runLink (replyExpired s)) = _
    simp only [replyExpired, idle]
  · change Host.Outcome.next (runLink (stationAnswered a s)) = _
    simp only [stationAnswered, idle]
  · change Host.Outcome.next (startTx (traverseEnd s)) = _
    rw [traverseEnd_ignored none]
  · change Host.Outcome.next (startTx (indexExpired s)) = _
    simp only [indexExpired, off]
  · change Host.Outcome.next (startTx (cutExpired s)) = _
    simp only [cutExpired, off]
  · change Host.Outcome.next (startTx (beamExpired s)) = _
    simp only [beamExpired, off]
  · change Host.Outcome.next (startTx (dwellExpired s)) = _
    rw [dwellExpired, if_neg (by simp [off])]
  · change Host.Outcome.next (startTx (delayExpired ch s)) = _
    simp only [delayExpired, off]
  · change Host.Outcome.next (startTx (handoffExpired ch s)) = _
    simp only [handoffExpired, off]

/-! ## The outfeed's judgement (R112, R127, R150) -/

theorem guardStop_eq (s : State) :
    s.guardStop = match s.beam.changeover with
      | .moving _ g | .failed _ g => some (g - s.par .beamDist)
      | .none | .pending _ => none := by
  unfold State.guardStop State.guardAt
  cases s.beam.changeover <;> rfl

theorem guardPermits_iff (s : State) (x : Int) :
    s.guardPermits x = true ↔ ∀ p, s.guardStop = some p → x ≤ p ∨ p ≤ s.outPos ∧ x ≤ s.outPos := by
  unfold State.guardPermits
  cases s.guardStop with
  | none => simp
  | some g => simp

theorem headEntry_eq_some {s : State} {e : Entry} : s.headEntry = some e ↔ ∃ r, s.cuts.entries = e :: r := by
  unfold State.headEntry
  cases entries : s.cuts.entries with
  | nil => simp
  | cons a r => simp

theorem headExecuting_iff (s : State) :
    s.headExecuting = true ↔ ∃ e r, s.cuts.entries = e :: r
      ∧ (e.status = .indexing ∨ e.status = .positioned ∨ e.status = .cutting ∨ e.status = .interrupted) := by
  unfold State.headExecuting
  cases head : s.headEntry with
  | none =>
    refine ⟨fun h => absurd h (by simp), fun ⟨e, r, entries, _⟩ => ?_⟩
    rw [headEntry_eq_some.mpr ⟨r, entries⟩] at head
    contradiction
  | some e =>
    obtain ⟨r, entries⟩ := headEntry_eq_some.mp head
    rw [entries]
    constructor
    · intro runs
      refine ⟨e, r, rfl, ?_⟩
      cases status : e.status <;> simp [status, executing] at runs ⊢
    · rintro ⟨_, _, same, status⟩
      obtain ⟨rfl, rfl⟩ := List.cons.inj same
      rcases status with status | status | status | status <;> simp [status, executing]

theorem freeOrBounded_iff (o : Outfeed) : freeOrBounded o = true ↔ o = .free ∨ ∃ p, o = .bounded p := by
  cases o <;> simp [freeOrBounded]

theorem indexable_some {s : State} {e : Entry} {r : List Entry} (entries : s.cuts.entries = e :: r) (locked : e.status = .locked)
    (fed : s.motion.starve = false) (permits : s.guardPermits e.coord = true) : s.indexable = some e := by
  simp only [State.indexable, headEntry_eq_some.mpr ⟨r, entries⟩]
  exact if_pos ⟨locked, fed, permits⟩

theorem indexable_none {s : State}
    (waits : ∀ e r, s.cuts.entries = e :: r → ¬(e.status = .locked ∧ s.motion.starve = false ∧ s.guardPermits e.coord = true)) :
    s.indexable = none := by
  unfold State.indexable
  split
  · next e head =>
    obtain ⟨r, entries⟩ := headEntry_eq_some.mp head
    exact if_neg (waits e r entries)
  · rfl

/-- The index of the head: STOP_AT over the distance to it, the timer, INDEXING (R112). -/
theorem issueIndex_head {s : State} {e : Entry} {r : List Entry} (entries : s.cuts.entries = e :: r) :
    issueIndex e s = { s with
      motion := { s.motion with drive := some (.stopAt (max 0 (e.coord - s.outPos))), outfeed := .indexed }
      cuts := { s.cuts with
        entries := { e with status := .indexing } :: r, indexTimer := some (s.par .indexTimeout).toNat } } := by
  have distance : s.stopDistance e.coord = max 0 (e.coord - s.outPos) := by
    unfold State.stopDistance
    split <;> omega
  unfold issueIndex
  simp only [State.onHead, State.onCuts, entries, sendDrive, State.onMotion, distance]
  rfl

theorem runsPast_iff (g : Int) (o : Outfeed) : runsPast g o = true ↔ freeOrBounded o = true ∧ o ≠ .bounded g := by
  cases o <;> simp [runsPast, freeOrBounded]

theorem outfeedEvent_iff (before s : State) :
    outfeedEvent before s = true ↔ before.motion.line ≠ .running ∨ before.motion.starve ≠ s.motion.starve ∨ before.headKey ≠ s.headKey
      ∨ before.guardAt ≠ s.guardAt ∨ before.motion.outfeed ≠ .stopped ∧ s.motion.outfeed = .stopped := by
  simp [outfeedEvent, or_assoc]

/-- The judgement of the outfeed when the head may not be indexed (R150). -/
theorem judgeOutfeed_waiting {s : State} (rests : s.headExecuting = false) (fed : s.motion.starve = false)
    (nobody : s.indexable = none) :
    judgeOutfeed s = match s.guardStop with
      | some g =>
          if s.outPos < g then if s.motion.outfeed = .bounded g then s else sendDrive (.stopAt (g - s.outPos)) (.bounded g) s
          else if runsPast g s.motion.outfeed then sendDrive .halt .halting s else s
      | none => if s.motion.outfeed = .free then s else sendDrive (.run (s.par .outSpeed)) .free s := by
  simp only [judgeOutfeed, rests, fed, nobody, Bool.false_eq_true, if_false] <;> rfl

theorem judgeHolding_index {entered changed : Bool} {s : State} {e : Entry} (moves : s.motion.outfeed ≠ .stopped)
    (now : entered = true ∨ changed = true) (head : s.indexable = some e) : judgeHolding entered changed s = issueIndex e s := by
  have moving : inMotion s.motion.outfeed = true := by
    cases outfeed : s.motion.outfeed <;> simp [inMotion]
    exact moves outfeed
  simp only [judgeHolding, if_pos (And.intro moving now), head]

theorem judgeHolding_none {entered changed : Bool} {s : State}
    (waits : ¬(inMotion s.motion.outfeed = true ∧ (entered = true ∨ changed = true)) ∨ s.indexable = none) :
    judgeHolding entered changed s
      = if entered = true ∧ freeOrBounded s.motion.outfeed = true then sendDrive .halt .halting s else s := by
  have nobody : (if inMotion s.motion.outfeed = true ∧ (entered = true ∨ changed = true) then s.indexable else none) = none := by
    rcases waits with still | nobody
    · exact if_neg still
    · rw [nobody, ite_self]
  simp only [judgeHolding, nobody]

/-- Settles O23: the judgement in RUNNING and in HOLDING, when each is made, and what follows a command. -/
theorem outfeedIsJudged : Obligations.OutfeedIsJudged := by
  refine ⟨fun s => ?_, fun before s => ?_⟩
  · intro x point sent indexed permitted runs executes waits
    have stop : s.guardStop = point := guardStop_eq s
    have permits (e : Entry) : permitted e ↔ e.status = .locked ∧ s.guardPermits e.coord = true := by
      rw [guardPermits_iff, stop]
    have executing_iff : s.headExecuting = true ↔ executes := headExecuting_iff s
    have runs_iff : freeOrBounded s.motion.outfeed = true ↔ runs := freeOrBounded_iff _
    have rests (no : ¬executes) : s.headExecuting = false := Bool.eq_false_iff.mpr fun h => no (executing_iff.mp h)
    have some_of {e : Entry} {r : List Entry} (entries : s.cuts.entries = e :: r) (may : permitted e) (fed : s.motion.starve = false) :
        s.indexable = some e := indexable_some entries ((permits e).mp may).1 fed ((permits e).mp may).2
    have none_of (no : waits ∨ s.motion.starve = true) : s.indexable = none := by
      refine indexable_none fun e r entries => ?_
      rintro ⟨locked, fed, permit⟩
      rcases no with no | starved
      · exact no e r entries ((permits e).mpr ⟨locked, permit⟩)
      · rw [fed] at starved
        contradiction
    refine ⟨fun runs => judgeOutfeed_executing s (executing_iff.mpr runs), fun no starved => ?_, fun e r entries may fed => ?_,
      fun p no wait fed at_ => ?_, fun no wait fed at_ => ?_, fun entered changed => ⟨?_, ?_⟩⟩
    · have judged : judgeOutfeed s = if freeOrBounded s.motion.outfeed then sendDrive .halt .halting s else s := by
        simp only [judgeOutfeed, rests no, starved, Bool.false_eq_true, if_false, if_true]
      rw [judged]
      exact ⟨fun free => if_pos (runs_iff.mpr free), fun still => if_neg fun h => still (runs_iff.mp h)⟩
    · have still : ¬executes := by
        rintro ⟨_, _, same, status⟩
        obtain ⟨rfl, rfl⟩ := List.cons.inj (entries.symm.trans same)
        rw [may.1] at status
        simp at status
      have judged : judgeOutfeed s = issueIndex e s := by
        simp only [judgeOutfeed, rests still, fed, some_of entries may fed, Bool.false_eq_true, if_false]
      exact judged.trans (issueIndex_head entries)
    · have judged := judgeOutfeed_waiting (rests no) fed (none_of (.inl wait))
      rw [stop.trans at_] at judged
      dsimp only at judged
      refine ⟨fun short other => ?_, fun there => ?_, fun beyond free other => ?_, fun beyond still => ?_⟩
      · rw [judged, if_pos short, if_neg other]
        rfl
      · have here : runsPast p s.motion.outfeed = false := by simp [there, runsPast]
        rw [judged, if_pos there, here]
        simp
      · rw [judged, if_neg (by omega), if_pos ((runsPast_iff _ _).mpr ⟨runs_iff.mpr free, other⟩)]
        rfl
      · rw [judged, if_neg (by omega), if_neg fun h => still (runs_iff.mp ((runsPast_iff _ _).mp h).1)]
    · have judged := judgeOutfeed_waiting (rests no) fed (none_of (.inl wait))
      rw [stop.trans at_] at judged
      exact judged
    · intro e r entries may fed moves now
      exact (judgeHolding_index moves now (some_of entries may fed)).trans (issueIndex_head entries)
    · intro cases
      have wait : ¬(inMotion s.motion.outfeed = true ∧ (entered = true ∨ changed = true)) ∨ s.indexable = none := by
        rcases cases with no | starved | stopped | ⟨stays, same⟩
        · exact .inr (none_of (.inl no))
        · exact .inr (none_of (.inr starved))
        · exact .inl (by simp [stopped, inMotion])
        · exact .inl (by simp [stays, same])
      rw [judgeHolding_none wait]
      exact ⟨fun h => if_pos ⟨h.1, runs_iff.mpr h.2⟩, fun h => if_neg fun g => h ⟨g.1, runs_iff.mp g.2⟩⟩
  · intro head event
    have event_iff : outfeedEvent before s = true ↔ event := outfeedEvent_iff before s
    refine ⟨fun run => ?_, fun holding => ?_, fun run holding => ?_, rfl⟩
    · simp only [reactMotion, run]
      exact ⟨fun h => if_pos (event_iff.mpr h), fun h => if_neg fun g => h (event_iff.mp g)⟩
    · have entered : (before.motion.line != .holding) = decide (before.motion.line ≠ .holding) := by
        rw [Bool.eq_iff_iff, bne_iff_ne, decide_eq_true_iff]
      have changed : (before.headKey != s.headKey) = decide (head before ≠ head s) := by
        rw [Bool.eq_iff_iff, bne_iff_ne, decide_eq_true_iff]
        exact Iff.rfl
      simp only [reactMotion, holding, entered, changed]
    · unfold reactMotion
      split
      · next line => exact absurd line run
      · next line => exact absurd line holding
      all_goals rfl

end Sys2Proof.Machine
end

section
/-! PROOFS. The entry into HOLDING, its end, and the job-end signal (R142, R146, R152). -/
namespace Sys2Proof.Machine

/-! ## The entry into HOLDING (R142, R146) -/

/-- The state in which the line has entered HOLDING and its speed action is still to be raised. -/
def enteredHolding (s : State) : State := { s with
  motion := { s.motion with line := .holding, speed := 0 }
  link := linkEvent s.link (.lineState .state .holding s.motion.holds s.motion.trips s.motion.firstCause) }

theorem wantedSpeed_of_not_running {s : State} (still : s.motion.line ≠ .running) : s.wantedSpeed = 0 := if_neg still

/-- A commanded speed of 0 in a line that does not run: nothing where it is 0, and otherwise its action (R146). -/
theorem commandSpeed_still {s : State} (still : s.motion.line ≠ .running) :
    commandSpeed s = if s.motion.speed = 0 then (s, false) else pushAction (.speed 0) (s.onMotion fun m => { m with speed := 0 }) := by
  have stop := wantedSpeed_of_not_running still
  unfold commandSpeed
  by_cases zero : s.motion.speed = 0
  · rw [if_pos zero, if_pos (stop.trans zero.symm)]
  · rw [if_neg zero, if_neg fun same => zero (same.symm.trans stop), if_neg fun runs => runs.1 stop]
    simp only [stop, Bool.false_or]

theorem enterHolding_room {s : State} (room : s.motion.speed = 0 ∨ s.station.actions.length < 16) :
    enterHolding s = { enteredHolding s with
      station := { s.station with actions := s.station.actions ++ if s.motion.speed = 0 then [] else [.speed 0] } } := by
  unfold enterHolding
  rw [commandSpeed_still (by simp)]
  by_cases zero : s.motion.speed = 0
  · have same : enteredHolding s = queueLine .state (s.onMotion fun m => { m with line := .holding }) := by
      unfold enteredHolding
      rw [← zero]
      rfl
    rw [if_pos (by simpa using zero), if_pos zero, List.append_nil, same]
    rfl
  · have fits := room.resolve_left zero
    rw [if_neg (by simpa using zero), if_neg zero, pushAction_room (by simpa using fits)]
    rfl

theorem enterHolding_full {s : State} (moves : s.motion.speed ≠ 0) (full : 16 ≤ s.station.actions.length) :
    enterHolding s = addReason .station (enteredHolding s) := by
  unfold enterHolding
  rw [commandSpeed_still (by simp), if_neg (by simpa using moves), pushAction_full (by simpa using full)]
  rfl

/-! ## Job end (R152) -/

theorem signalJobEnd_enters {s : State} (line : s.motion.line = .ready ∨ s.motion.line = .running ∨ s.motion.line = .held) :
    signalJobEnd s = enterHolding (s.onMotion fun m => { m with jobEnd := true }) := by
  rcases line with line | line | line <;> simp only [signalJobEnd, line]

theorem signalJobEnd_flags {s : State} (line : s.motion.line = .holding ∨ s.motion.line = .tripped) :
    signalJobEnd s = s.onMotion fun m => { m with jobEnd := true } := by
  rcases line with line | line <;> simp only [signalJobEnd, line]

/-! ## The end of HOLDING (R142, R152) -/

theorem stopComplete_iff (s : State) :
    s.stopComplete = true ↔ s.motion.outfeed = .stopped ∧ (∀ e ∈ s.cuts.entries, e.status ≠ .cutting) ∧ s.motion.speed = 0
      ∧ (s.station.records.laminator.state ≠ .present ∨ ∃ a, s.station.laminator = some a ∧ a.speed = 0) := by
  cases laminator : s.station.laminator <;>
    simp [State.stopComplete, State.noneCutting, State.laminatorStopped, laminator, and_assoc]

theorem endHolding_held_of {s : State} (stopped : s.stopComplete = true) (works : s.motion.jobEnd = false) :
    endHolding s = { s with
      motion := { s.motion with line := .held }
      link := linkEvent s.link (.lineState .state .held s.motion.holds s.motion.trips s.motion.firstCause) } := by
  rw [endHolding, if_pos stopped, if_neg (by simp [works])]
  rfl

theorem endHolding_jobEnd {s : State} (stopped : s.stopComplete = true) (done : s.motion.jobEnd = true) :
    endHolding s = jobEndStop s := by
  simp only [endHolding, stopped, done, if_true]

theorem openNip_room {s : State} (room : s.station.actions.length < 16) :
    openNip s = ({ s with motion := { s.motion with nip := .opened },
                          station := { s.station with actions := s.station.actions ++ [.nip .opened] } }, false) :=
  pushAction_room (s := s.onMotion fun m => { m with nip := .opened }) room

theorem openNip_full {s : State} (full : 16 ≤ s.station.actions.length) :
    openNip s = ({ s with motion := { s.motion with nip := .opened } }, true) :=
  pushAction_full (s := s.onMotion fun m => { m with nip := .opened }) full

/-- The nip commanded OPEN, with STATION raised where its action met a full list (R152). -/
theorem nipOpened_cases (s : State) :
    (s.station.actions.length < 16 ∧ stationIfFailed (openNip s) = { s with
        motion := { s.motion with nip := .opened }
        station := { s.station with actions := s.station.actions ++ [.nip .opened] } })
    ∨ (16 ≤ s.station.actions.length
        ∧ stationIfFailed (openNip s) = addReason .station { s with motion := { s.motion with nip := .opened } }) := by
  by_cases room : s.station.actions.length < 16
  · exact .inl ⟨room, by rw [openNip_room room]; rfl⟩
  · exact .inr ⟨by omega, by rw [openNip_full (by omega)]; rfl⟩

/-- An eye that is not active: its decode is OFF, and one that was on has lost its intervals (R40, R58). -/
theorem syncedEye_inactive (dark : Bool) (e : Eye) :
    (syncedEye false dark e).decode = .off
      ∧ (e.decode ≠ .off → (syncedEye false dark e).startInterval = none ∧ (syncedEye false dark e).pitchInterval = none) := by
  unfold syncedEye
  by_cases off : e.decode = .off
  · simp [off]
  · simp [off, Eye.deactivate]

/-- The motion of a line IDLE at job end (R152). -/
def idleMotion (m : Motion) : Motion :=
  { m with holds := HoldSet.empty, trips := TripSet.empty, firstCause := none, jobEnd := false, line := .idle }

/-- The stop at job end once the nip has been commanded OPEN (R152). -/
def jobEnded (s : State) : State :=
  syncEyes ((queueLine .jobEnd (s.onMotion idleMotion)).mapReg fun _ => LaneReg.jobEnded)

theorem jobEndStop_eq (s : State) : jobEndStop s = jobEnded (stationIfFailed (openNip s)) := rfl

theorem jobEnded_fields (s : State) :
    (jobEnded s).motion = { s.motion with line := .idle, holds := HoldSet.empty, trips := TripSet.empty, firstCause := none, jobEnd := false }
      ∧ (jobEnded s).station = s.station
      ∧ (jobEnded s).link = linkEvent s.link (.lineState .jobEnd .idle HoldSet.empty TripSet.empty none) := by
  refine ⟨by simp [jobEnded, idleMotion], by simp [jobEnded], ?_⟩
  simp only [jobEnded, queueLine, queueEvent_eq]
  simp [idleMotion]

theorem jobEnded_lanes (s : State) (n : Lane) :
    ((jobEnded s).eyes.get n).decode = .off
      ∧ ((s.eyes.get n).decode ≠ .off → ((jobEnded s).eyes.get n).startInterval = none ∧ ((jobEnded s).eyes.get n).pitchInterval = none)
      ∧ (jobEnded s).reg.get n = ⟨.unused, none, (s.reg.get n).f, 0, none, none, none, none, none⟩ := by
  generalize same : ((queueLine .jobEnd (s.onMotion idleMotion)).mapReg fun _ => LaneReg.jobEnded) = u
  have ended : jobEnded s = syncEyes u := by rw [← same]; rfl
  have inactive : u.eyeActive n = false := by rw [← same]; simp [State.eyeActive, idleMotion]
  have eye : u.eyes.get n = s.eyes.get n := by rw [← same]; simp
  obtain ⟨off, intervals⟩ := syncedEye_inactive (u.pins.eyeDark.get n) (s.eyes.get n)
  rw [ended, syncEyes_get, inactive, eye]
  refine ⟨off, intervals, ?_⟩
  have reg : (syncEyes u).reg = u.reg := by simp
  rw [reg, ← same, mapReg_reg]
  have kept : (queueLine .jobEnd (s.onMotion idleMotion)).reg = s.reg := by simp
  rw [kept]
  rfl

/-! ## An IN_POSITION that ends HOLDING -/

theorem sequencerInPosition_ignored {s : State} (other : ∀ e ∈ s.cuts.entries, e.status ≠ .indexing) :
    sequencerInPosition s = s := by
  unfold sequencerInPosition
  split
  · next e head =>
    obtain ⟨r, entries⟩ := headEntry_eq_some.mp head
    exact if_neg (other e (by simp [entries]))
  · rfl

/-- A HOLDING line whose stop is complete is HELD or IDLE once the command has settled. -/
theorem settle_of_stopComplete {before s : State} (holding : s.motion.line = .holding) (stopped : s.stopComplete = true) :
    (settle before s).motion.line = if s.motion.jobEnd = true then .idle else .held := by
  have still : s.motion.line ≠ .running := by rw [holding]; decide
  obtain ⟨h, motion⟩ := judgeTrigger_holdsOnly s still
  obtain ⟨outfeed, cutting, speed, laminator⟩ := (stopComplete_iff s).mp stopped
  have triggered : (judgeTrigger s).stopComplete = true := by
    have station := (judgeTrigger_actions s).1
    have status := station.status.laminator
    have records : (judgeTrigger s).station.records = s.station.records := by simp
    refine (stopComplete_iff _).mpr ⟨by rw [motion]; exact outfeed, by simpa using cutting, by rw [motion]; exact speed, ?_⟩
    rw [records, status]
    exact laminator
  have line : (judgeTrigger s).motion.line = .holding := by rw [motion]; exact holding
  have jobEnd : (judgeTrigger s).motion.jobEnd = s.motion.jobEnd := by simp
  have judged (a b : Bool) : judgeHolding a b (judgeTrigger s) = judgeTrigger s := by
    rw [judgeHolding_none (.inl (by simp [motion, outfeed, inMotion])), if_neg (by simp [motion, outfeed, freeOrBounded])]
  have reacted : (reactMotion before (judgeTrigger s)).motion.line = if s.motion.jobEnd = true then .idle else .held := by
    have react : reactMotion before (judgeTrigger s) = endHolding (judgeTrigger s) := by
      simp only [reactMotion, line, judged]
    rw [react]
    by_cases done : s.motion.jobEnd = true
    · rw [endHolding_jobEnd triggered (jobEnd.trans done), if_pos done, jobEndStop_eq, (jobEnded_fields _).1]
    · rw [endHolding_held_of triggered (jobEnd.trans (by simpa using done)), if_neg done]
  have stands : standing (reactMotion before (judgeTrigger s)).motion.line = true := by
    rw [reacted]
    split <;> rfl
  have arbited := (runArbiter_holdsOnly _ (standing_not_running stands)).line
  have stands' : standing (runArbiter (reactMotion before (judgeTrigger s))).motion.line = true := by rw [arbited]; exact stands
  unfold settle
  dsimp only
  rw [reactMotion_standing _ _ stands', (runArbiter_holdsOnly _ (standing_not_running stands')).line, arbited, reacted]

theorem startTx_motion (s : State) : (startTx s).motion = s.motion := by simp

/-- Settles O29: the end of HOLDING, an IN_POSITION that brings it, and the job-end signal. -/
theorem holdingEndsInHeldOrIdle : Obligations.HoldingEndsInHeldOrIdle := by
  refine ⟨fun s => ?_, fun s holding outfeed entries speed laminator => ?_, fun s => ?_⟩
  · intro stopped t
    have complete : s.stopComplete = true ↔ stopped := stopComplete_iff s
    refine ⟨fun moves => if_neg fun h => moves (complete.mp h), fun stops works => endHolding_held_of (complete.mpr stops) works,
      fun stops done => ?_⟩
    have ends : t = jobEnded (stationIfFailed (openNip s)) := endHolding_jobEnd (complete.mpr stops) done
    obtain ⟨motion, station, link⟩ := jobEnded_fields (stationIfFailed (openNip s))
    have lanes := jobEnded_lanes (stationIfFailed (openNip s))
    have eyes : (stationIfFailed (openNip s)).eyes = s.eyes := by simp
    have reg : (stationIfFailed (openNip s)).reg = s.reg := by simp
    rw [eyes, reg] at lanes
    rw [ends]
    refine ⟨?_, fun room => ?_, fun full => ?_, lanes, ?_⟩
    · rcases nipOpened_cases s with ⟨-, opened⟩ | ⟨-, opened⟩
      · rw [motion, opened]
      · rw [motion, opened, addReason_motion]
    · rcases nipOpened_cases s with ⟨-, opened⟩ | ⟨full, -⟩
      · rw [station, link, opened]
        exact ⟨rfl, rfl⟩
      · omega
    · rcases nipOpened_cases s with ⟨room, -⟩ | ⟨-, opened⟩
      · omega
      · rw [station, opened]
        simp
    · simp [jobEnded]
  · let u := outfeedInPosition s
    have stoppedNow : u.motion.outfeed = .stopped := by
      change (match s.motion.outfeed with
        | .free => Outfeed.free
        | .stopped | .bounded _ | .indexed | .halting => .stopped) = _
      cases now : s.motion.outfeed <;> simp_all
    have complete : u.stopComplete = true :=
      (stopComplete_iff u).mpr ⟨stoppedNow, fun e mem => (entries e mem).1, speed, laminator⟩
    refine ⟨startTx (settle s u), ?_, ?_⟩
    · change Host.Outcome.next (startTx (settle s (sequencerInPosition u))) = _
      rw [sequencerInPosition_ignored (s := u) fun e mem => (entries e mem).2]
    · rw [startTx_motion]
      exact settle_of_stopComplete (before := s) (s := u) holding complete
  · intro t
    refine ⟨fun idle => ?_, fun line => ?_, fun line => ?_⟩
    · simp only [t, signalJobEnd, idle]
    · exact signalJobEnd_flags line
    · intro motion
      have enters : t = enterHolding (s.onMotion fun m => { m with jobEnd := true }) := signalJobEnd_enters line
      rw [enters]
      refine ⟨fun room => enterHolding_room room, fun moves full => ?_⟩
      rw [enterHolding_full (s := s.onMotion fun m => { m with jobEnd := true }) moves full, addReason_motion]
      exact ⟨rfl, by simp [enteredHolding]⟩

end Sys2Proof.Machine
end

section
/-! PROOFS. The changeover's trigger and its failure by time (R126, R130). -/
namespace Sys2Proof.Machine

theorem headExpected_isNone (s : State) (n : Lane) : (s.headExpected n).isNone = true ↔ ∀ c ∈ s.lists.get n, c.state ≠ .expected := by
  simp [State.headExpected]

theorem Lanes.all_toList {α : Type} (v : Lanes α) (p : α → Bool) : v.toList.all p = true ↔ ∀ n, p (v.get n) = true := by
  constructor
  · intro all n
    simp only [Lanes.toList, List.all_cons, List.all_nil, Bool.and_eq_true] at all
    obtain ⟨h0, h1, h2, h3, -⟩ := all
    cases n
    · exact h0
    · exact h1
    · exact h2
    · exact h3
  · intro each
    simp only [Lanes.toList, List.all_cons, List.all_nil, Bool.and_eq_true]
    exact ⟨each .lane0, each .lane1, each .lane2, each .lane3, trivial⟩

theorem laneList_all (p : Lane → Bool) : laneList.all p = true ↔ ∀ n, p n = true := by
  constructor
  · intro all n
    refine List.all_eq_true.mp all n ?_
    cases n <;> simp [laneList]
  · exact fun each => List.all_eq_true.mpr fun n _ => each n

theorem triggerMet_iff (s : State) :
    s.triggerMet = true ↔ (∀ n, ∀ c ∈ s.lists.get n, c.state ≠ .expected)
      ∧ (∀ n e, (s.reg.get n).lastEnd = some e → e ≤ s.beamPos) ∧ s.motion.line ≠ .tripped := by
  have ends : s.reg.toList.all (fun r => match r.lastEnd with | some e => decide (e ≤ s.beamPos) | none => true) = true
      ↔ ∀ n e, (s.reg.get n).lastEnd = some e → e ≤ s.beamPos := by
    rw [Lanes.all_toList]
    refine forall_congr' fun n => ?_
    cases (s.reg.get n).lastEnd with
    | none => simp
    | some e => simp
  unfold State.triggerMet
  rw [Bool.and_eq_true, Bool.and_eq_true, laneList_all, and_assoc, bne_iff_ne]
  simp only [headExpected_isNone]
  exact and_congr Iff.rfl (and_congr ends Iff.rfl)

/-! ## The guard (R126) -/

/-- The larger of an optional coordinate and another. -/
def maxWith (acc : Option Int) (e : Int) : Option Int :=
  match acc with
  | none => some e
  | some a => some (higher a e)

theorem foldl_maxWith (l : List Int) (acc : Option Int) :
    (l.foldl maxWith acc = none ↔ acc = none ∧ l = [])
      ∧ ∀ b, l.foldl maxWith acc = some b → (b ∈ l ∨ acc = some b) ∧ (∀ e ∈ l, e ≤ b) ∧ (∀ a, acc = some a → a ≤ b) := by
  induction l generalizing acc with
  | nil => exact ⟨by simp, fun b same => ⟨.inr same, by simp, fun a isAcc => by
      rw [show acc = some b from same] at isAcc
      exact le_of_eq (Option.some.inj isAcc).symm⟩⟩
  | cons x l ih =>
    obtain ⟨isNone, isSome⟩ := ih (maxWith acc x)
    have next : ∃ y, maxWith acc x = some y ∧ (y = x ∨ acc = some y) ∧ x ≤ y ∧ ∀ a, acc = some a → a ≤ y := by
      cases acc with
      | none => exact ⟨x, rfl, .inl rfl, le_refl _, by simp⟩
      | some a =>
        refine ⟨max a x, by rw [maxWith, higher_eq_max], ?_, le_max_right _ _, by simp⟩
        rcases le_total a x with le | le
        · exact .inl (max_eq_right le)
        · exact .inr (by rw [max_eq_left le])
    obtain ⟨y, now, whose, above, above_acc⟩ := next
    refine ⟨by rw [List.foldl_cons, isNone, now]; simp, fun b found => ?_⟩
    obtain ⟨mem, bound, start⟩ := isSome b found
    have top : y ≤ b := start y now
    refine ⟨?_, ?_, fun a isAcc => (above_acc a isAcc).trans top⟩
    · rcases mem with mem | same
      · exact .inl (List.mem_cons_of_mem _ mem)
      · obtain rfl := Option.some.inj (now.symm.trans same)
        rcases whose with rfl | acc
        · exact .inl List.mem_cons_self
        · exact .inr acc
    · intro e mem
      rcases List.mem_cons.mp mem with rfl | mem
      · exact above.trans top
      · exact bound e mem

theorem largestEnd_eq (r : Lanes LaneReg) : largestEnd r = (r.toList.filterMap LaneReg.lastEnd).foldl maxWith none := rfl

theorem mem_lastEnds (r : Lanes LaneReg) (e : Int) : e ∈ r.toList.filterMap LaneReg.lastEnd ↔ ∃ n, (r.get n).lastEnd = some e := by
  rw [List.mem_filterMap]
  constructor
  · rintro ⟨a, mem, isEnd⟩
    simp only [Lanes.toList, List.mem_cons, List.not_mem_nil, or_false] at mem
    rcases mem with rfl | rfl | rfl | rfl
    · exact ⟨.lane0, isEnd⟩
    · exact ⟨.lane1, isEnd⟩
    · exact ⟨.lane2, isEnd⟩
    · exact ⟨.lane3, isEnd⟩
  · rintro ⟨n, isEnd⟩
    refine ⟨r.get n, ?_, isEnd⟩
    cases n <;> simp [Lanes.toList, Lanes.get]

/-- The largest E: none where no lane has one, and otherwise some lane's E that none exceeds (R126). -/
theorem largestEnd_cases (r : Lanes LaneReg) :
    ((∀ n, (r.get n).lastEnd = none) ∧ largestEnd r = none)
    ∨ ∃ b, largestEnd r = some b ∧ (∃ n, (r.get n).lastEnd = some b) ∧ ∀ n e, (r.get n).lastEnd = some e → e ≤ b := by
  obtain ⟨isNone, isSome⟩ := foldl_maxWith (r.toList.filterMap LaneReg.lastEnd) none
  rw [← largestEnd_eq] at isNone
  cases largest : largestEnd r with
  | none =>
    obtain ⟨-, empty⟩ := isNone.mp largest
    refine .inl ⟨fun n => ?_, rfl⟩
    cases end_ : (r.get n).lastEnd with
    | none => rfl
    | some e =>
      have mem := (mem_lastEnds r e).mpr ⟨n, end_⟩
      simp [empty] at mem
  | some b =>
    obtain ⟨mem, bound, -⟩ := isSome b (by rw [← largestEnd_eq, largest])
    refine .inr ⟨b, rfl, ?_, fun n e end_ => bound e ((mem_lastEnds r e).mpr ⟨n, end_⟩)⟩
    rcases mem with mem | acc
    · exact (mem_lastEnds r b).mp mem
    · contradiction

/-! ## The trigger (R126) -/

/-- The state in which the positions action of a triggered changeover is raised. -/
def triggered (l : Layout) (g : Int) (s : State) : State :=
  (syncEyes (s.onBeam fun b => { b with changeover := .moving l g })).mapReg fun _ => LaneReg.blinded

theorem judgeTrigger_met {l : Layout} {s : State} (pending : s.beam.changeover = .pending l) (met : s.triggerMet = true) :
    judgeTrigger s = startMove l (s.triggerGuard l) (triggered l (s.triggerGuard l) s) := by
  simp only [judgeTrigger, pending, if_pos met] <;> rfl

theorem judgeTrigger_unmet {l : Layout} {s : State} (pending : s.beam.changeover = .pending l) (unmet : ¬s.triggerMet = true) :
    judgeTrigger s = s := by
  simp only [judgeTrigger, pending, if_neg unmet]

theorem triggered_lanes (l : Layout) (g : Int) (s : State) (n : Lane) :
    ((triggered l g s).eyes.get n).decode = .off
      ∧ ((s.eyes.get n).decode ≠ .off →
          ((triggered l g s).eyes.get n).startInterval = none ∧ ((triggered l g s).eyes.get n).pitchInterval = none)
      ∧ (triggered l g s).reg.get n = if (s.reg.get n).state = .unused then s.reg.get n else
          ⟨.blind, none, (s.reg.get n).f, 0, none, (s.reg.get n).lastEnd, none, none, none⟩ := by
  have inactive : (s.onBeam fun b => { b with changeover := .moving l g }).eyeActive n = false := by
    simp [State.eyeActive, State.blinded, State.guardAt, State.onBeam]
  have eyes : (triggered l g s).eyes = (syncEyes (s.onBeam fun b => { b with changeover := .moving l g })).eyes := by simp [triggered]
  obtain ⟨off, intervals⟩ := syncedEye_inactive (s.pins.eyeDark.get n) (s.eyes.get n)
  rw [eyes, syncEyes_get, inactive]
  refine ⟨off, intervals, ?_⟩
  have reg : (syncEyes (s.onBeam fun b => { b with changeover := .moving l g })).reg = s.reg := by simp
  rw [triggered, mapReg_reg, reg]
  rfl

/-- The move that starts, with room for its positions action and without (R126, R157). -/
theorem startMove_room {l : Layout} {g : Int} {s : State} (room : s.station.actions.length < 16) :
    startMove l g s = { s with
      beam := { s.beam with changeover := .moving l g, timer := none, move := s.beam.move + 1 }
      station := { s.station with actions := s.station.actions ++ [.positions (s.beam.move + 1) l] } } := by
  unfold startMove
  dsimp only
  rw [pushAction_room (by simpa using room)]
  rfl

theorem startMove_full {l : Layout} {g : Int} {s : State} (full : 16 ≤ s.station.actions.length) :
    startMove l g s = raiseHold .beam { s with
      beam := { s.beam with changeover := .failed l g, timer := none, move := s.beam.move + 1 } } := by
  unfold startMove
  dsimp only
  rw [pushAction_full (by simpa using full)]
  rw [beamActionPushed, if_pos rfl, failChangeover_moving rfl]
  rfl

/-- Settles O33: the trigger met and not met, and the beam timer's expiry. -/
theorem changeoverTriggersAndFails : Obligations.ChangeoverTriggersAndFails := by
  refine ⟨fun l s pending => ?_, fun s other => judgeTrigger_other other, fun l g s timer moving => ?_⟩
  · intro met t
    have isMet : s.triggerMet = true ↔ met := triggerMet_iff s
    refine ⟨fun unmet => judgeTrigger_unmet pending fun h => unmet (isMet.mp h), fun now => ?_⟩
    have starts : t = startMove l (s.triggerGuard l) (triggered l (s.triggerGuard l) s) := judgeTrigger_met pending (isMet.mpr now)
    have base : ∃ base, ((∀ n, (s.reg.get n).lastEnd = none) ∧ base = s.beamPos
          ∨ (∃ n, (s.reg.get n).lastEnd = some base) ∧ ∀ n e, (s.reg.get n).lastEnd = some e → e ≤ base)
        ∧ s.triggerGuard l = max (base + l.gap - 2 * s.par .markWin) s.beamPos := by
      rcases largestEnd_cases s.reg with ⟨none, largest⟩ | ⟨b, largest, lane, bound⟩
      · exact ⟨s.beamPos, .inl ⟨none, rfl⟩, by rw [State.triggerGuard, largest, higher_eq_max]; rfl⟩
      · exact ⟨b, .inr ⟨lane, bound⟩, by rw [State.triggerGuard, largest, higher_eq_max]; rfl⟩
    obtain ⟨base, whose, guard⟩ := base
    refine ⟨base, whose, ?_⟩
    rw [← guard, starts]
    clear starts
    clear_value t
    generalize s.triggerGuard l = g
    have beam : (triggered l g s).beam = { s.beam with changeover := .moving l g } := by simp [triggered]
    have station : (triggered l g s).station = s.station := by simp [triggered]
    have motion : (triggered l g s).motion = s.motion := by simp [triggered]
    have lists : (triggered l g s).lists = s.lists := by simp [triggered]
    have cuts : (triggered l g s).cuts = s.cuts := by simp [triggered]
    have store : (triggered l g s).store = s.store := by simp [triggered]
    have lanes := triggered_lanes l g s
    generalize triggered l g s = u at beam station motion lists cuts store lanes
    have eyes : (startMove l g u).eyes = u.eyes := by simp
    have reg : (startMove l g u).reg = u.reg := by simp
    rw [eyes, reg]
    refine ⟨lanes, by simp [beam], ?_, by simp [lists], by simp [cuts], by simp [store], fun room => ?_, fun full => ?_⟩
    · by_cases room : u.station.actions.length < 16
      · rw [startMove_room room]
      · rw [startMove_full (by omega)]
        simp
    · rw [startMove_room (by rw [station]; exact room)]
      refine ⟨rfl, motion, ?_⟩
      rw [station, beam]
    · rw [startMove_full (by rw [station]; exact full)]
      exact ⟨by simp, fun busy => raiseHold_has .beam (by rw [← motion] at busy; exact busy)⟩
  · have run : exec .beamTimeout s = .next (startTx (settle s (failChangeover s))) := by
      obtain ⟨k, running⟩ := Option.ne_none_iff_exists'.mp timer
      change Host.Outcome.next (startTx (beamExpired s)) = _
      simp only [beamExpired, running]
    have failed : (failChangeover s).beam = { s.beam with changeover := .failed l g, timer := none } := by
      rw [failChangeover_moving moving]
      simp
    have beam : (settle s (failChangeover s)).beam = { s.beam with changeover := .failed l g, timer := none } :=
      (settle_beam_of_quiet s (by simp [failed]) (by simp [failed])).trans failed
    have held : Held .beam (settle s (failChangeover s)) := by
      refine settle_held s ?_
      rw [failChangeover_moving moving]
      exact raiseHold_held _ _
    refine ⟨_, run, by simp [beam], by simp [beam], by simp [beam], fun _ busy => ?_, ?_, by simp⟩
    · rw [startTx_motion] at busy ⊢
      exact (held.resolve_left busy).2
    · simp [MotionOnly]

end Sys2Proof.Machine
end

section
/-! PROOFS. What a trip cause brings (R114, R117, R118, R143, R144). -/
namespace Sys2Proof.Machine

/-- While a transaction is in flight, what follows a command adds line actions at most to the station link. -/
theorem settle_only_of_busy (before : State) {s : State} (busy : s.station.inFlight ≠ none) : ActionsOnly s (settle before s) := by
  have first := (judgeTrigger_actions s).1.trans (reactMotion_actions before (judgeTrigger s)).1
  have still : runArbiter (reactMotion before (judgeTrigger s)) = reactMotion before (judgeTrigger s) :=
    runArbiter_busy (by rw [first.inFlight]; exact busy)
  have all := first.trans (reactMotion_actions (reactMotion before (judgeTrigger s)) (reactMotion before (judgeTrigger s))).1
  unfold settle
  dsimp only
  rw [still, runArbiter_busy (by rw [all.inFlight]; exact busy)]
  exact all

theorem TripSet.add_of_has (t : TripSet) (c : TripCause) (has : t.has c = true) : t.add c = t := by
  obtain ⟨⟩ := t
  cases c <;> simp_all [TripSet.add, TripSet.has]

/-- The head entry and its timers after a trip (R118). -/
theorem tripHead_cuts (s : State) : (tripHead s).cuts = cutsAtTrip s.cuts := by
  unfold tripHead cutsAtTrip State.headEntry
  cases entries : s.cuts.entries with
  | nil => rfl
  | cons e r =>
    cases status : e.status <;> simp [status, State.onHead, State.onCuts, entries, Lanes.same]

/-- A cause in a TRIPPED line joins the set alone (R143). -/
theorem raiseTrip_again (c : TripCause) {s : State} (line : s.motion.line = .tripped) :
    (raiseTrip c s).motion = { s.motion with trips := s.motion.trips.add c } ∧ (raiseTrip c s).cuts = s.cuts := by
  simp only [raiseTrip, line]
  split
  · next has => exact ⟨by rw [TripSet.add_of_has _ _ has, ← line], rfl⟩
  · exact ⟨by simp [← line], by simp⟩

/-- Entering TRIPPED with a commanded speed raises the action of speed 0 (R146). -/
theorem enterTripped_actions (c : TripCause) {s : State} (moves : s.motion.speed ≠ 0) (room : s.station.actions.length < 16) :
    (enterTripped c s).station = { s.station with actions := s.station.actions ++ [.speed 0] } := by
  unfold enterTripped
  dsimp only
  rw [commandSpeed_still (by simp), if_neg (by simpa using moves), pushAction_room (by simpa using room)]
  simp [stationIfFailed]

/-- A trip cause and what follows it, by the line state it finds (R143, R144, R118). -/
theorem settle_raiseTrip_cases (before : State) (c : TripCause) (s : State) :
    let t := settle before (raiseTrip c s)
    (s.motion.line = .idle → t.motion.line = .idle ∧ t.motion.trips = s.motion.trips ∧ t.cuts = s.cuts)
      ∧ (s.motion.line = .tripped → t.motion.line = .tripped ∧ t.motion.trips = s.motion.trips.add c
          ∧ t.motion.firstCause = s.motion.firstCause ∧ t.motion.drive = s.motion.drive ∧ t.cuts = s.cuts)
      ∧ (s.motion.line ≠ .idle → s.motion.line ≠ .tripped →
          t.motion.line = .tripped ∧ t.motion.trips = s.motion.trips.add c ∧ t.motion.firstCause = some c
          ∧ t.motion.drive = some .halt ∧ t.motion.outfeed = .stopped ∧ t.motion.speed = 0
          ∧ t.motion.jobEnd = s.motion.jobEnd ∧ t.cuts = cutsAtTrip s.cuts
          ∧ (s.station.inFlight ≠ none → s.motion.speed ≠ 0 → s.station.actions.length < 16 →
              ∃ more, t.station.actions = s.station.actions ++ .speed 0 :: more)) := by
  intro t
  refine ⟨fun idle => ?_, fun line => ?_, fun active first => ?_⟩
  · obtain ⟨line, trips⟩ := settle_raiseTrip_idle before c idle
    refine ⟨line, trips, ?_⟩
    have kept : raiseTrip c s = s := raiseTrip_idle c s idle
    simp only [t, kept]
    exact settle_cuts_standing before s (by rw [idle]; rfl)
  · obtain ⟨motion, cuts⟩ := raiseTrip_again c line
    have stands : standing (raiseTrip c s).motion.line = true := by rw [motion, line]; rfl
    obtain ⟨h, only⟩ := settle_holdsOnly before (raiseTrip c s) stands
    simp only [t, only, motion]
    exact ⟨line, trivial, trivial, trivial, (settle_cuts_standing before _ stands).trans cuts⟩
  · have entered : raiseTrip c s = enterTripped c s := raiseTrip_first c s active first
    obtain ⟨h, motion⟩ := enterTripped_motion c s
    have stands : standing (enterTripped c s).motion.line = true := by rw [motion]; rfl
    obtain ⟨k, only⟩ := settle_holdsOnly before (enterTripped c s) stands
    simp only [t, entered, only, motion]
    refine ⟨trivial, trivial, trivial, trivial, trivial, trivial, trivial, ?_, fun busy moves room => ?_⟩
    · rw [settle_cuts_standing before _ stands, enterTripped_cuts, tripHead_cuts]
    · have station := enterTripped_actions c moves room
      obtain ⟨more, actions⟩ := (settle_only_of_busy before (s := enterTripped c s) (by rw [station]; exact busy)).actions
      refine ⟨more, ?_⟩
      rw [actions, station, List.append_assoc]
      rfl

/-- The command that raises a cause: only the pins have changed before (R114, R117, R143). -/
theorem exec_tripRaised {i : Instr} {c : TripCause} {s : State} (raised : s.tripRaised i = some c) :
    ∃ p, exec i s = .next (startTx (settle s (raiseTrip c { s with pins := p }))) := by
  unfold State.tripRaised at raised
  split at raised
  · split at raised
    · next running =>
      obtain ⟨k, timer⟩ := Option.isSome_iff_exists.mp running
      obtain rfl := Option.some.inj raised
      refine ⟨s.pins, ?_⟩
      change Host.Outcome.next (startTx (indexExpired s)) = _
      simp only [indexExpired, timer]
    · contradiction
  · split at raised
    · next running =>
      obtain ⟨k, timer⟩ := Option.isSome_iff_exists.mp running
      obtain rfl := Option.some.inj raised
      refine ⟨s.pins, ?_⟩
      change Host.Outcome.next (startTx (cutExpired s)) = _
      simp only [cutExpired, timer]
    · contradiction
  · next input asserted =>
    split at raised
    · next rises =>
      obtain ⟨rfl, low⟩ := rises
      obtain rfl := Option.some.inj raised
      refine ⟨s.pins.setInput input true, ?_⟩
      change Host.Outcome.next (startTx (tripInput input true s)) = _
      rw [tripInput, if_neg (by simp [low]), if_pos rfl]
      rfl
    · contradiction
  · contradiction

/-- Settles O26: a cause in an IDLE, a TRIPPED and any other line. -/
theorem tripCausesTripTheLine : Obligations.TripCausesTripTheLine := by
  intro i c s raised
  obtain ⟨p, run⟩ := exec_tripRaised raised
  obtain ⟨idle, tripped, active⟩ := settle_raiseTrip_cases s c { s with pins := p }
  refine ⟨_, run, motionOnly_settle_raiseTrip s c { s with pins := p }, ?_⟩
  simp only [startTx_frame]
  exact ⟨idle, tripped, active⟩

end Sys2Proof.Machine
end

section
/-! PROOFS. LINE_RESET (R140) and THREAD (R14). -/
namespace Sys2Proof.Machine

/-- A reply made before an event is queued is sent first (R183). -/
theorem sendNext_reply_event {l : LineLink} (f : Frame) (e : Event) (silent : l.reply = none) :
    sendNext (linkEvent { l with reply := some f } e) = linkEvent (linkReplied l f) e := by
  obtain ⟨rx, requests, reply, tx, events, lost, baud⟩ := l
  obtain rfl : reply = none := silent
  by_cases room : events.length < eventMax
  · cases tx <;> simp [sendNext, linkReplied, linkEvent, room]
  · cases tx <;> simp [sendNext, linkReplied, linkEvent, room]

/-! ## LINE_RESET (R140) -/

theorem actionFailed_idle {a : Action} {s : State} (idle : s.motion.line = .idle) (lam : (∃ v, a = .speed v) ∨ ∃ n, a = .nip n) :
    actionFailed a s = s := by
  rw [actionFailed_lam lam]
  simp only [raiseHold, idle]

/-- A LAMINATOR action of an ABSENT role fails without effect in an IDLE line (R157, R165). -/
theorem arbiter_action_fails (k : Nat) {s : State} {a : Action} {r : List Action} (free : s.station.inFlight = none)
    (actions : s.station.actions = a :: r) (idle : s.motion.line = .idle) (lam : (∃ v, a = .speed v) ∨ ∃ n, a = .nip n)
    (absent : s.roleAddr .laminator = 0) :
    arbiter (k + 1) s = arbiter k { s with station := { s.station with actions := r } } := by
  have role : actionRole a = .laminator := by rcases lam with ⟨v, rfl⟩ | ⟨n, rfl⟩ <;> rfl
  rw [arbiter_action k free actions, role, if_pos absent]
  exact congrArg (arbiter k) (actionFailed_idle idle lam)

/-- The arbiter behind a line reset: the two actions go out in turn, or fail without effect in an IDLE line (R157). -/
theorem runArbiter_lineReset {z : State} (idle : z.motion.line = .idle) (actions : z.station.actions = [.speed 0, .nip .opened])
    (relay : z.station.relay = none) :
    ∃ st, runArbiter z = { z with station := st }
      ∧ (z.station.inFlight ≠ none → st = z.station)
      ∧ (z.station.inFlight = none →
          let ms := (z.par .replyTimeout).toNat
          (z.roleAddr .laminator ≠ 0 → st = { z.station with
              actions := [.nip .opened]
              inFlight := some ⟨z.roleAddr .laminator, .action (.speed 0), .write, [1, 16, 0, 0], 0, ms⟩ })
          ∧ (z.roleAddr .laminator = 0 → z.station.due = [] → st = { z.station with actions := [] })
          ∧ (∀ r rs, z.roleAddr .laminator = 0 → z.station.due = r :: rs → st = { z.station with
              actions := [], due := rs, inFlight := some ⟨z.roleAddr r, .poll r, .poll, [], 0, ms⟩ })) := by
  by_cases free : z.station.inFlight = none
  · by_cases absent : z.roleAddr .laminator = 0
    · let y : State := { z with station := { z.station with actions := [.nip .opened] } }
      let x : State := { z with station := { z.station with actions := [] } }
      have first : arbiter 40 z = arbiter 39 y := arbiter_action_fails 39 free actions idle (.inl ⟨0, rfl⟩) absent
      have second : arbiter 39 y = arbiter 38 x := arbiter_action_fails 38 (s := y) free rfl idle (.inr ⟨.opened, rfl⟩) absent
      have both : runArbiter z = arbiter 38 x := first.trans second
      cases due : z.station.due with
      | nil =>
        refine ⟨_, both.trans (arbiter_nothing 38 (s := x) rfl due relay), fun busy => absurd free busy,
          fun _ => ⟨fun present => absurd absent present, fun _ _ => rfl, fun r rs _ more => ?_⟩⟩
        contradiction
      | cons r rs =>
        refine ⟨_, both.trans (arbiter_poll 37 (s := x) free rfl due), fun busy => absurd free busy,
          fun _ => ⟨fun present => absurd absent present, fun _ none => ?_, fun r' rs' _ same => ?_⟩⟩
        · contradiction
        · obtain ⟨rfl, rfl⟩ := List.cons.inj same
          rfl
    · refine ⟨_, (arbiter_action 39 free actions).trans (if_neg absent), fun busy => absurd free busy,
        fun _ => ⟨fun _ => ?_, fun gone => absurd gone absent, fun r rs gone => absurd gone absent⟩⟩
      rfl
  · exact ⟨z.station, runArbiter_busy free, fun _ => rfl, fun none => absurd none free⟩

/-- The state of LINE_RESET before the arbiter (R140). -/
def resetLine (tag : Byte) (s : State) : State :=
  queueLine .state (((resetBlocks (reply 0x08 tag .ok [] s)).onStation fun t =>
    { t with actions := [.speed 0, .nip .opened] }).onMotion fun _ => resetMotion)

/-- Settles O31: the blocks of the reset, its event behind the reply, and what the arbiter sends of its actions. -/
theorem lineResetClearsTheJob : Obligations.LineResetClearsTheJob := by
  intro tag s ready
  obtain ⟨silent, -, relay, -⟩ := id ready
  obtain ⟨st, ran, busy, free⟩ := runArbiter_lineReset (z := resetLine tag s) rfl rfl relay
  have run : exec (.lineReset tag) s = .next (startTx (runArbiter (resetLine tag s))) :=
    exec_request_ready (r := .lineReset) ready rfl trivial
  have status : SameStatus (resetLine tag s) (runArbiter (resetLine tag s)) := arbiter_status 40 _
  have records : (runArbiter (resetLine tag s)).station.records = (resetLine tag s).station.records := by simp
  rw [ran] at run status records
  refine ⟨_, run, ?_, rfl, rfl, rfl, fun n => ?_, rfl, rfl, rfl, rfl, rfl, rfl, rfl, rfl, rfl, rfl, rfl,
    records, status.laminator, status.beam, status.unwind, status.trim, rfl, fun flies => ?_, free⟩
  · exact sendNext_reply_event _ _ silent
  · cases n <;> exact ⟨rfl, rfl, rfl⟩
  · exact busy (Option.isSome_iff_ne_none.mp flies)

end Sys2Proof.Machine
end

section
/-! PROOFS. THREAD (R14, R145, R149). -/
namespace Sys2Proof.Machine

/-! ## Band, starve flag and a TRIPPED line, while a command is taken -/

/-- Band and starve flag are the same, and a TRIPPED line stays so. -/
def KeepsJudged (s t : State) : Prop :=
  t.motion.band = s.motion.band ∧ t.motion.starve = s.motion.starve ∧ (s.motion.line = .tripped → t.motion.line = .tripped)

theorem KeepsJudged.trans {s t u : State} (first : KeepsJudged s t) (second : KeepsJudged t u) : KeepsJudged s u := by
  obtain ⟨band, starve, line⟩ := first
  obtain ⟨band', starve', line'⟩ := second
  exact ⟨band'.trans band, starve'.trans starve, fun tripped => line' (line tripped)⟩

theorem KeepsJudged.same {s t : State} (motion : t.motion = s.motion) : KeepsJudged s t := by
  refine ⟨?_, ?_, ?_⟩ <;> rw [motion]
  exact id

theorem HoldsRise.keepsJudged {s t : State} (rise : HoldsRise s t) : KeepsJudged s t := by
  refine ⟨?_, ?_, fun tripped => (rise.line_of_not_running (by rw [tripped]; decide)).trans tripped⟩
  · rcases rise.motion with ⟨h, m⟩ | ⟨_, h, m⟩ <;> rw [m]
  · rcases rise.motion with ⟨h, m⟩ | ⟨_, h, m⟩ <;> rw [m]

theorem judgeOutfeed_keepsJudged (s : State) : KeepsJudged s (judgeOutfeed s) := by
  refine ⟨?_, ?_, by simp⟩
  all_goals
    unfold judgeOutfeed issueIndex sendDrive
    repeat' split
    all_goals rfl

theorem judgeHolding_keepsJudged (a b : Bool) (s : State) : KeepsJudged s (judgeHolding a b s) := by
  refine ⟨?_, ?_, by simp⟩
  all_goals
    unfold judgeHolding issueIndex sendDrive
    repeat' split
    all_goals rfl

theorem endHolding_keepsJudged {s : State} (holding : s.motion.line = .holding) : KeepsJudged s (endHolding s) := by
  refine ⟨?_, ?_, fun tripped => absurd (holding.symm.trans tripped) (by decide)⟩
  all_goals
    unfold endHolding
    split
    · split
      · rw [jobEndStop_eq, (jobEnded_fields _).1]
        rcases nipOpened_cases s with ⟨-, opened⟩ | ⟨-, opened⟩
        · rw [opened]
        · rw [opened, addReason_motion]
      · simp
    · rfl

theorem reactMotion_keepsJudged (before s : State) : KeepsJudged s (reactMotion before s) := by
  unfold reactMotion
  split
  · split
    · exact judgeOutfeed_keepsJudged s
    · exact .same rfl
  · next holding =>
    exact (judgeHolding_keepsJudged _ _ s).trans (endHolding_keepsJudged (by simpa using holding))
  all_goals exact .same rfl

theorem settle_keepsJudged (before s : State) : KeepsJudged s (settle before s) :=
  ((((judgeTrigger_rise s).keepsJudged.trans (reactMotion_keepsJudged before _)).trans (runArbiter_rise _).keepsJudged).trans
    (reactMotion_keepsJudged _ _)).trans (runArbiter_rise _).keepsJudged

theorem settleAll_keepsJudged (before s : State) : KeepsJudged s (settleAll before s) :=
  (settleReg_raises s).toHoldsRise.keepsJudged.trans (settle_keepsJudged before _)

theorem enterHolding_keepsJudged {s : State} (line : s.motion.line ≠ .tripped) : KeepsJudged s (enterHolding s) := by
  obtain ⟨h, motion⟩ := enterHolding_motion s
  refine ⟨?_, ?_, fun tripped => absurd tripped line⟩ <;> rw [motion]

theorem examineJobEnd_keepsJudged (s : State) : KeepsJudged s (examineJobEnd s) := by
  unfold examineJobEnd
  split
  · unfold signalJobEnd
    have enters (line : s.motion.line ≠ .tripped) : KeepsJudged s (enterHolding (s.onMotion fun m => { m with jobEnd := true })) :=
      enterHolding_keepsJudged (s := s.onMotion fun m => { m with jobEnd := true }) line
    split
    · exact .same rfl
    · next line => exact enters (by rw [line]; decide)
    · next line => exact enters (by rw [line]; decide)
    · next line => exact enters (by rw [line]; decide)
    all_goals exact ⟨rfl, rfl, id⟩
  · exact .same rfl

theorem readRecord_keepsJudged (p : Fin 8) (slot copy : Nat) (s : State) : KeepsJudged s (readRecord p slot copy s) := by
  unfold readRecord
  split
  · exact .same (by simp)
  · split
    · exact .same (by simp)
    · exact (KeepsJudged.same (by simp)).trans (judgeTrigger_rise _).keepsJudged
    · exact (KeepsJudged.same (by simp)).trans (examineJobEnd_keepsJudged _)
    · exact .same (by simp)

theorem readLoop_keepsJudged (k : Nat) (s : State) : KeepsJudged s (readLoop k s) := by
  induction k generalizing s with
  | zero => exact .same rfl
  | succ k ih =>
    unfold readLoop
    split
    · exact (readRecord_keepsJudged _ _ _ s).trans (ih _)
    all_goals exact .same rfl

theorem takePage_keepsJudged (s : State) : KeepsJudged s (takePage s) := by
  have needed : KeepsJudged s (needPage s) := .same (by simp)
  exact needed.trans (readLoop_keepsJudged 512 _)

theorem raiseTrip_keepsJudged (c : TripCause) (s : State) : KeepsJudged s (raiseTrip c s) := by
  by_cases idle : s.motion.line = .idle
  · rw [raiseTrip_idle c s idle]
    exact .same rfl
  · by_cases line : s.motion.line = .tripped
    · rw [KeepsJudged, (raiseTrip_again c line).1]
      exact ⟨rfl, rfl, id⟩
    · obtain ⟨h, motion⟩ := enterTripped_motion c s
      rw [raiseTrip_first c s idle line, KeepsJudged, motion]
      exact ⟨rfl, rfl, fun _ => rfl⟩

theorem tripIfAsserted_keepsJudged (i : TripInput) (s : State) : KeepsJudged s (tripIfAsserted i s) := by
  unfold tripIfAsserted
  split
  · exact raiseTrip_keepsJudged _ s
  · exact .same rfl

/-- An input that stands trips a line that is not IDLE (R143). -/
theorem tripIfAsserted_trips {i : TripInput} {s : State} (active : s.motion.line ≠ .idle) (asserted : s.pins.input i = true) :
    (tripIfAsserted i s).motion.line = .tripped := by
  rw [tripIfAsserted, if_pos asserted]
  exact (raiseTrip_tripped _ s active).1

/-- The inputs in turn keep the band and the starve flag, and trip the line when one stands (R143, log entry 46). -/
theorem tripAsserted_judged (s : State) :
    KeepsJudged s (tripAsserted s) ∧ (s.motion.line ≠ .idle → s.tripInputStands → (tripAsserted s).motion.line = .tripped) := by
  have first := tripIfAsserted_keepsJudged .estop s
  have second := tripIfAsserted_keepsJudged .dancerTop (tripIfAsserted .estop s)
  have third := tripIfAsserted_keepsJudged .dancerBottom (tripIfAsserted .dancerTop (tripIfAsserted .estop s))
  have fourth := tripIfAsserted_keepsJudged .driveFault
    (tripIfAsserted .dancerBottom (tripIfAsserted .dancerTop (tripIfAsserted .estop s)))
  refine ⟨((first.trans second).trans third).trans fourth, fun active stands => ?_⟩
  have active1 := tripIfAsserted_active .estop active
  have active2 := tripIfAsserted_active .dancerTop active1
  have active3 := tripIfAsserted_active .dancerBottom active2
  obtain ⟨i, stands⟩ := stands
  cases i with
  | estop => exact fourth.2.2 (third.2.2 (second.2.2 (tripIfAsserted_trips active stands)))
  | dancerTop => exact fourth.2.2 (third.2.2 (tripIfAsserted_trips active1 (by simpa using stands)))
  | dancerBottom => exact fourth.2.2 (tripIfAsserted_trips active2 (by simpa using stands))
  | driveFault => exact tripIfAsserted_trips active3 (by simpa using stands)

/-! ## THREAD -/

theorem doThread_idle {tag : Byte} {p : Word32} {s : State} (idle : s.motion.line = .idle) :
    doThread tag p s = if s.par .cMin ≤ (p.toNat : Int) ∧ (p.toNat : Int) ≤ s.par .cMax then
      settleAll s (threadAll p.toNat (reply 0x03 tag .ok [] s)) else reply 0x03 tag .badValue [0] s :=
  if_neg (not_not_intro idle)

/-- The registration record of a lane at THREAD (R79). -/
theorem threaded_eq (used : Bool) : LaneReg.threaded used = { LaneReg.cleared with state := if used then .seeking else .unused } := by
  cases used <;> rfl

theorem startTx_web (s : State) : (startTx s).web = s.web := rfl

theorem startTx_zones (s : State) : (startTx s).zones = s.zones := rfl

/-- Settles O32: THREAD refused outside IDLE and outside C_MIN to C_MAX, and taken. -/
theorem threadStartsTheJob : Obligations.ThreadStartsTheJob := by
  intro tag p s ready
  have run : exec (.thread tag p) s = .next (startTx (doThread tag p s)) :=
    exec_request_ready (r := .thread p) ready rfl trivial
  refine ⟨fun busy => ?_, fun idle outside => ?_, fun idle least most => ?_⟩
  · exact exec_request_answered (c := .thread tag p) (r := .thread p) (kind := 0x03) (st := .wrongState) (rest := []) (u := s)
      ready rfl trivial (if_pos busy)
  · refine exec_request_answered (c := .thread tag p) (r := .thread p) (kind := 0x03) (st := .badValue) (rest := [0]) (u := s)
      ready rfl trivial ((doThread_idle idle).trans (if_neg ?_))
    rintro ⟨least, most⟩
    omega
  · rw [doThread_idle idle, if_pos ⟨least, most⟩] at run
    let u := threadBlocks p.toNat (reply 0x03 tag .ok [] s)
    let v := tripAsserted (syncEyes (queueLine .state u))
    have taken : threadAll p.toNat (reply 0x03 tag .ok [] s) = takePage v := rfl
    rw [taken] at run
    have judged : KeepsJudged u (settleAll s (takePage v)) := by
      have first : KeepsJudged u (syncEyes (queueLine .state u)) := .same (by simp)
      exact ((first.trans (tripAsserted_judged _).1).trans (takePage_keepsJudged v)).trans (settleAll_keepsJudged s _)
    obtain ⟨band, starve, -⟩ := judged
    refine ⟨⟨_, run, ?_, ?_, ?_, ?_, ?_, ?_, ?_, ?_, fun stands => ?_⟩, u, run, rfl, rfl, rfl, rfl, rfl, rfl, rfl, rfl, fun n => ?_⟩
    · have reply : (settleAll s (takePage v)).link.reply = (reply 0x03 tag .ok [] s).link.reply := by simp [v, u]
      exact replied_of s _ ⟨0x83, tag, [0x00]⟩ (reply.trans rfl) (by simp [v, u])
    · have web : (settleAll s (takePage v)).web = u.web := by simp [v]
      rw [startTx_web, web]
      rfl
    · have zones : (settleAll s (takePage v)).zones = u.zones := by simp [v]
      rw [startTx_zones, zones]
      rfl
    · simp [v, u]
    · simp [v, u]
    · simp [v, u]
    · rw [startTx_motion, band]
      rfl
    · have least : u.motion.starve = decide ((p.toNat : Int) = s.par .cMin) := rfl
      rw [startTx_motion, starve, least]
      exact decide_eq_true_iff
    · rw [startTx_motion]
      have tripped : v.motion.line = .tripped :=
        (tripAsserted_judged (syncEyes (queueLine .state u))).2 (by
          have line : (syncEyes (queueLine .state u)).motion.line = .ready := by simp [u, threadBlocks_motion]
          rw [line]
          decide) (by
          obtain ⟨i, asserted⟩ := stands
          exact ⟨i, by simpa [u] using asserted⟩)
      exact ((takePage_keepsJudged v).trans (settleAll_keepsJudged s _)).2.2 tripped
    · change (threadBlocks p.toNat (reply 0x03 tag .ok [] s)).reg.get n = _
      have reg : (threadBlocks p.toNat (reply 0x03 tag .ok [] s)).reg.get n = LaneReg.threaded (s.used n) := by
        cases n <;> rfl
      rw [reg, threaded_eq]
      cases n <;> rfl

end Sys2Proof.Machine
end

section
/-! PROOFS. The dwell timer (R147), a BUSY that is released (R176), HOLD and RECOVER (R137, R139). -/
namespace Sys2Proof.Machine

/-! ## A nip that is open stays open while a command settles -/

/-- The nip is OPEN afterwards where it was before. -/
def KeepsOpen (s t : State) : Prop := s.motion.nip = .opened → t.motion.nip = .opened

theorem HoldsRise.keepsOpen {s t : State} (rise : HoldsRise s t) : KeepsOpen s t := fun opened => rise.nip.trans opened

theorem endHolding_keepsOpen (s : State) : KeepsOpen s (endHolding s) := by
  intro opened
  unfold endHolding
  split
  · split
    · rw [jobEndStop_eq, (jobEnded_fields _).1]
      rcases nipOpened_cases s with ⟨-, now⟩ | ⟨-, now⟩
      · rw [now]
      · rw [now, addReason_motion]
    · simpa using opened
  · exact opened

theorem reactMotion_keepsOpen (before s : State) : KeepsOpen s (reactMotion before s) := by
  intro opened
  unfold reactMotion
  split
  · split
    · simpa using opened
    · exact opened
  · exact endHolding_keepsOpen _ (by simpa using opened)
  all_goals exact opened

theorem settle_keepsOpen (before s : State) : KeepsOpen s (settle before s) := fun opened =>
  (runArbiter_rise _).keepsOpen (reactMotion_keepsOpen _ _ ((runArbiter_rise _).keepsOpen
    (reactMotion_keepsOpen before _ ((judgeTrigger_rise s).keepsOpen opened))))

/-! ## The dwell timer (R94, R147) -/

theorem addPlaced_zones (z : Zone) (s : State) : (addPlaced z s).zones = (mergeZone z s.zones).1 := by
  unfold addPlaced
  rcases mergeZone z s.zones with ⟨l, _ | m⟩
  · rfl
  · simp

/-- The zones a report leaves depend on the zones, the lock point and whether the line is IDLE (R94, R95). -/
theorem reportZone_zones_congr {lo len : Int} {cause : ZoneCause} {s t : State} (zones : t.zones = s.zones)
    (lock : t.lockPoint = s.lockPoint) (line : t.motion.line = .idle ↔ s.motion.line = .idle) :
    (reportZone lo len cause t).zones = (reportZone lo len cause s).zones := by
  by_cases silent : s.motion.line = .idle ∨ len = 0
  · rw [reportZone_silent silent, reportZone_silent (by rw [line]; exact silent), zones]
  · have told : ¬(t.motion.line = .idle ∨ len = 0) := by rw [line]; exact silent
    cases placed : placeZone s.lockPoint ⟨lo, lo + len, cause⟩ with
    | none =>
      rw [reportZone_late silent placed, reportZone_late told (by rw [lock]; exact placed)]
      simpa using zones
    | some z =>
      rw [reportZone_placed silent placed, reportZone_placed told (by rw [lock]; exact placed), addPlaced_zones, addPlaced_zones, zones]

theorem dwellRunning_busy {s : State} (running : s.dwellRunning = true) : s.motion.line ≠ .idle := by
  simp only [State.dwellRunning, Bool.and_eq_true, bne_iff_ne] at running
  exact running.1.1.1

/-- The nip opened as a dwell expiry does it, with the STATION hold of an action list that is full (R147). -/
theorem dwellOpened (s : State) :
    let u := laminatorFailed (openNip s)
    HoldsRise { s with motion := { s.motion with nip := .opened } } u ∧ u.params = s.params ∧ u.web = s.web ∧ u.zones = s.zones
      ∧ (s.station.actions.length < 16 → u.station = { s.station with actions := s.station.actions ++ [.nip .opened] }) := by
  intro u
  by_cases room : s.station.actions.length < 16
  · have opened : u = { s with
        motion := { s.motion with nip := .opened }
        station := { s.station with actions := s.station.actions ++ [.nip .opened] } } := by
      simp only [u, openNip_room room]
      rfl
    rw [opened]
    exact ⟨.same rfl, rfl, rfl, rfl, fun _ => rfl⟩
  · have opened : u = raiseHold .station { s with motion := { s.motion with nip := .opened } } := by
      simp only [u, openNip_full (Nat.not_lt.mp room)]
      rfl
    rw [opened]
    exact ⟨raiseHold_rise _ _, by simp, by simp, by simp, fun fits => absurd fits room⟩

/-- Settles O27: the nip, its action and the zone of a dwell that expires. -/
theorem dwellExpiryOpensNip : Obligations.DwellExpiryOpensNip := by
  intro s running
  have run : exec .dwellExpiry s = .next (startTx (settle s (reportDwell (laminatorFailed (openNip s))))) := by
    change Host.Outcome.next (startTx (dwellExpired s)) = _
    rw [dwellExpired, if_pos running]
  obtain ⟨rise, params, web, zones, station⟩ := dwellOpened s
  have busy := dwellRunning_busy running
  have line := rise.line_ne_idle busy
  have nip := rise.nip
  refine ⟨_, run, ?_, ?_, fun flies room => ?_, ?_⟩
  · rw [startTx_motion]
    exact settle_keepsOpen s _ (by simpa using nip)
  · have same : (startTx (settle s (reportDwell (laminatorFailed (openNip s))))).zones
        = (reportDwell (laminatorFailed (openNip s))).zones := by simp
    rw [same, reportDwell, State.inPos, State.par, params, web]
    exact reportZone_zones_congr zones (by rw [State.lockPoint, State.outPos, State.par, params, web]; rfl)
      ⟨fun idle => absurd idle line, fun idle => absurd idle busy⟩
  · have sent : (reportDwell (laminatorFailed (openNip s))).station
        = { s.station with actions := s.station.actions ++ [.nip .opened] } := by
      rw [← station room]
      simp
    obtain ⟨more, actions⟩ := (settle_only_of_busy s (s := reportDwell (laminatorFailed (openNip s)))
      (by rw [sent]; exact Option.isSome_iff_ne_none.mp flies)).actions
    refine ⟨more, ?_⟩
    simp only [startTx_frame]
    rw [actions, sent, List.append_assoc]
    rfl
  · simp

/-! ## The traverse (R115, R176) -/

/-- The Cut Queue with its head CUTTING: timer, start line and lane lines (R115, R151). -/
def cutsCutting (s : State) (e : Entry) (r : List Entry) : Cuts := { s.cuts with
  entries := { e with status := .cutting } :: r, cutTimer := some (s.par .cutTimeout).toNat, knifeStart := true,
  knifeLanes := ⟨e.parts.l0.isSome, e.parts.l1.isSome, e.parts.l2.isSome, e.parts.l3.isSome⟩ }

theorem sendTraverse_eq {e : Entry} {r : List Entry} {s : State} (entries : s.cuts.entries = e :: r) :
    sendTraverse e s = { s with cuts := cutsCutting s e r } := by
  unfold sendTraverse
  simp only [State.onHead, State.onCuts, entries]
  rfl

theorem tryTraverse_positioned {e : Entry} {r : List Entry} {s : State} (entries : s.cuts.entries = e :: r)
    (positioned : e.status = .positioned) :
    tryTraverse s = if s.motion.line = .running ∧ s.lanesClear e = true then { s with cuts := cutsCutting s e r } else s := by
  have traverse := sendTraverse_eq entries
  simp only [tryTraverse, headEntry_eq_some.mpr ⟨r, entries⟩, positioned, true_and, traverse]

theorem tryTraverse_other {s : State} (other : ∀ e r, s.cuts.entries = e :: r → e.status ≠ .positioned) : tryTraverse s = s := by
  unfold tryTraverse
  split
  · next e head =>
    obtain ⟨r, entries⟩ := headEntry_eq_some.mp head
    exact if_neg fun h => other e r entries h.1
  · rfl

theorem headExecuting_of {s : State} {e : Entry} {r : List Entry} (entries : s.cuts.entries = e :: r)
    (runs : e.status = .indexing ∨ e.status = .positioned ∨ e.status = .cutting ∨ e.status = .interrupted) : s.headExecuting = true :=
  (headExecuting_iff s).mpr ⟨e, r, entries, runs⟩

/-- A POSITIONED head examined, and what follows the command: it is cut or stays POSITIONED (R115). -/
theorem settle_tryTraverse_cuts (before : State) {e : Entry} {r : List Entry} {s : State} (entries : s.cuts.entries = e :: r)
    (positioned : e.status = .positioned) :
    (settle before (tryTraverse s)).cuts
      = if s.motion.line = .running ∧ s.lanesClear e = true then cutsCutting s e r else s.cuts := by
  rw [tryTraverse_positioned entries positioned]
  split
  · exact settle_cuts_executing before _ (headExecuting_of (s := { s with cuts := cutsCutting s e r }) rfl (.inr (.inr (.inl rfl))))
  · exact settle_cuts_executing before s (headExecuting_of entries (.inr (.inl positioned)))

theorem endsIn_iff (e : Entry) (n : Lane) : endsIn e n = true ↔ ∃ p q, e.parts.get n = some p ∧ p.ends = some q := by
  unfold endsIn
  cases e.parts.get n with
  | none => simp
  | some p => simp [Option.isSome_iff_exists]

theorem lanesClear_iff (s : State) (e : Entry) :
    s.lanesClear e = true ↔ ∀ n p q, e.parts.get n = some p → p.ends = some q →
      (∀ c ∈ s.lists.get n, c.state ≠ .cut ∧ c.state ≠ .delivering)
      ∧ ¬((s.par .handoffInhibit).toNat.testBit (laneNum n) = true ∧ s.busyAsserted n = true) := by
  have clear (n : Lane) : (s.tableFree n && !s.inhibited n) = true
      ↔ (∀ c ∈ s.lists.get n, c.state ≠ .cut ∧ c.state ≠ .delivering)
        ∧ ¬((s.par .handoffInhibit).toNat.testBit (laneNum n) = true ∧ s.busyAsserted n = true) := by
    simp [State.tableFree, State.inhibited, ← Bool.not_eq_true, imp_iff_not_or]
  unfold State.lanesClear
  rw [laneList_all]
  refine forall_congr' fun n => ?_
  rw [Bool.or_eq_true, clear, Bool.not_eq_true', ← Bool.not_eq_true, endsIn_iff]
  constructor
  · rintro (none | free) p q part ends
    · exact absurd ⟨p, q, part, ends⟩ none
    · exact free
  · intro each
    by_cases ends : ∃ p q, e.parts.get n = some p ∧ p.ends = some q
    · obtain ⟨p, q, part, ends⟩ := ends
      exact .inr (each p q part ends)
    · exact .inl ends

/-- Settles O41: when the lanes are clear, and each change of BUSY. -/
theorem busyReleaseLetsTraverseStart : Obligations.BusyReleaseLetsTraverseStart := by
  refine ⟨fun e s => lanesClear_iff s e, fun n high s => ?_⟩
  intro u
  have run : exec (.busyChange n high) s = .next (startTx (busyChange n high s)) := rfl
  have changes (moved : s.pins.busy.get n ≠ high) : busyChange n high s
      = if u.busyAsserted n = false ∧ (u.par .handoffInhibit).toNat.testBit (laneNum n) = true then settle s (tryTraverse u) else u :=
    if_neg moved
  refine ⟨fun same => ?_, fun moved quiet => ?_, fun e r moved released masked entries positioned => ?_,
    fun moved released masked other => ?_⟩
  · rw [run, busyChange, if_pos same]
  · have stays : ¬(u.busyAsserted n = false ∧ (u.par .handoffInhibit).toNat.testBit (laneNum n) = true) := by
      rintro ⟨released, masked⟩
      rcases quiet with asserted | unmasked
      · exact Bool.noConfusion (released.symm.trans asserted)
      · exact Bool.noConfusion (unmasked.symm.trans masked)
    rw [run, changes moved, if_neg stays]
  · rw [changes moved, if_pos ⟨released, masked⟩] at run
    have cuts := settle_tryTraverse_cuts s (s := u) entries positioned
    refine ⟨_, run, by simp, by simp [MotionOnly, u], ?_⟩
    exact cuts
  · rw [run, changes moved, if_pos ⟨released, masked⟩, tryTraverse_other (s := u) other]

end Sys2Proof.Machine
end

section
/-! PROOFS. HOLD and RECOVER (R137, R139), and a HOLDING line while a command settles. -/
namespace Sys2Proof.Machine

/-- A reply made before an operation that keeps reply and transmitter has begun or waits behind it. -/
theorem replied_behind {s u : State} {kind tag : Byte} {st : Status} {rest : List Byte}
    (reply_ : u.link.reply = (reply kind tag st rest s).link.reply) (tx : u.link.tx = s.link.tx) :
    Replied s (startTx u) (replyFrame kind tag st rest) := replied_of s u _ (reply_.trans rfl) tx

/-! ## A line that is HOLDING -/

/-- A HOLDING line in t, or one that has come to HELD, or at job end to IDLE; its speed is as it was, and of its trips it may have
lost those it had. -/
structure AfterHolding (s t : State) : Prop where
  line : t.motion.line = .holding ∨ (s.motion.jobEnd = false ∧ t.motion.line = .held)
    ∨ (s.motion.jobEnd = true ∧ t.motion.line = .idle)
  speed : t.motion.speed = s.motion.speed
  jobEnd : t.motion.line = .holding → t.motion.jobEnd = s.motion.jobEnd
  trips : t.motion.trips = s.motion.trips ∨ t.motion.trips = TripSet.empty
  first : t.motion.firstCause = s.motion.firstCause ∨ t.motion.firstCause = none

theorem afterHolding_rise {s t : State} (holding : s.motion.line = .holding) (rise : HoldsRise s t) :
    AfterHolding s t ∧ t.motion.line = .holding := by
  rcases rise.motion with ⟨h, m⟩ | ⟨run, h, m⟩
  · have line : t.motion.line = .holding := by rw [m]; exact holding
    exact ⟨⟨.inl line, by rw [m], fun _ => by rw [m], .inl (by rw [m]), .inl (by rw [m])⟩, line⟩
  · exact absurd (holding.symm.trans run) (by decide)

theorem AfterHolding.rise {s t u : State} (after : AfterHolding s t) (rise : HoldsRise t u) : AfterHolding s u := by
  obtain ⟨line, speed, jobEnd, trips, first⟩ := after
  have still : t.motion.line ≠ .running := by
    rcases line with line | ⟨-, line⟩ | ⟨-, line⟩ <;> rw [line] <;> decide
  rcases rise.motion with ⟨h, m⟩ | ⟨run, h, m⟩
  · exact ⟨by rw [m]; exact line, by rw [m]; exact speed, by rw [m]; exact jobEnd, by rw [m]; exact trips, by rw [m]; exact first⟩
  · exact absurd run still

theorem judgeHolding_rest (a b : Bool) (s : State) :
    (judgeHolding a b s).motion.speed = s.motion.speed ∧ (judgeHolding a b s).motion.trips = s.motion.trips
      ∧ (judgeHolding a b s).motion.firstCause = s.motion.firstCause := by
  unfold judgeHolding issueIndex sendDrive
  split
  · exact ⟨rfl, rfl, rfl⟩
  · split <;> exact ⟨rfl, rfl, rfl⟩

theorem endHolding_after {s : State} (holding : s.motion.line = .holding) : AfterHolding s (endHolding s) := by
  by_cases stopped : s.stopComplete = true
  · by_cases done : s.motion.jobEnd = true
    · rw [endHolding_jobEnd stopped done, jobEndStop_eq]
      have speed : (stationIfFailed (openNip s)).motion.speed = s.motion.speed := by
        rcases nipOpened_cases s with ⟨-, opened⟩ | ⟨-, opened⟩
        · rw [opened]
        · rw [opened, addReason_motion]
      obtain ⟨motion, -, -⟩ := jobEnded_fields (stationIfFailed (openNip s))
      exact ⟨.inr (.inr ⟨done, by rw [motion]⟩), by rw [motion]; exact speed, by rw [motion]; intro h; contradiction,
        .inr (by rw [motion]), .inr (by rw [motion])⟩
    · rw [endHolding_held_of stopped (by simpa using done)]
      exact ⟨.inr (.inl ⟨by simpa using done, rfl⟩), rfl, fun h => by contradiction, .inl rfl, .inl rfl⟩
  · have kept : endHolding s = s := if_neg stopped
    rw [kept]
    exact ⟨.inl holding, rfl, fun _ => rfl, .inl rfl, .inl rfl⟩

theorem AfterHolding.react {s t : State} (before : State) (after : AfterHolding s t) : AfterHolding s (reactMotion before t) := by
  by_cases holding : t.motion.line = .holding
  · let u := judgeHolding (before.motion.line != .holding) (before.headKey != t.headKey) t
    have reacted : reactMotion before t = endHolding u := by simp only [reactMotion, holding, u]
    obtain ⟨lineU, -⟩ := judgeHolding_lineHolds (before.motion.line != .holding) (before.headKey != t.headKey) t
    obtain ⟨speedU, tripsU, firstU⟩ := judgeHolding_rest (before.motion.line != .holding) (before.headKey != t.headKey) t
    have jobEndU : u.motion.jobEnd = s.motion.jobEnd := by
      have same : u.motion.jobEnd = t.motion.jobEnd := by simp [u]
      exact same.trans (after.jobEnd holding)
    obtain ⟨line, speed, jobEnd, trips, first⟩ := endHolding_after (s := u) (lineU.trans holding)
    rw [reacted]
    refine ⟨by rw [← jobEndU]; exact line, (speed.trans speedU).trans after.speed, fun h => (jobEnd h).trans jobEndU, ?_, ?_⟩
    · rcases trips with same | empty
      · rw [same, show u.motion.trips = t.motion.trips from tripsU]
        exact after.trips
      · exact .inr empty
    · rcases first with same | none
      · rw [same, show u.motion.firstCause = t.motion.firstCause from firstU]
        exact after.first
      · exact .inr none
  · have stands : standing t.motion.line = true := by
      rcases after.line with line | ⟨-, line⟩ | ⟨-, line⟩
      · exact absurd line holding
      · rw [line]; rfl
      · rw [line]; rfl
    rw [reactMotion_standing before t stands]
    exact after

/-- A HOLDING line while a command settles (R142). -/
theorem settle_of_holding (before : State) {s : State} (holding : s.motion.line = .holding) : AfterHolding s (settle before s) :=
  ((((afterHolding_rise holding (judgeTrigger_rise s)).1.react before).rise (runArbiter_rise _)).react _).rise (runArbiter_rise _)

/-- In a line that stands, what follows a command raises hold reasons at most. -/
theorem settle_standing_rise (before : State) {s : State} (stands : standing s.motion.line = true) : HoldsRise s (settle before s) := by
  have first : standing (judgeTrigger s).motion.line = true := by
    rw [(judgeTrigger_rise s).line_of_not_running (standing_not_running stands)]
    exact stands
  have second : standing (runArbiter (judgeTrigger s)).motion.line = true := by
    rw [(runArbiter_rise _).line_of_not_running (standing_not_running first)]
    exact first
  unfold settle
  dsimp only
  rw [reactMotion_standing _ _ first, reactMotion_standing _ _ second]
  exact ((judgeTrigger_rise s).trans (runArbiter_rise _)).trans (runArbiter_rise _)

/-! ## HOLD (R137, R141) -/

theorem doHold_taken {tag : Byte} {s : State} (idle : s.motion.line ≠ .idle) (ready : s.motion.line ≠ .ready) :
    doHold tag s = settle s (raiseHold .host (reply 0x05 tag .ok [] s)) := by
  unfold doHold
  split
  · next line => exact absurd line idle
  · next line => exact absurd line ready
  all_goals rfl

/-- A reason raised in a RUNNING line: HOLDING with the commanded speed 0 and its action behind the waiting ones (R142, R146). -/
theorem raiseHold_running (r : HoldReason) {s : State} (run : s.motion.line = .running) :
    (raiseHold r s).motion.speed = 0 ∧ (raiseHold r s).motion.line = .holding ∧ (raiseHold r s).motion.jobEnd = s.motion.jobEnd
      ∧ (s.motion.speed ≠ 0 → s.station.actions.length < 16 →
        (raiseHold r s).station = { s.station with actions := s.station.actions ++ [.speed 0] }) := by
  have raised : raiseHold r s = enterHolding (s.onMotion fun m => { m with holds := m.holds.add r }) := by simp only [raiseHold, run]
  obtain ⟨h, motion⟩ := enterHolding_motion (s.onMotion fun m => { m with holds := m.holds.add r })
  rw [raised, motion]
  refine ⟨rfl, rfl, rfl, fun moves room => ?_⟩
  rw [enterHolding_room (s := s.onMotion fun m => { m with holds := m.holds.add r }) (.inr room)]
  have added : (if s.motion.speed = 0 then [] else [Action.speed 0]) = [Action.speed 0] := if_neg moves
  exact congrArg (fun l => { s.station with actions := s.station.actions ++ l }) added

/-! ## RECOVER (R139) -/

theorem causeActive_iff (s : State) :
    s.causeActive = true ↔ s.pins.estopOpen = true ∨ s.pins.dancerTop = true ∨ s.pins.dancerBottom = true := by
  simp [State.causeActive, or_assoc]

/-- The state of RECOVER before the command settles (R139). -/
def recovered (tag : Byte) (s : State) : State :=
  queueLine .state ((reply 0x07 tag .ok [] s).onMotion fun m =>
    { m with trips := TripSet.empty, firstCause := none, line := if m.jobEnd then .holding else .held })

theorem doRecover_taken {tag : Byte} {s : State} (line : s.motion.line = .tripped) (inactive : ¬s.causeActive = true) :
    doRecover tag s = settle s (recovered tag s) := by
  rw [doRecover, if_neg (not_not_intro line), if_neg inactive]
  rfl

theorem recovered_motion (tag : Byte) (s : State) :
    (recovered tag s).motion = { s.motion with
      trips := TripSet.empty, firstCause := none, line := if s.motion.jobEnd = true then .holding else .held } := by
  have shown : (recovered tag s).motion = ((reply 0x07 tag .ok [] s).onMotion fun m =>
      { m with trips := TripSet.empty, firstCause := none, line := if m.jobEnd then .holding else .held }).motion := by
    simp only [recovered, queueLine_frame]
  exact shown

/-- Settles O28: HOLD and RECOVER, refused and taken. -/
theorem holdAndRecoverChangeTheSets : Obligations.HoldAndRecoverChangeTheSets := by
  refine ⟨fun tag s ready => ⟨fun stands => ?_, fun idle notReady => ?_⟩, fun tag s ready => ?_⟩
  · refine exec_request_answered (c := .hold tag) (r := .hold) (kind := 0x05) (st := .wrongState) (rest := []) (u := s) ready rfl trivial ?_
    change doHold tag s = _
    rcases stands with line | line <;> simp only [doHold, line]
  · have run : exec (.hold tag) s = .next (startTx (doHold tag s)) := exec_request_ready (r := .hold) ready rfl trivial
    rw [doHold_taken idle notReady] at run
    have lineSame : (reply 0x05 tag .ok [] s).motion = s.motion := rfl
    refine ⟨_, run, replied_behind (kind := 0x05) (st := .ok) (rest := []) (by simp) (by simp), by simp [MotionOnly], ?_⟩
    simp only [startTx_frame]
    have held := settle_held s (raiseHold_held .host (reply 0x05 tag .ok [] s))
    refine ⟨fun busy => (held.resolve_left busy).2, fun runs => ?_, fun stands => ?_⟩
    · obtain ⟨speed, line, jobEnd, station⟩ := raiseHold_running .host (s := reply 0x05 tag .ok [] s) runs
      have after := settle_of_holding s line
      refine ⟨after.speed.trans speed, ?_, fun flies moves room => ?_⟩
      · rw [← show (raiseHold .host (reply 0x05 tag .ok [] s)).motion.jobEnd = s.motion.jobEnd from jobEnd]
        exact after.line.imp_right (Or.imp_left And.right)
      · have sent := station moves room
        obtain ⟨more, actions⟩ := (settle_only_of_busy s (s := raiseHold .host (reply 0x05 tag .ok [] s)) (by
          rw [sent]
          exact flies)).actions
        refine ⟨more, ?_⟩
        rw [actions, sent, List.append_assoc]
        rfl
    · have rise := raiseHold_rise .host (reply 0x05 tag .ok [] s)
      have still : s.motion.line ≠ .running := by rcases stands with line | line <;> rw [line] <;> decide
      have line : (raiseHold .host (reply 0x05 tag .ok [] s)).motion.line = s.motion.line := rise.line_of_not_running still
      have standsNow : standing (raiseHold .host (reply 0x05 tag .ok [] s)).motion.line = true := by
        rw [line]
        rcases stands with line | line <;> rw [line] <;> rfl
      exact ((settle_standing_rise s standsNow).line_of_not_running (standing_not_running standsNow)).trans line
  · intro cause
    refine ⟨fun other => ?_, fun line stands => ?_, fun line gone => ?_⟩
    · exact exec_request_answered (c := .recover tag) (r := .recover) (kind := 0x07) (st := .wrongState) (rest := []) (u := s) ready rfl
        trivial (if_pos other)
    · exact exec_request_answered (c := .recover tag) (r := .recover) (kind := 0x07) (st := .causeActive) (rest := []) (u := s) ready rfl
        trivial ((if_neg (not_not_intro line)).trans (if_pos ((causeActive_iff s).mpr stands)))
    · have run : exec (.recover tag) s = .next (startTx (doRecover tag s)) := exec_request_ready (r := .recover) ready rfl trivial
      rw [doRecover_taken line fun active => gone ((causeActive_iff s).mp active)] at run
      have motion := recovered_motion tag s
      refine ⟨_, run, replied_behind (kind := 0x07) (st := .ok) (rest := []) (by simp [recovered]) (by simp [recovered, reply]),
        by simp [MotionOnly, recovered, reply], ?_⟩
      simp only [startTx_frame]
      by_cases done : s.motion.jobEnd = true
      · have holding : (recovered tag s).motion.line = .holding := by rw [motion, if_pos done]
        obtain ⟨lineNow, -, -, trips, first⟩ := settle_of_holding s holding
        refine ⟨?_, ?_, fun works => absurd done (by simp [works]), fun _ => ?_⟩
        · rcases trips with same | empty
          · rw [same, motion]
          · exact empty
        · rcases first with same | none
          · rw [same, motion]
          · exact none
        · rcases lineNow with holds | held | ⟨-, idle⟩
          · exact .inl holds
          · rw [motion] at held
            exact absurd (held.1.symm.trans done) (by decide)
          · exact .inr idle
      · have heldLine : (recovered tag s).motion.line = .held := by rw [motion, if_neg done]
        have stands : standing (recovered tag s).motion.line = true := by rw [heldLine]; rfl
        have rise := settle_standing_rise s stands
        obtain ⟨h, only⟩ := settle_holdsOnly s (recovered tag s) stands
        refine ⟨by rw [only, motion], by rw [only, motion], fun _ => ⟨by rw [only]; exact heldLine, ?_, fun r has => ?_⟩,
          fun job => absurd job done⟩
        · rw [settle_cuts_standing s _ stands]
          simp [recovered, reply]
        · exact rise.holds r (by rw [motion]; exact has)

end Sys2Proof.Machine
end

section
/-! PROOFS. A line that has entered RUNNING while its command is taken (R136, R141, R146). -/
namespace Sys2Proof.Machine

/-! ## Running, or held by a failed action -/

/-- The line is RUNNING with no hold reason and the speed of its band, or a failed LAMINATOR or BEAM action holds it. -/
structure RunOrHeld (s : State) : Prop where
  jobEnd : s.motion.jobEnd = false
  cases : (s.motion.line = .running ∧ s.motion.holds = HoldSet.empty ∧ s.motion.speed = s.wantedSpeed)
    ∨ ((s.motion.line = .holding ∨ s.motion.line = .held) ∧ (s.motion.holds.station = true ∨ s.motion.holds.beam = true))

theorem wantedSpeed_congr {s t : State} (line : t.motion.line = s.motion.line) (band : t.motion.band = s.motion.band)
    (params : t.params = s.params) : t.wantedSpeed = s.wantedSpeed := by
  unfold State.wantedSpeed State.par
  rw [line, band, params]

theorem RunOrHeld.same {s t : State} (run : RunOrHeld s) (motion : t.motion = s.motion) (params : t.params = s.params) : RunOrHeld t := by
  obtain ⟨jobEnd, cases⟩ := run
  have wanted : t.wantedSpeed = s.wantedSpeed := wantedSpeed_congr (by rw [motion]) (by rw [motion]) params
  refine ⟨by rw [motion]; exact jobEnd, ?_⟩
  rw [motion, wanted]
  exact cases

/-- A STATION or BEAM reason raised leaves the line so. -/
theorem RunOrHeld.raise {s : State} (run : RunOrHeld s) {r : HoldReason} (failed : r = .station ∨ r = .beam) :
    RunOrHeld (raiseHold r s) := by
  obtain ⟨jobEnd, cases⟩ := run
  have rise := raiseHold_rise r s
  have jobEnd' : (raiseHold r s).motion.jobEnd = false := by simpa using jobEnd
  rcases cases with ⟨line, -, -⟩ | ⟨line, holds⟩
  · refine ⟨jobEnd', .inr ⟨.inl (raiseHold_of_running r line), ?_⟩⟩
    have has := raiseHold_has r (s := s) (by rw [line]; decide)
    rcases failed with rfl | rfl
    · exact .inl has
    · exact .inr has
  · have same := rise.line_of_not_running (by rcases line with line | line <;> rw [line] <;> decide)
    exact ⟨jobEnd', .inr ⟨by rw [same]; exact line, holds.imp (rise.holds .station) (rise.holds .beam)⟩⟩

theorem RunOrHeld.failChangeover {s : State} (run : RunOrHeld s) : RunOrHeld (failChangeover s) := by
  by_cases moves : ∃ l g, s.beam.changeover = .moving l g
  · obtain ⟨l, g, moving⟩ := moves
    rw [failChangeover_moving moving]
    refine RunOrHeld.raise ?_ (.inr rfl)
    exact run.same rfl rfl
  · rw [failChangeover_other fun l g moving => moves ⟨l, g, moving⟩]
    exact run

theorem RunOrHeld.startMove {s : State} (run : RunOrHeld s) (l : Layout) (g : Int) : RunOrHeld (startMove l g s) := by
  by_cases room : s.station.actions.length < 16
  · rw [startMove_room room]
    exact run.same rfl rfl
  · rw [startMove_full (by omega)]
    refine RunOrHeld.raise ?_ (.inr rfl)
    exact run.same rfl rfl

theorem RunOrHeld.judgeTrigger {s : State} (run : RunOrHeld s) : RunOrHeld (judgeTrigger s) := by
  by_cases pends : ∃ l, s.beam.changeover = .pending l
  · obtain ⟨l, pending⟩ := pends
    by_cases met : s.triggerMet = true
    · rw [judgeTrigger_met pending met]
      exact RunOrHeld.startMove (run.same (by simp [triggered]) (by simp [triggered])) l _
    · rw [judgeTrigger_unmet pending met]
      exact run
  · rw [judgeTrigger_other fun l pending => pends ⟨l, pending⟩]
    exact run

theorem RunOrHeld.reissue {s : State} (run : RunOrHeld s) : RunOrHeld (reissue s) := by
  unfold Machine.reissue
  split
  · exact run.startMove _ _
  all_goals exact run

theorem RunOrHeld.actionFailed {s : State} (run : RunOrHeld s) (a : Action) : RunOrHeld (actionFailed a s) := by
  unfold Machine.actionFailed beamActionFailed
  split
  · exact run.raise (.inl rfl)
  · exact run.raise (.inl rfl)
  all_goals
    split
    · exact run.failChangeover
    · exact run

theorem RunOrHeld.arbiter {s : State} (run : RunOrHeld s) (k : Nat) : RunOrHeld (arbiter k s) := by
  induction k generalizing s with
  | zero => exact run
  | succ k ih =>
    unfold Machine.arbiter
    split
    · exact run
    · split
      · dsimp only
        split
        · refine ih (RunOrHeld.actionFailed ?_ _)
          exact run.same rfl rfl
        · exact run.same rfl rfl
      · split
        · exact run.same rfl rfl
        · split
          · exact run.same rfl rfl
          · exact run

/-- The outfeed's judgement changes command and outfeed state of the motion alone. -/
theorem judgeOutfeed_motion (s : State) : ∃ d o, (judgeOutfeed s).motion = { s.motion with drive := d, outfeed := o } := by
  unfold judgeOutfeed issueIndex sendDrive
  repeat' split
  all_goals exact ⟨_, _, rfl⟩

theorem RunOrHeld.judgeOutfeed {s : State} (run : RunOrHeld s) : RunOrHeld (judgeOutfeed s) := by
  obtain ⟨d, o, motion⟩ := judgeOutfeed_motion s
  obtain ⟨jobEnd, cases⟩ := run
  have wanted : (Machine.judgeOutfeed s).wantedSpeed = s.wantedSpeed :=
    wantedSpeed_congr (by rw [motion]) (by rw [motion]) (by simp)
  refine ⟨by rw [motion]; exact jobEnd, ?_⟩
  rw [wanted, motion]
  exact cases

theorem RunOrHeld.react {s : State} (run : RunOrHeld s) (before : State) : RunOrHeld (reactMotion before s) := by
  by_cases holding : s.motion.line = .holding
  · let u := judgeHolding (before.motion.line != .holding) (before.headKey != s.headKey) s
    have reacted : reactMotion before s = endHolding u := by simp only [reactMotion, holding, u]
    obtain ⟨lineU, holdsU⟩ := judgeHolding_lineHolds (before.motion.line != .holding) (before.headKey != s.headKey) s
    have jobEndU : u.motion.jobEnd = false := by
      have same : u.motion.jobEnd = s.motion.jobEnd := by simp [u]
      exact same.trans run.jobEnd
    have held : u.motion.holds.station = true ∨ u.motion.holds.beam = true := by
      change (judgeHolding _ _ s).motion.holds.station = true ∨ (judgeHolding _ _ s).motion.holds.beam = true
      rw [holdsU]
      rcases run.cases with ⟨line, -⟩ | ⟨-, holds⟩
      · exact absurd (holding.symm.trans line) (by decide)
      · exact holds
    rw [reacted]
    by_cases stopped : u.stopComplete = true
    · rw [endHolding_held_of stopped jobEndU]
      exact ⟨jobEndU, .inr ⟨.inr rfl, held⟩⟩
    · rw [show endHolding u = u from if_neg stopped]
      exact ⟨jobEndU, .inr ⟨.inl (lineU.trans holding), held⟩⟩
  · unfold reactMotion
    split
    · split
      · exact run.judgeOutfeed
      · exact run
    · next line => exact absurd line holding
    all_goals exact run

theorem RunOrHeld.settle {s : State} (run : RunOrHeld s) (before : State) : RunOrHeld (settle before s) :=
  ((((run.judgeTrigger.react before).arbiter 40).react _).arbiter 40)

/-! ## A line that is RUNNING afterwards was so all along -/

/-- Where the line of t is RUNNING, that of s was, with the same commanded speed. -/
def RunsThrough (s t : State) : Prop :=
  t.motion.line = .running → s.motion.line = .running ∧ t.motion.speed = s.motion.speed

theorem RunsThrough.trans {s t u : State} (first : RunsThrough s t) (second : RunsThrough t u) : RunsThrough s u := fun run =>
  ⟨(first (second run).1).1, (second run).2.trans (first (second run).1).2⟩

theorem RunsThrough.same {s t : State} (motion : t.motion = s.motion) : RunsThrough s t := fun run =>
  ⟨motion ▸ run, by rw [motion]⟩

theorem HoldsRise.runsThrough {s t : State} (rise : HoldsRise s t) : RunsThrough s t := by
  intro run
  rcases rise.motion with ⟨h, m⟩ | ⟨_, h, m⟩
  · rw [m] at run ⊢
    exact ⟨run, rfl⟩
  · rw [m] at run
    contradiction

theorem judgeOutfeed_runsThrough (s : State) : RunsThrough s (judgeOutfeed s) := by
  obtain ⟨d, o, motion⟩ := judgeOutfeed_motion s
  intro run
  rw [motion] at run ⊢
  exact ⟨run, rfl⟩

theorem reactMotion_runsThrough (before s : State) : RunsThrough s (reactMotion before s) := by
  unfold reactMotion
  split
  · split
    · exact judgeOutfeed_runsThrough s
    · exact .same rfl
  · next holding =>
    intro run
    exact absurd run (endHolding_not_running (by simpa using holding))
  all_goals exact .same rfl

theorem settle_runsThrough (before s : State) : RunsThrough s (settle before s) :=
  ((((judgeTrigger_rise s).runsThrough.trans (reactMotion_runsThrough before _)).trans (runArbiter_rise _).runsThrough).trans
    (reactMotion_runsThrough _ _)).trans (runArbiter_rise _).runsThrough

/-- A RUNNING line without a changeover pending, while a transaction is in flight: what follows a command leaves the Beam Controller
and the station link. -/
theorem settle_running_busy {before s : State} (run : s.motion.line = .running) (busy : s.station.inFlight ≠ none)
    (settled : ∀ l, s.beam.changeover ≠ .pending l) : (settle before s).station = s.station ∧ (settle before s).beam = s.beam := by
  have notHolding {u : State} (line : u.motion.line = .running) : u.motion.line ≠ .holding := by rw [line]; decide
  have first : (reactMotion before s).station = s.station := reactMotion_station_of_not_holding before (notHolding run)
  have line : (reactMotion before s).motion.line = .running := by
    simp only [reactMotion, run]
    split <;> simp [run]
  have second : (reactMotion (reactMotion before s) (reactMotion before s)).station = s.station :=
    (reactMotion_station_of_not_holding _ (notHolding line)).trans first
  unfold settle
  dsimp only
  rw [judgeTrigger_other settled, runArbiter_busy (s := reactMotion before s) (by rw [first]; exact busy),
    runArbiter_busy (by rw [second]; exact busy)]
  exact ⟨second, by simp⟩

end Sys2Proof.Machine
end

section
/-! PROOFS. RUN and RESUME (R119, R131, R136, R138). -/
namespace Sys2Proof.Machine

/-! ## The panels of an entry (R113, R119) -/

/-- What an entry's change makes of the lists: each lane by the part the entry has there. -/
def markLane (p : Option LanePart) (f : Ctx → Ctx) (l : List Ctx) : List Ctx :=
  let l := match p.bind LanePart.ends with
    | some q => l.map fun c => if c.src == q then f c else c
    | none => l
  match p.bind LanePart.starts with
    | some q => l.map fun c => if c.src == q then f c else c
    | none => l

/-- What an entry's change does to one lane. -/
def entryLane (e : Entry) (f : Ctx → Ctx) (n : Lane) (s : State) : State :=
  match e.parts.get n with
  | none => s
  | some p =>
    let s := match p.ends with | some q => s.onCtx n q f | none => s
    match p.starts with | some q => s.onCtx n q f | none => s

theorem onEntryPanels_eq (e : Entry) (f : Ctx → Ctx) (s : State) : onEntryPanels e f s = forLanes (entryLane e f) s := rfl

theorem entryLane_eq (e : Entry) (f : Ctx → Ctx) (n : Lane) (s : State) :
    entryLane e f n s = s.onList n (markLane (e.parts.get n) f) := by
  have same : s = s.onList n fun l => l := by
    change s = { s with lists := s.lists.set n (s.lists.get n) }
    rw [Lanes.set_get]
  unfold entryLane
  rcases e.parts.get n with _ | ⟨ends, starts⟩
  · exact same
  · cases ends <;> cases starts
    · exact same
    · rfl
    · rfl
    · cases n <;> rfl

theorem onEntryPanels_lists (e : Entry) (f : Ctx → Ctx) (s : State) (n : Lane) :
    (onEntryPanels e f s).lists.get n = markLane (e.parts.get n) f (s.lists.get n) := by
  rw [onEntryPanels_eq]
  unfold forLanes
  simp only [entryLane_eq]
  cases n <;> rfl

theorem find_map_of_src {f : Ctx → Ctx} (keeps : ∀ c, (f c).src = c.src) (q r : Source) (l : List Ctx) {c : Ctx}
    (found : (l.map fun c => if c.src == q then f c else c).find? (fun c => c.src == r) = some c) :
    ∃ d, l.find? (fun c => c.src == r) = some d ∧ c = if r = q then f d else d := by
  rw [List.find?_map, Option.map_eq_some_iff] at found
  obtain ⟨d, found, rfl⟩ := found
  have same : ((fun c => c.src == r) ∘ fun c : Ctx => if c.src == q then f c else c) = fun c => c.src == r := by
    funext c
    dsimp only [Function.comp]
    split
    · rw [keeps]
    · rfl
  rw [same] at found
  have src : d.src = r := by simpa using List.find?_some found
  refine ⟨d, found, ?_⟩
  simp only [src, beq_iff_eq]

/-- A panel the entry starts or ends has been changed, once or twice (R113, R119). -/
theorem onEntryPanels_ctx {e : Entry} {f : Ctx → Ctx} (keeps : ∀ c, (f c).src = c.src) {s : State} {n : Lane} {p : LanePart} {q : Source}
    {c : Ctx} (part : e.parts.get n = some p) (its : p.ends = some q ∨ p.starts = some q)
    (found : (onEntryPanels e f s).ctx? n q = some c) : ∃ d, c = f d := by
  unfold State.ctx? at found
  rw [onEntryPanels_lists, part] at found
  unfold markLane at found
  simp only [Option.bind_some] at found
  rcases p with ⟨ends, starts⟩
  cases ends with
  | none =>
    obtain starts_ := its.resolve_left (by simp)
    simp only at starts_ found
    rw [starts_] at found
    obtain ⟨d, -, same⟩ := find_map_of_src keeps q q _ found
    exact ⟨d, by rw [same, if_pos rfl]⟩
  | some q' =>
    cases starts with
    | none =>
      obtain rfl : q' = q := by simpa using its
      obtain ⟨d, -, same⟩ := find_map_of_src keeps q' q' _ found
      exact ⟨d, by rw [same, if_pos rfl]⟩
    | some r =>
      obtain ⟨d, found, same⟩ := find_map_of_src keeps r q _ found
      obtain ⟨d', -, same'⟩ := find_map_of_src keeps q' q _ found
      by_cases starts_ : q = r
      · exact ⟨d, by rw [same, if_pos starts_]⟩
      · have ends_ : q = q' := by
          rcases its with h | h
          · exact (Option.some.inj h).symm
          · exact absurd (Option.some.inj h).symm starts_
        exact ⟨d', by rw [same, if_neg starts_, same', if_pos ends_]⟩

/-! ## The entry into RUNNING, step by step (R119, R131, R136, R143) -/

/-- The line RUNNING, its speed still to be commanded (R136). -/
def runningState (s : State) : State :=
  queueLine .state (s.onMotion fun m => { m with holds := HoldSet.empty, line := .running })

theorem enterRunning_eq (s : State) :
    enterRunning s = tripAsserted (reissue (whileRunning takeUpHead (whileRunning judgeOutfeed (updateSpeed (runningState s))))) := rfl

theorem whileRunning_run {f : State → State} {s : State} (run : s.motion.line = .running) : whileRunning f s = f s := if_pos run

theorem whileRunning_not {f : State → State} {s : State} (still : s.motion.line ≠ .running) : whileRunning f s = s := if_neg still

theorem takeUpHead_interrupted {e : Entry} {r : List Entry} {s : State} (entries : s.cuts.entries = e :: r)
    (interrupted : e.status = .interrupted) :
    takeUpHead s = onEntryPanels e (fun c => { c with notes := { c.notes with recut := true } }) { s with cuts := cutsCutting s e r } := by
  have traverse := sendTraverse_eq entries
  simp only [takeUpHead, headEntry_eq_some.mpr ⟨r, entries⟩, interrupted, if_true, traverse]

theorem takeUpHead_other {s : State} (other : ∀ e r, s.cuts.entries = e :: r → e.status ≠ .interrupted) :
    takeUpHead s = tryTraverse s := by
  unfold takeUpHead
  split
  · next e head =>
    obtain ⟨r, entries⟩ := headEntry_eq_some.mp head
    exact if_neg (other e r entries)
  · next none => simp only [tryTraverse, none]

/-- The speed commanded at the entry into RUNNING, with room for its actions: none fails (R146). -/
theorem updateSpeed_room {s : State} (room : s.station.actions.length ≤ 14) :
    (updateSpeed s).station = { s.station with actions := s.station.actions
      ++ ((if s.wantedSpeed ≠ s.motion.speed ∧ s.wantedSpeed ≠ 0 ∧ s.motion.nip = .opened then [Action.nip .closed] else [])
        ++ if s.wantedSpeed ≠ s.motion.speed then [.speed s.wantedSpeed] else []) } := by
  unfold updateSpeed commandSpeed
  by_cases same : s.wantedSpeed = s.motion.speed
  · simp [same, laminatorFailed]
  · rw [if_neg same]
    by_cases closes : s.wantedSpeed ≠ 0 ∧ s.motion.nip = .opened
    · have nip : pushAction (.nip .closed) (s.onMotion fun m => { m with nip := .closed }) = _ :=
        pushAction_room (s := s.onMotion fun m => { m with nip := .closed }) (by change s.station.actions.length < 16; omega)
      rw [if_pos closes, nip]
      dsimp only
      rw [pushAction_room (by simp [State.onMotion]; omega)]
      simp [same, closes, laminatorFailed, State.onMotion]
      rfl
    · rw [if_neg closes]
      dsimp only
      rw [pushAction_room (by change s.station.actions.length < 16; omega)]
      have no : ¬(s.wantedSpeed ≠ s.motion.speed ∧ s.wantedSpeed ≠ 0 ∧ s.motion.nip = .opened) := fun h => closes h.2
      rw [if_neg no, if_pos same]
      rfl

end Sys2Proof.Machine
end

section
/-! PROOFS. RUN and RESUME refused and accepted (R119, R131, R136, R138, R143). -/
namespace Sys2Proof.Machine

/-! ## The stages of the entry into RUNNING -/

theorem updateSpeed_eq (s : State) :
    updateSpeed s = (commandSpeed s).1 ∨ updateSpeed s = raiseHold .station (commandSpeed s).1 := by
  unfold updateSpeed laminatorFailed
  split
  · exact .inr rfl
  · exact .inl rfl

/-- The speed of the line that is RUNNING (R136): commanded, or its action failed at once. -/
def spedUp (s : State) : State := updateSpeed (runningState s)

theorem spedUp_runOrHeld {s : State} (works : s.motion.jobEnd = false) : RunOrHeld (spedUp s) := by
  have motion := commandSpeed_motion (runningState s)
  have commanded : RunOrHeld (commandSpeed (runningState s)).1 := by
    have wanted : (commandSpeed (runningState s)).1.wantedSpeed = (runningState s).wantedSpeed :=
      wantedSpeed_congr (by rw [motion]) (by rw [motion]) (by simp)
    refine ⟨?_, .inl ⟨?_, ?_, ?_⟩⟩
    · rw [motion]
      simpa [runningState] using works
    · rw [motion]
      simp [runningState]
    · rw [motion]
      simp [runningState]
    · rw [wanted, motion]
  rcases updateSpeed_eq (runningState s) with same | held
  · rw [spedUp, same]
    exact commanded
  · rw [spedUp, held]
    exact commanded.raise (.inl rfl)

theorem spedUp_frame (s : State) :
    (spedUp s).cuts = s.cuts ∧ (spedUp s).lists = s.lists ∧ (spedUp s).params = s.params ∧ (spedUp s).pins = s.pins
      ∧ (spedUp s).beam = s.beam ∧ (spedUp s).station.inFlight = s.station.inFlight := by
  rcases updateSpeed_eq (runningState s) with same | held
  · rw [spedUp, same]
    simp [runningState]
  · rw [spedUp, held]
    simp [runningState]

/-- The line with its outfeed judged and its head taken up, before a FAILED changeover moves again. -/
def headTaken (s : State) : State := whileRunning takeUpHead (whileRunning judgeOutfeed (spedUp s))

theorem enterRunning_stages (s : State) : enterRunning s = tripAsserted (reissue (headTaken s)) := rfl

theorem whileRunning_runOrHeld {f : State → State} (keeps : ∀ u, RunOrHeld u → RunOrHeld (f u)) {s : State} (run : RunOrHeld s) :
    RunOrHeld (whileRunning f s) := by
  unfold whileRunning
  split
  · exact keeps s run
  · exact run

theorem reissued_runOrHeld {s : State} (works : s.motion.jobEnd = false) : RunOrHeld (reissue (headTaken s)) := by
  refine RunOrHeld.reissue (whileRunning_runOrHeld (fun u run => ?_) ?_)
  · exact run.same (by simp) (by simp)
  · exact whileRunning_runOrHeld (fun u run => run.judgeOutfeed) (spedUp_runOrHeld works)

theorem RunOrHeld.active {s : State} (run : RunOrHeld s) : s.motion.line ≠ .idle := by
  rcases run.cases with ⟨line, -⟩ | ⟨line | line, -⟩ <;> rw [line] <;> decide

/-- With no input asserted the inputs leave the state (R143). -/
theorem tripAsserted_quiet {s : State} (quiet : ¬s.tripInputStands) : tripAsserted s = s := by
  have each (i : TripInput) : tripIfAsserted i s = s := if_neg fun stands => quiet ⟨i, stands⟩
  unfold tripAsserted
  rw [each, each, each, each]

theorem settle_tripped (before : State) {s : State} (tripped : s.motion.line = .tripped) : (settle before s).motion.line = .tripped :=
  (settle_keepsJudged before s).2.2 tripped

theorem enterRunning_pins (s : State) : (reissue (headTaken s)).pins = s.pins := by
  simp [headTaken, (spedUp_frame s).2.2.2.1]

/-- The two ends of an entry into RUNNING (R143). -/
theorem settle_enterRunning (before : State) {s : State} (works : s.motion.jobEnd = false) :
    (s.tripInputStands → (settle before (enterRunning s)).motion.line = .tripped)
      ∧ (¬s.tripInputStands → enterRunning s = reissue (headTaken s) ∧ RunOrHeld (settle before (enterRunning s))) := by
  have entered := reissued_runOrHeld works
  have stands : (reissue (headTaken s)).tripInputStands ↔ s.tripInputStands := by
    unfold State.tripInputStands
    rw [enterRunning_pins]
  rw [enterRunning_stages]
  refine ⟨fun input => settle_tripped before ?_, fun quiet => ?_⟩
  · exact (tripAsserted_judged _).2 entered.active (stands.mpr input)
  · rw [tripAsserted_quiet (mt stands.mp quiet)]
    exact ⟨rfl, entered.settle before⟩

/-- A line that is RUNNING in the end went through every stage RUNNING, with the speed first commanded. -/
theorem settle_enterRunning_running {before s : State} (works : s.motion.jobEnd = false)
    (run : (settle before (enterRunning s)).motion.line = .running) :
    enterRunning s = reissue (takeUpHead (judgeOutfeed (spedUp s))) ∧ (spedUp s).motion.line = .running
      ∧ (settle before (enterRunning s)).motion.speed = (spedUp s).motion.speed := by
  obtain ⟨trips, enters⟩ := settle_enterRunning before works
  have quiet : ¬s.tripInputStands := fun stands => absurd ((trips stands).symm.trans run) (by decide)
  obtain ⟨entered, -⟩ := enters quiet
  have judged : RunsThrough (spedUp s) (whileRunning judgeOutfeed (spedUp s)) := by
    unfold whileRunning
    split
    · exact judgeOutfeed_runsThrough _
    · exact .same rfl
  have taken : RunsThrough (whileRunning judgeOutfeed (spedUp s)) (headTaken s) := by
    unfold headTaken
    rw [whileRunning.eq_1 takeUpHead]
    split
    · exact .same (by simp)
    · exact .same rfl
  have last : RunsThrough (headTaken s) (settle before (enterRunning s)) := by
    rw [entered]
    exact (reissue_rise _).runsThrough.trans (settle_runsThrough before _)
  obtain ⟨ranTaken, speedTaken⟩ := last run
  obtain ⟨ranJudged, speedJudged⟩ := taken ranTaken
  obtain ⟨ran, speed⟩ := judged ranJudged
  refine ⟨?_, ran, (speedTaken.trans speedJudged).trans speed⟩
  have outfeed := whileRunning_run (f := judgeOutfeed) ran
  rw [entered, headTaken, outfeed, whileRunning_run (by rw [← outfeed]; exact ranJudged)]

/-! ## The panels -/

theorem judgeOutfeed_not_interrupted {s : State} (other : ∀ e r, s.cuts.entries = e :: r → e.status ≠ .interrupted) {e : Entry}
    {r : List Entry} (entries : (judgeOutfeed s).cuts.entries = e :: r) : e.status ≠ .interrupted := by
  by_cases indexes : s.headExecuting = false ∧ s.motion.starve = false ∧ ∃ h, s.indexable = some h
  · obtain ⟨rests, fed, h, indexes⟩ := indexes
    have issued : judgeOutfeed s = issueIndex h s := by simp [judgeOutfeed, rests, fed, indexes]
    obtain ⟨rest, queue⟩ : ∃ rest, s.cuts.entries = h :: rest := by
      unfold State.indexable at indexes
      split at indexes
      · next head =>
        split at indexes
        · obtain rfl := Option.some.inj indexes
          exact headEntry_eq_some.mp head
        · contradiction
      · contradiction
    rw [issued, issueIndex_head queue] at entries
    obtain ⟨rfl, -⟩ := List.cons.inj entries
    simp
  · have same : (judgeOutfeed s).cuts = s.cuts := by
      unfold judgeOutfeed
      split
      · rfl
      · next rests =>
        split
        · split <;> simp
        · next fed =>
          split
          · next h some => exact absurd ⟨by simpa using rests, by simpa using fed, h, some⟩ indexes
          · repeat' split
            all_goals simp
    rw [same] at entries
    exact other e r entries

theorem takeUpHead_lists {s : State} (other : ∀ e r, s.cuts.entries = e :: r → e.status ≠ .interrupted) :
    (takeUpHead s).lists = s.lists := by
  rw [takeUpHead_other other]
  simp

theorem enterRunning_lists {s : State} (other : ∀ e r, s.cuts.entries = e :: r → e.status ≠ .interrupted) :
    (enterRunning s).lists = s.lists := by
  obtain ⟨cuts, lists, -⟩ := spedUp_frame s
  have taken : (headTaken s).lists = (whileRunning judgeOutfeed (spedUp s)).lists := by
    rw [headTaken, whileRunning.eq_1 takeUpHead]
    split
    · refine takeUpHead_lists fun e r entries => ?_
      unfold whileRunning at entries
      split at entries
      · exact judgeOutfeed_not_interrupted (by rw [cuts]; exact other) entries
      · exact other e r (cuts ▸ entries)
    · rfl
  rw [enterRunning_stages]
  simp [taken, lists]

/-! ## The line that runs on -/

theorem reissue_actions (s : State) : ActionsOnly s (reissue s) := by
  unfold reissue
  split
  · exact (startMove_actions _ _ s).1
  all_goals exact .refl s

theorem cutsCutting_congr {s t : State} (cuts : t.cuts = s.cuts) (params : t.params = s.params) (e : Entry) (r : List Entry) :
    cutsCutting t e r = cutsCutting s e r := by
  simp only [cutsCutting, State.par, cuts, params]

theorem lanesClear_congr {s t : State} (lists : t.lists = s.lists) (params : t.params = s.params) (pins : t.pins = s.pins) (e : Entry) :
    t.lanesClear e = s.lanesClear e := by
  simp only [State.lanesClear, State.tableFree, State.inhibited, State.busyAsserted, State.inverted, State.par, lists, params, pins]

theorem headExecuting_cutting {s t : State} {e : Entry} {r : List Entry} (cuts : t.cuts = cutsCutting s e r) :
    t.headExecuting = true := by
  refine headExecuting_of (e := { e with status := .cutting }) (r := r) ?_ (.inr (.inr (.inl rfl)))
  rw [cuts, cutsCutting]

theorem ctx?_of_lists {s t : State} (lists : t.lists = s.lists) (n : Lane) (q : Source) : t.ctx? n q = s.ctx? n q := by
  simp only [State.ctx?, lists]

/-- An INTERRUPTED head is cut again when the line is RUNNING (R119). -/
theorem enterRunning_interrupted {before s : State} (works : s.motion.jobEnd = false)
    (run : (settle before (enterRunning s)).motion.line = .running) {e : Entry} {r : List Entry} (entries : s.cuts.entries = e :: r)
    (interrupted : e.status = .interrupted) :
    (settle before (enterRunning s)).cuts = cutsCutting s e r
      ∧ ∀ n p q c, e.parts.get n = some p → (p.ends = some q ∨ p.starts = some q) →
          (settle before (enterRunning s)).ctx? n q = some c → c.notes.recut = true := by
  obtain ⟨entered, -, -⟩ := settle_enterRunning_running works run
  obtain ⟨cuts, lists, params, -⟩ := spedUp_frame s
  have queue : (spedUp s).cuts.entries = e :: r := by rw [cuts]; exact entries
  have taken := takeUpHead_interrupted queue interrupted
  rw [judgeOutfeed_executing _ (headExecuting_of queue (.inr (.inr (.inr interrupted)))), taken] at entered
  have cutting : (enterRunning s).cuts = cutsCutting s e r := by
    rw [entered]
    simp [cutsCutting_congr cuts params]
  refine ⟨?_, fun n p q c part its found => ?_⟩
  · rw [settle_cuts_executing before _ (headExecuting_cutting cutting), cutting]
  · have lists : (settle before (enterRunning s)).lists = (enterRunning s).lists := (settle_frame before _).2.2.2.2.2.1
    have panels := lists.trans (congrArg State.lists entered)
    simp only [reissue_frame] at panels
    rw [ctx?_of_lists panels] at found
    obtain ⟨d, rfl⟩ := onEntryPanels_ctx (f := fun c => { c with notes := { c.notes with recut := true } }) (fun c => rfl) part its found
    rfl

/-- A POSITIONED head is cut when the line is RUNNING and its lanes are clear (R115, R136). -/
theorem enterRunning_positioned {before s : State} (works : s.motion.jobEnd = false)
    (run : (settle before (enterRunning s)).motion.line = .running) {e : Entry} {r : List Entry} (entries : s.cuts.entries = e :: r)
    (positioned : e.status = .positioned) :
    (settle before (enterRunning s)).cuts = if s.lanesClear e = true then cutsCutting s e r else s.cuts := by
  obtain ⟨entered, ran, -⟩ := settle_enterRunning_running works run
  obtain ⟨cuts, lists, params, pins, -⟩ := spedUp_frame s
  have queue : (spedUp s).cuts.entries = e :: r := by rw [cuts]; exact entries
  have other : ∀ e' r', (spedUp s).cuts.entries = e' :: r' → e'.status ≠ .interrupted := by
    intro e' r' same
    obtain ⟨rfl, -⟩ := List.cons.inj (queue.symm.trans same)
    rw [positioned]
    decide
  rw [judgeOutfeed_executing _ (headExecuting_of queue (.inr (.inl positioned))), takeUpHead_other other,
    tryTraverse_positioned queue positioned, lanesClear_congr lists params pins] at entered
  by_cases clear : s.lanesClear e = true
  · rw [if_pos ⟨ran, clear⟩] at entered
    have cutting : (enterRunning s).cuts = cutsCutting s e r := by
      rw [entered]
      simp [cutsCutting_congr cuts params]
    rw [if_pos clear, settle_cuts_executing before _ (headExecuting_cutting cutting), cutting]
  · rw [if_neg fun h => clear h.2] at entered
    have stays : (enterRunning s).cuts = s.cuts := by
      rw [entered]
      simp [cuts]
    rw [if_neg clear, settle_cuts_executing before _ (headExecuting_of (e := e) (r := r) (by rw [stays]; exact entries)
      (.inr (.inl positioned))), stays]

theorem spedUp_station {s : State} (room : s.station.actions.length ≤ 14) (ran : (spedUp s).motion.line = .running) :
    (spedUp s).station = { s.station with actions := s.station.actions
      ++ ((if (spedUp s).motion.speed ≠ s.motion.speed ∧ (spedUp s).motion.speed ≠ 0 ∧ s.motion.nip = .opened
            then [Action.nip .closed] else [])
        ++ if (spedUp s).motion.speed ≠ s.motion.speed then [.speed (spedUp s).motion.speed] else []) } := by
  have commanded : spedUp s = (commandSpeed (runningState s)).1 :=
    (updateSpeed_eq (runningState s)).resolve_right fun held =>
      raiseHold_not_running .station (commandSpeed (runningState s)).1 (by rw [← held]; exact ran)
  have speed : (spedUp s).motion.speed = (runningState s).wantedSpeed := by
    rw [commanded, commandSpeed_motion]
  have station : (runningState s).station = s.station := by simp [runningState]
  have before : (runningState s).motion.speed = s.motion.speed ∧ (runningState s).motion.nip = s.motion.nip := by simp [runningState]
  have sent := updateSpeed_room (s := runningState s) (by rw [station]; exact room)
  rw [station, before.1, before.2, ← speed] at sent
  exact sent

/-- The nip and speed actions stand behind the waiting ones (R146). -/
theorem enterRunning_actions {before s : State} (works : s.motion.jobEnd = false)
    (run : (settle before (enterRunning s)).motion.line = .running) (flies : s.station.inFlight ≠ none)
    (room : s.station.actions.length ≤ 14) :
    let v := (settle before (enterRunning s)).motion.speed
    let raised := (if v ≠ s.motion.speed ∧ v ≠ 0 ∧ s.motion.nip = .opened then [Action.nip .closed] else [])
      ++ if v ≠ s.motion.speed then [.speed v] else []
    ∃ more, (settle before (enterRunning s)).station.actions = s.station.actions ++ raised ++ more := by
  obtain ⟨entered, ran, speed⟩ := settle_enterRunning_running works run
  have sent := spedUp_station room ran
  have only : ActionsOnly (spedUp s) (enterRunning s) := by
    rw [entered]
    exact (ActionsOnly.same (by simp) (by simp)).trans (reissue_actions _)
  obtain ⟨more, actions⟩ := (only.trans (settle_only_of_busy before (by
    rw [only.inFlight, sent]
    exact flies))).actions
  refine ⟨more, ?_⟩
  rw [actions, sent, speed]

/-- A FAILED changeover moves again, with a new positions action (R131). -/
theorem enterRunning_failed {before s : State} (works : s.motion.jobEnd = false)
    (run : (settle before (enterRunning s)).motion.line = .running) {l : Layout} {g : Int} (failed : s.beam.changeover = .failed l g)
    (flies : s.station.inFlight ≠ none) (room : s.station.actions.length ≤ 13) :
    let t := settle before (enterRunning s)
    t.beam.changeover = .moving l g ∧ t.beam.timer = none
      ∧ ∃ earlier, t.station.actions = earlier ++ [.positions t.beam.move l] := by
  obtain ⟨entered, ran, -⟩ := settle_enterRunning_running works run
  obtain ⟨-, -, -, -, beam, -⟩ := spedUp_frame s
  generalize same : takeUpHead (judgeOutfeed (spedUp s)) = u at entered
  have beamU : u.beam = s.beam := by rw [← same]; simpa using beam
  have stationU : u.station = (spedUp s).station := by simp [← same]
  have lineU : u.motion.line = .running := by simpa [← same] using ran
  have again : reissue u = startMove l g u := by simp only [reissue, beamU, failed]
  have fits : u.station.actions.length < 16 := by
    rw [stationU, spedUp_station (by omega) ran]
    dsimp only
    simp only [List.length_append]
    split <;> split <;> simp <;> omega
  have flight : u.station.inFlight ≠ none := by
    rw [stationU, spedUp_station (by omega) ran]
    exact flies
  rw [again, startMove_room fits] at entered
  obtain ⟨station', beam'⟩ := settle_running_busy (before := before) (s := enterRunning s) (by rw [entered]; exact lineU)
    (by rw [entered]; exact flight) (by rw [entered]; intro l' h; contradiction)
  intro t
  refine ⟨?_, ?_, u.station.actions, ?_⟩
  · rw [show t.beam = _ from beam', entered]
  · rw [show t.beam = _ from beam', entered]
  · rw [show t.beam = _ from beam', show t.station = _ from station', entered]

/-! ## RUN and RESUME -/

theorem laminatorReady_iff (s : State) :
    s.laminatorReady = true ↔ s.station.records.laminator.state = .present
      ∧ ∃ a, s.station.laminator = some a ∧ a.heatReady = true ∧ a.fault = false := by
  unfold State.laminatorReady
  cases s.station.laminator <;> simp

theorem doRun_taken {tag : Byte} {s : State} (line : s.motion.line = .ready) (ready : s.laminatorReady = true)
    (beam : s.station.records.beam.state = .present) : doRun tag s = settle s (enterRunning (reply 0x04 tag .ok [] s)) := by
  rw [doRun, if_neg (not_not_intro line), if_pos ⟨ready, beam⟩]

theorem doResume_taken {tag : Byte} {s : State} (line : s.motion.line = .held) (ready : s.laminatorReady = true) :
    doResume tag s = settle s (enterRunning (reply 0x06 tag .ok [] s)) := by
  rw [doResume, if_neg (not_not_intro line), if_pos ready]

/-- Settles O30: RUN and RESUME refused, and taken. -/
theorem runAndResumeEnterRunning : Obligations.RunAndResumeEnterRunning := by
  refine ⟨fun tag s ready => ?_, fun i k tag s ready which present answers works => ?_⟩
  · intro able
    refine ⟨fun other => ?_, fun line unready => ?_, fun other => ?_, fun line unready => ?_⟩
    · exact exec_request_answered (c := .run tag) (r := .run) (kind := 0x04) (st := .wrongState) (rest := []) (u := s) ready rfl trivial
        (if_pos other)
    · exact exec_request_answered (c := .run tag) (r := .run) (kind := 0x04) (st := .notReady) (rest := []) (u := s) ready rfl trivial
        ((if_neg (not_not_intro line)).trans (if_neg (by rw [laminatorReady_iff]; exact unready)))
    · exact exec_request_answered (c := .resume tag) (r := .resume) (kind := 0x06) (st := .wrongState) (rest := []) (u := s) ready rfl
        trivial (if_pos other)
    · exact exec_request_answered (c := .resume tag) (r := .resume) (kind := 0x06) (st := .notReady) (rest := []) (u := s) ready rfl
        trivial ((if_neg (not_not_intro line)).trans (if_neg (by rw [laminatorReady_iff]; exact unready)))
  · have able : s.laminatorReady = true := (laminatorReady_iff s).mpr ⟨present, answers⟩
    obtain ⟨kind, run, code⟩ : ∃ kind, exec i s = .next (startTx (settle s (enterRunning (reply kind tag .ok [] s))))
        ∧ replyFrame kind tag .ok [] = ⟨k, tag, [0x00]⟩ := by
      rcases which with ⟨rfl, rfl, line, beam⟩ | ⟨rfl, rfl, line⟩
      · refine ⟨0x04, ?_, rfl⟩
        rw [← doRun_taken line able beam]
        exact exec_request_ready (r := .run) ready rfl trivial
      · refine ⟨0x06, ?_, rfl⟩
        rw [← doResume_taken line able]
        exact exec_request_ready (r := .resume) ready rfl trivial
    let u := reply kind tag .ok [] s
    have worksU : u.motion.jobEnd = false := works
    obtain ⟨trips, enters⟩ := settle_enterRunning s worksU
    have lists (other : ∀ e r, u.cuts.entries = e :: r → e.status ≠ .interrupted) : (settle s (enterRunning u)).lists = s.lists :=
      (settle_frame s _).2.2.2.2.2.1.trans (enterRunning_lists other)
    have interrupted (runs : (settle s (enterRunning u)).motion.line = .running) {e r} := enterRunning_interrupted worksU runs
        (e := e) (r := r)
    have positioned (runs : (settle s (enterRunning u)).motion.line = .running) {e r} := enterRunning_positioned worksU runs
        (e := e) (r := r)
    have actions (runs : (settle s (enterRunning u)).motion.line = .running) := enterRunning_actions worksU runs
    have failed (runs : (settle s (enterRunning u)).motion.line = .running) {l g} := enterRunning_failed worksU runs
        (l := l) (g := g)
    have frame : (settle s (enterRunning u)).web = s.web ∧ (settle s (enterRunning u)).params = s.params
        ∧ (settle s (enterRunning u)).pins = s.pins ∧ (settle s (enterRunning u)).store = s.store
        ∧ (settle s (enterRunning u)).reader = s.reader ∧ (settle s (enterRunning u)).zones = s.zones
        ∧ (settle s (enterRunning u)).hand = s.hand ∧ (settle s (enterRunning u)).pending = s.pending := by
      simp [u, reply]
    have answered : Replied s (startTx (settle s (enterRunning u))) ⟨k, tag, [0x00]⟩ := by
      rw [← code]
      exact replied_behind (by simp [u]) (by simp [u, reply])
    have ends := fun quiet => (enters quiet).2.cases
    change exec i s = .next (startTx (settle s (enterRunning u))) at run
    generalize settle s (enterRunning u) = t at run trips ends lists interrupted positioned actions failed frame answered
    obtain ⟨web, params, pins, store, reader, zones, hand, pending⟩ := frame
    exact ⟨startTx t, run, answered, web, params, pins, store, reader, zones, hand, pending, lists, fun runs =>
      ⟨fun e r => interrupted runs, fun e r => positioned runs, fun flies room => actions runs flies (Nat.le_succ_of_le room),
        fun l g => failed runs⟩, trips, ends⟩

end Sys2Proof.Machine
end

section
/-! PROOFS. IN_POSITION for an INDEXING head (R113, R115, R148). -/
namespace Sys2Proof.Machine

/-! ## The outfeed of an executing head, while a command settles -/

/-- An outfeed that neither runs free nor towards a bound, with an executing head, is left as it is. -/
def KeepsDrive (s t : State) : Prop :=
  s.headExecuting = true → freeOrBounded s.motion.outfeed = false →
    t.headExecuting = true ∧ t.motion.drive = s.motion.drive ∧ t.motion.outfeed = s.motion.outfeed

theorem KeepsDrive.trans {s t u : State} (first : KeepsDrive s t) (second : KeepsDrive t u) : KeepsDrive s u := by
  intro executes driven
  obtain ⟨executes', drive, outfeed⟩ := first executes driven
  obtain ⟨executes'', drive', outfeed'⟩ := second executes' (by rw [outfeed]; exact driven)
  exact ⟨executes'', drive'.trans drive, outfeed'.trans outfeed⟩

theorem KeepsDrive.refl (s : State) : KeepsDrive s s := fun executes _ => ⟨executes, rfl, rfl⟩

theorem HoldsRise.keepsDrive {s t : State} (rise : HoldsRise s t) (cuts : t.cuts = s.cuts) : KeepsDrive s t := by
  refine fun executes _ => ⟨by rw [headExecuting_of_cuts cuts]; exact executes, ?_⟩
  rcases rise.motion with ⟨h, m⟩ | ⟨_, h, m⟩ <;> rw [m] <;> exact ⟨rfl, rfl⟩

theorem judgeHolding_executing (a b : Bool) {s : State} (executes : s.headExecuting = true)
    (driven : freeOrBounded s.motion.outfeed = false) : judgeHolding a b s = s := by
  rw [judgeHolding_none (Or.inr (indexable_executing s executes)), driven]
  simp

theorem endHolding_keepsDrive (s : State) : KeepsDrive s (endHolding s) := by
  refine fun executes _ => ⟨by rw [headExecuting_of_cuts (s := s) (by simp)]; exact executes, ?_⟩
  unfold endHolding
  split
  · split
    · rw [jobEndStop_eq, (jobEnded_fields _).1]
      rcases nipOpened_cases s with ⟨-, opened⟩ | ⟨-, opened⟩
      · rw [opened]
        exact ⟨rfl, rfl⟩
      · rw [opened, addReason_motion]
        exact ⟨rfl, rfl⟩
    · simp
  · exact ⟨rfl, rfl⟩

theorem reactMotion_keepsDrive (before s : State) : KeepsDrive s (reactMotion before s) := by
  intro executes driven
  unfold reactMotion
  split
  · split
    · rw [judgeOutfeed_executing s executes]
      exact ⟨executes, rfl, rfl⟩
    · exact ⟨executes, rfl, rfl⟩
  · rw [judgeHolding_executing _ _ executes driven]
    exact endHolding_keepsDrive s executes driven
  all_goals exact ⟨executes, rfl, rfl⟩

theorem settle_keepsDrive (before s : State) : KeepsDrive s (settle before s) :=
  (((((judgeTrigger_rise s).keepsDrive (by simp)).trans (reactMotion_keepsDrive before _)).trans
    ((runArbiter_rise _).keepsDrive (by simp))).trans (reactMotion_keepsDrive _ _)).trans ((runArbiter_rise _).keepsDrive (by simp))

/-! ## IN_POSITION -/

theorem exec_inPosition (s : State) : exec .inPosition s = .next (startTx (settle s (sequencerInPosition (outfeedInPosition s)))) := rfl

theorem outfeedInPosition_eq (s : State) :
    outfeedInPosition s = { s with motion := { s.motion with outfeed := if s.motion.outfeed = .free then .free else .stopped } } := by
  unfold outfeedInPosition State.onMotion
  dsimp only
  cases s.motion.outfeed <;> simp

theorem sequencerInPosition_indexing {e : Entry} {r : List Entry} {s : State} (entries : s.cuts.entries = e :: r)
    (indexing : e.status = .indexing) : sequencerInPosition s = if s.fallsShort e = true then creep e s else positioned s := by
  simp only [sequencerInPosition, headEntry_eq_some.mpr ⟨r, entries⟩, indexing, if_true]

theorem fallsShort_iff (s : State) (e : Entry) :
    s.fallsShort e = true ↔ s.outPos < e.coord - s.par .cutTol ∧ (e.creeps : Int) < s.par .creepMax := by
  simp [State.fallsShort]

/-- The further stop over the missing distance (R113). -/
theorem creep_fields {e : Entry} {r : List Entry} {s : State} (entries : s.cuts.entries = e :: r) :
    (creep e s).cuts = { s.cuts with
        entries := { e with creeps := e.creeps + 1 } :: r, indexTimer := some (s.par .indexTimeout).toNat }
      ∧ (creep e s).motion = { s.motion with drive := some (.stopAt (e.coord - s.outPos)), outfeed := .indexed } := by
  unfold creep
  simp [State.onHead, State.onCuts, sendDrive, State.onMotion, entries]
  rfl

/-- The queue with its head POSITIONED and the index timer stopped (R113). -/
def cutsPositioned (s : State) (e : Entry) (r : List Entry) : Cuts :=
  { s.cuts with entries := { e with status := .positioned } :: r, indexTimer := none }

theorem positioned_eq {e : Entry} {r : List Entry} {s : State} (entries : s.cuts.entries = e :: r) :
    positioned s = tryTraverse { s with cuts := cutsPositioned s e r } := by
  unfold positioned
  simp only [State.onHead, State.onCuts, entries]
  rfl

/-- Settles O22: an IN_POSITION that falls short, one that positions the head, and one without an INDEXING head. -/
theorem inPositionCreepsOrPositions : Obligations.InPositionCreepsOrPositions := by
  refine ⟨fun e r s entries indexing => ⟨fun short left => ?_, fun stops bounded => ?_⟩, fun s other => ?_⟩
  · have run := exec_inPosition s
    rw [sequencerInPosition_indexing (s := outfeedInPosition s) (by simpa using entries) indexing,
      if_pos ((fallsShort_iff _ e).mpr (by rw [outfeedInPosition_eq]; exact ⟨short, left⟩))] at run
    obtain ⟨cuts, motion⟩ := creep_fields (e := e) (r := r) (s := outfeedInPosition s) (by simpa using entries)
    have same : (outfeedInPosition s).outPos = s.outPos ∧ (outfeedInPosition s).par = s.par := by
      rw [outfeedInPosition_eq]
      exact ⟨rfl, rfl⟩
    rw [same.1] at motion
    rw [same.2, show (outfeedInPosition s).cuts = s.cuts by simp] at cuts
    have executes : (creep e (outfeedInPosition s)).headExecuting = true :=
      headExecuting_of (e := { e with creeps := e.creeps + 1 }) (r := r) (by rw [cuts]) (.inl indexing)
    obtain ⟨-, drive, outfeed⟩ := settle_keepsDrive s _ executes (by rw [motion]; rfl)
    refine ⟨_, run, ?_, ?_, ?_, fun n p q c part its found => ?_, ?_⟩
    · simp only [startTx_frame]
      rw [settle_cuts_executing s _ executes, cuts]
    · rw [startTx_motion, drive, motion]
    · rw [startTx_motion, outfeed, motion]
    · rw [ctx?_of_lists (s := creep e (outfeedInPosition s)) (by simp)] at found
      obtain ⟨d, rfl⟩ := onEntryPanels_ctx (f := fun c => { c with notes := { c.notes with crept := true } }) (fun c => rfl) part its found
      rfl
    · simp [MotionOnly, creep, sendDrive]
  · have run := exec_inPosition s
    rw [sequencerInPosition_indexing (s := outfeedInPosition s) (by simpa using entries) indexing,
      if_neg (mt (fallsShort_iff _ e).mp (by
        rw [outfeedInPosition_eq]
        rintro ⟨short, left⟩
        rcases stops with near | none
        · exact absurd short (not_lt.mpr near)
        · exact absurd left (not_lt.mpr none))),
      positioned_eq (e := e) (r := r) (by simpa using entries)] at run
    generalize same : ({ outfeedInPosition s with cuts := cutsPositioned (outfeedInPosition s) e r } : State) = u at run
    have cutsU : u.cuts = cutsPositioned s e r := by rw [← same, outfeedInPosition_eq]; rfl
    have queue : u.cuts.entries = { e with status := .positioned } :: r := by rw [cutsU]; rfl
    have line : u.motion.line = s.motion.line := by rw [← same, outfeedInPosition_eq]
    have outfeedU : u.motion.outfeed = .stopped := by
      rw [← same, outfeedInPosition_eq]
      exact if_neg bounded
    have params : u.params = s.params := by rw [← same, outfeedInPosition_eq]
    have clear : u.lanesClear { e with status := .positioned } = s.lanesClear e := by rw [← same, outfeedInPosition_eq]; rfl
    have cuts := settle_tryTraverse_cuts s queue rfl
    have executes : (tryTraverse u).headExecuting = true := by
      rw [tryTraverse_positioned queue rfl]
      split
      · exact headExecuting_of (s := { u with cuts := cutsCutting u { e with status := .positioned } r }) rfl (.inr (.inr (.inl rfl)))
      · exact headExecuting_of queue (.inr (.inl rfl))
    have motion : (tryTraverse u).motion = u.motion := by simp
    obtain ⟨-, -, outfeed⟩ := settle_keepsDrive s _ executes (by rw [motion, outfeedU]; rfl)
    refine ⟨_, run, ?_, ?_, ?_⟩
    · rw [startTx_motion, outfeed, motion, outfeedU]
    · simp only [startTx_frame]
      rw [cuts, line, clear, cutsU]
      split
      · simp only [cutsCutting, State.par, params, cutsU, cutsPositioned]
      · rfl
    · simp [MotionOnly, ← same]
  · have none : sequencerInPosition (outfeedInPosition s) = outfeedInPosition s := by
      unfold sequencerInPosition
      split
      · next e head =>
        obtain ⟨r, entries⟩ := headEntry_eq_some.mp head
        exact if_neg (other e r (by simpa using entries))
      · rfl
    rw [exec_inPosition, none, outfeedInPosition_eq]

end Sys2Proof.Machine
end

section
/-! PROOFS. The steps of a handoff cycle before its completion (R170, R172, R173, R174). -/
namespace Sys2Proof.Machine

theorem onCtx_eq (n : Lane) (q : Source) (f : Ctx → Ctx) (s : State) :
    s.onCtx n q f = { s with lists := s.lists.set n ((s.lists.get n).map fun c => if c.src = q then f c else c) } := by
  simp only [State.onCtx, State.onList, beq_iff_eq]

theorem ctx?_eq (n : Lane) (q : Source) (s : State) : s.ctx? n q = (s.lists.get n).find? fun c => c.src = q := rfl

/-- DELIVER is asserted for a context of the lane (R172, R174). -/
theorem assertDeliver_eq (ch n : Lane) (q : Source) (st : ChannelState) (delay : Option Nat) (s : State) :
    assertDeliver ch n q st delay s = { s with
      lists := s.lists.set n ((s.lists.get n).map fun c => if c.src = q then { c with state := .delivering } else c)
      hand := { s.hand with channels := s.hand.channels.set ch ⟨st, some (n, q), delay, some (s.par .handoffTimeout).toNat,
        match s.ctx? n q with | some c => c.reasons.any | none => false⟩ } } := by
  unfold assertDeliver
  rw [onCtx_eq]
  rfl

/-- The state with the level of an ACCEPT changed (R170). -/
def acceptLevel (n : Lane) (high : Bool) (s : State) : State := { s with pins := { s.pins with accept := s.pins.accept.set n high } }

/-- A change of ACCEPT reaches the channel that watches it (R173, R177). -/
theorem acceptChange_moved {n : Lane} {high : Bool} {s : State} (moved : s.pins.accept.get n ≠ high) :
    acceptChange n high s = if s.channelOf n = n
      then acceptTaken n (high != s.inverted (8 + laneNum n)) s (acceptLevel n high s) else acceptLevel n high s := by
  have asserted : (acceptLevel n high s).acceptAsserted n = (high != s.inverted (8 + laneNum n)) := by
    simp only [State.acceptAsserted, acceptLevel, Lanes.get_set]
    rfl
  have watched : (acceptLevel n high s).watched n = true ↔ s.channelOf n = n := by
    simp only [State.watched, beq_iff_eq]
    rfl
  rw [acceptChange, if_neg moved, ← asserted]
  exact if_congr watched rfl rfl

theorem acceptTaken_offered {ch : Lane} {asserted : Bool} {before s : State} (offered : (s.hand.channels.get ch).state = .offered) :
    acceptTaken ch asserted before s = if asserted = true then
      if s.effMode ch = 3 then releaseChannel ch s else settleAll before (completeCycle ch s) else s := by
  simp only [acceptTaken, offered]

theorem acceptTaken_releasing {ch : Lane} {asserted : Bool} {before s : State} (releasing : (s.hand.channels.get ch).state = .releasing) :
    acceptTaken ch asserted before s = if asserted = true then s else settleAll before (completeCycle ch s) := by
  simp only [acceptTaken, releasing]

theorem acceptTaken_other {ch : Lane} {asserted : Bool} {before s : State} (offered : (s.hand.channels.get ch).state ≠ .offered)
    (releasing : (s.hand.channels.get ch).state ≠ .releasing) : acceptTaken ch asserted before s = s := by
  unfold acceptTaken
  split
  · next h => exact absurd h offered
  · next h => exact absurd h releasing
  all_goals rfl

theorem exec_acceptChange (n : Lane) (high : Bool) (s : State) :
    exec (.acceptChange n high) s = .next (startTx (acceptChange n high s)) := rfl

theorem exec_delayTimerExpiry (ch : Lane) (s : State) : exec (.delayTimerExpiry ch) s = .next (startTx (delayExpired ch s)) := rfl

/-- Settles O39: the steps of a cycle that do not complete it. -/
theorem handoffStepsBeforeCompletion : Obligations.HandoffStepsBeforeCompletion := by
  refine ⟨fun ch n q d s settling owner delay => ?_, fun n high s moved => ?_, fun n s => ?_⟩
  · have taken : delayExpired ch s = assertDeliver ch n q .offered none s := by
      simp only [delayExpired, settling, owner, delay]
    rw [exec_delayTimerExpiry, taken, assertDeliver_eq]
    rfl
  · intro level asserted c
    have change := acceptChange_moved moved
    rw [exec_acceptChange, change]
    have same : (acceptLevel n high s).hand.channels.get n = c := rfl
    refine ⟨fun offered watched asserts full => ?_, fun quiet => ?_⟩
    · rw [if_pos watched, acceptTaken_offered (same ▸ offered), if_pos asserts]
      exact congrArg (fun t => Host.Outcome.next (startTx t)) (if_pos full)
    · have stays : (if s.channelOf n = n then acceptTaken n asserted s (acceptLevel n high s) else acceptLevel n high s)
          = acceptLevel n high s := by
        by_cases watched : s.channelOf n = n
        · rw [if_pos watched]
          rcases quiet with unwatched | idle | settling | pulsing | ⟨offered, drops⟩ | ⟨releasing, rises⟩
          · exact absurd watched unwatched
          · exact acceptTaken_other (by rw [same, idle]; decide) (by rw [same, idle]; decide)
          · exact acceptTaken_other (by rw [same, settling]; decide) (by rw [same, settling]; decide)
          · exact acceptTaken_other (by rw [same, pulsing]; decide) (by rw [same, pulsing]; decide)
          · rw [acceptTaken_offered (same ▸ offered), drops]
            rfl
          · rw [acceptTaken_releasing (same ▸ releasing), if_pos rises]
        · rw [if_neg watched]
      exact congrArg (fun t => Host.Outcome.next (startTx t)) stays
  · rw [exec_acceptChange, acceptChange, if_pos rfl]

end Sys2Proof.Machine
end

section
/-! PROOFS. Leading edges and INSPECT (R39 to R43, R56, R57, R66). -/
namespace Sys2Proof.Machine

/-! ## Edges (R39, R41) -/

theorem edgesTaken_iff (s : State) : s.edgesTaken = true ↔ s.web.outfeed.hold = 0 := by simp [State.edgesTaken]

theorem takeLeading_watching {n : Lane} {s : State} (watching : (s.eyes.get n).decode = .watching) :
    takeLeading n s = { s with eyes := s.eyes.set n { s.eyes.get n with
      decode := if s.codedFormat n s.beamPos = true then .inCode s.beamPos false [] (s.pins.inspect.get n)
                else .inBar s.beamPos (s.pins.inspect.get n) } } := by
  simp only [takeLeading, watching]
  rfl

theorem takeLeading_other {n : Lane} {s : State} (busy : (s.eyes.get n).decode ≠ .watching) : takeLeading n s = s := by
  unfold takeLeading
  split
  · next watching => exact absurd watching busy
  all_goals rfl

/-! ## The panel next expected (R66) -/

theorem codedFormat_iff (s : State) (n : Lane) (m : Int) : s.codedFormat n m = true ↔
    ∃ q p, s.nextPanel n m = some q ∧ s.ctx? n q = some p ∧ p.coded = true ∧ p.synth = false := by
  unfold State.codedFormat
  cases next : s.nextPanel n m with
  | none => simp
  | some q =>
    cases found : s.ctx? n q with
    | none => simp [found]
    | some p => simp [found]

theorem following_iff (r : RegState) : following r = true ↔ r = .tracking ∨ r = .coasting ∨ r = .lost := by
  cases r <;> decide

theorem startSynth_eq_false {n : Lane} {s : State} {x : StartExpect} (start : (s.reg.get n).start = some x) :
    s.startSynth n = false ↔ ∀ p, s.ctx? n x.panel = some p → p.synth = false := by
  simp only [State.startSynth, start, Option.bind_some]
  cases s.ctx? n x.panel <;> simp

theorem currentSynth_eq_false (n : Lane) (s : State) :
    s.currentSynth n = false ↔ ∀ q p, (s.reg.get n).current = some q → s.ctx? n q = some p → p.synth = false := by
  unfold State.currentSynth
  cases (s.reg.get n).current with
  | none => simp
  | some q =>
    rw [Option.bind_some]
    constructor
    · intro synth q' p same found
      obtain rfl := Option.some.inj same
      rw [found] at synth
      exact synth
    · intro each
      cases found : s.ctx? n q with
      | none => rfl
      | some p => exact each q p rfl found

/-- The point lies in the open window of the start expectation (R65, R76). -/
theorem inStartWindow_iff {n : Lane} {m : Int} {s : State} {x : StartExpect} (start : (s.reg.get n).start = some x)
    (follows : following (s.reg.get n).state = true) : s.inStartWindow n m = true ↔
      |x.x - m| ≤ (if (s.reg.get n).state = .lost then s.par .searchWin else s.par .markWin)
        ∧ ∀ p, s.ctx? n x.panel = some p → p.synth = false := by
  simp only [State.inStartWindow, start, follows, Bool.true_and, Bool.and_eq_true, Bool.not_eq_true', startSynth_eq_false start,
    decide_eq_true_iff, distance_eq_abs, State.startHalf, and_comm]

theorem inPitchWindow_iff {n : Lane} {m : Int} {s : State} {y : PitchExpect} (pitch : (s.reg.get n).pitch = some y)
    (follows : following (s.reg.get n).state = true) : s.inPitchWindow n m = true ↔
      |y.x - m| ≤ s.par .markWin ∧ (s.reg.get n).state ≠ .lost
        ∧ ∀ q p, (s.reg.get n).current = some q → s.ctx? n q = some p → p.synth = false := by
  simp only [State.inPitchWindow, State.pitchWindow, pitch, follows, Bool.true_and, Bool.and_eq_true, Bool.not_eq_true',
    currentSynth_eq_false, decide_eq_true_iff, bne_iff_ne, distance_eq_abs]
  constructor
  · rintro ⟨⟨state, synth⟩, near⟩
    exact ⟨near, state, synth⟩
  · rintro ⟨near, state, synth⟩
    exact ⟨⟨state, synth⟩, near⟩

/-- The panel next expected in a lane that follows marks (R66). -/
theorem nextPanel_following {n : Lane} {s : State} (follows : following (s.reg.get n).state = true) (m : Int) :
    s.nextPanel n m = match (s.reg.get n).start, (s.reg.get n).pitch with
      | none, none => none
      | some x, none => some x.panel
      | none, some _ => (s.reg.get n).current
      | some x, some y =>
          if s.inStartWindow n m = true ∧ (s.inPitchWindow n m = true → |x.x - m| ≤ |y.x - m|) then some x.panel
          else if s.inPitchWindow n m = true then (s.reg.get n).current
          else if x.x ≤ y.x then some x.panel else (s.reg.get n).current := by
  have chosen (x : StartExpect) (y : PitchExpect) : startNearer x y m = decide (|x.x - m| ≤ |y.x - m|) := by
    simp only [startNearer, distance_eq_abs]
  unfold State.nextPanel
  rcases (following_iff _).mp follows with state | state | state <;> simp only [state]
  all_goals
    cases (s.reg.get n).start <;> cases (s.reg.get n).pitch <;> simp only [chosen]
    cases s.inStartWindow n m <;> cases s.inPitchWindow n m <;> simp

/-- Settles O8: what a leading edge does, and the panel next expected at it. -/
theorem leadingEdgeStartsDecode : Obligations.LeadingEdgeStartsDecode := by
  refine ⟨fun n s => ?_, fun n m s => codedFormat_iff s n m, fun n m s => ?_⟩
  · intro dark
    have run : exec (.leadingEdge n) s = .next (startTx (leadingEdge n s)) := rfl
    refine ⟨fun light free watching => ?_, fun light busy => ?_, fun already => ?_⟩
    · rw [run, leadingEdge, light, if_neg Bool.false_ne_true, if_pos ((edgesTaken_iff s).mpr free),
        takeLeading_watching (s := setDark n true s) watching]
      rfl
    · rw [run, leadingEdge, light, if_neg Bool.false_ne_true]
      by_cases free : s.edgesTaken = true
      · have other : (s.eyes.get n).decode ≠ .watching :=
          busy.resolve_left (by rw [(edgesTaken_iff s).mp free]; exact Nat.lt_irrefl 0)
        rw [if_pos free, takeLeading_other (s := setDark n true s) other]
        rfl
      · rw [if_neg free]
        rfl
    · rw [run, leadingEdge, if_pos already]
  · intro r half inStart inPitch
    refine ⟨fun seeking => ?_, fun stands => ?_, fun follows => ?_⟩
    · have state : (s.reg.get n).state = .seeking := seeking
      simp only [State.nextPanel, state]
    · unfold State.nextPanel
      rcases stands with state | state <;> simp only [show (s.reg.get n).state = _ from state]
    · have follows' := (following_iff _).mpr follows
      have next := nextPanel_following follows' m
      refine ⟨fun start pitch => ?_, fun x start pitch => ?_, fun y start pitch => ?_, fun x y start pitch => ?_⟩ <;>
        simp only [show (s.reg.get n).start = _ from start, show (s.reg.get n).pitch = _ from pitch] at next
      · exact next
      · exact next
      · exact next
      · have inS : s.inStartWindow n m = true ↔ inStart x := inStartWindow_iff start follows'
        have inP : s.inPitchWindow n m = true ↔ inPitch y := inPitchWindow_iff pitch follows'
        refine ⟨fun near nearer => ?_, fun near nearer => ?_, fun outS outP => ?_⟩
        · rw [next, if_pos ⟨inS.mpr near, fun inside => nearer (inP.mp inside)⟩]
        · rw [next, if_neg (fun h => absurd (h.2 (inP.mpr near)) (not_le.mpr (nearer (inS.mp h.1)))), if_pos (inP.mpr near)]
        · rw [next, if_neg (fun h => outS (inS.mp h.1)), if_neg (mt inP.mp outP)]

/-! ## INSPECT (R56, R57, R86) -/

/-- What an interval gives a context at an assertion of INSPECT. -/
def inspectionGiven (i : Option Interval) (c : Ctx) : Ctx :=
  if (∃ j, i = some j ∧ j.owner = c.src ∧ j.begun = true) ∧ (c.state = .expected ∨ c.state = .active) then
    { c with reasons := { c.reasons with inspection := true } } else c

theorem inspectBegin_eq {n : Lane} {s : State} (asserted : s.pins.inspect.get n = true) (i : Option Interval) :
    inspectBegin n i s = { s with lists := s.lists.set n ((s.lists.get n).map (inspectionGiven i)) } := by
  have none_ {f : Ctx → Ctx} (same : ∀ c, f c = c) : s = { s with lists := s.lists.set n ((s.lists.get n).map f) } := by
    rw [show f = id from funext same, List.map_id, Lanes.set_get]
  unfold inspectBegin
  cases i with
  | none => exact none_ fun c => by simp [inspectionGiven]
  | some j =>
    by_cases begun : j.begun = true
    · simp only [begun, asserted, true_and, if_true]
      rw [giveInspection, onCtx_eq]
      congr 3
      funext c
      simp only [inspectionGiven, Option.some.injEq, exists_eq_left', begun, and_true]
      by_cases owner : c.src = j.owner
      · simp [owner]
      · simp [owner, Ne.symm owner]
    · have stays : inspectionGiven (some j) = id := by
        funext c
        simp [inspectionGiven, begun]
      dsimp only
      rw [if_neg fun h => begun h.1, stays, List.map_id, Lanes.set_get]

theorem Lanes.set_set {α : Type} (t : Lanes α) (n : Lane) (a b : α) : (t.set n a).set n b = t.set n b := by cases n <;> rfl

theorem inspectionGiven_src (i : Option Interval) (c : Ctx) : (inspectionGiven i c).src = c.src ∧ (inspectionGiven i c).state = c.state := by
  unfold inspectionGiven
  split <;> exact ⟨rfl, rfl⟩

/-- Settles O11: INSPECT flags the decode and gives its panels INSPECTION. -/
theorem inspectAssertFlagsDecode : Obligations.InspectAssertFlagsDecode := by
  intro n a s level e flagged given
  have run : exec (.inspectAssert n a) s = .next (startTx (inspectChange n a s)) := rfl
  refine ⟨fun quiet => ?_, fun rises low watches => ?_⟩
  · rw [run, inspectChange]
    refine congrArg (fun t => Host.Outcome.next (startTx t)) (if_neg ?_)
    rintro ⟨rises, low, watches⟩
    rcases quiet with falls | high | off
    · exact Bool.noConfusion (falls.symm.trans rises)
    · exact Bool.noConfusion (high.symm.trans low)
    · exact watches off
  · refine ⟨fun c => inspectionGiven e.pitchInterval (inspectionGiven e.startInterval c), ?_, fun c => ?_⟩
    · rw [run, inspectChange, if_pos ⟨rises, low, watches⟩]
      subst rises
      let t : State := { s with pins := level, eyes := s.eyes.set n { e with decode := flagged } }
      have asserted : t.pins.inspect.get n = true := by
        change (s.pins.inspect.set n true).get n = true
        rw [Lanes.get_set_same]
      have taken : takeInspect n { s with pins := level } = inspectBegin n e.pitchInterval (inspectBegin n e.startInterval t) := rfl
      have both : takeInspect n { s with pins := level } = t.onList n
          (List.map fun c => inspectionGiven e.pitchInterval (inspectionGiven e.startInterval c)) := by
        rw [taken, inspectBegin_eq asserted, inspectBegin_eq (by exact asserted)]
        simp only [t, State.onList, Lanes.get_set_same, Lanes.set_set, List.map_map]
        rfl
      exact congrArg (fun t => Host.Outcome.next (startTx t)) both
    · obtain ⟨src, state⟩ := inspectionGiven_src e.startInterval c
      refine ⟨fun gives => ?_, fun keeps => ?_⟩
      · obtain ⟨open_, i, which, owner, begun⟩ := gives
        dsimp only
        rcases which with start | pitch
        · have first : inspectionGiven e.startInterval c = { c with reasons := { c.reasons with inspection := true } } :=
            if_pos ⟨⟨i, start, owner, begun⟩, open_⟩
          rw [first, inspectionGiven]
          split <;> rfl
        · rw [inspectionGiven, if_pos ⟨⟨i, pitch, by rw [src]; exact owner, begun⟩, by rw [state]; exact open_⟩, inspectionGiven]
          split <;> rfl
      · have first : inspectionGiven e.startInterval c = c := if_neg fun ⟨⟨i, start, owner, begun⟩, open_⟩ =>
          keeps ⟨open_, i, .inl start, owner, begun⟩
        dsimp only
        rw [first]
        exact if_neg fun ⟨⟨i, pitch, owner, begun⟩, open_⟩ => keeps ⟨open_, i, .inr pitch, owner, begun⟩

end Sys2Proof.Machine
end

section
/-! PROOFS. Trailing edges (R42, R45, R47, R48). -/
namespace Sys2Proof.Machine

theorem takeTrailing_clearing {n : Lane} {s : State} (clearing : (s.eyes.get n).decode = .clearing) :
    takeTrailing n s = s.onEye n fun e => { e with decode := .watching } := by
  simp only [takeTrailing, clearing]

/-- A PLAIN bar ends: its kind by its length (R45, R47). -/
theorem takeTrailing_inBar {n : Lane} {m : Int} {i : Bool} {s : State} (bar : (s.eyes.get n).decode = .inBar m i) :
    takeTrailing n s = if s.beamPos - m ≤ s.par .barShortMax then handOver n ⟨m, false, .pitch, none, i⟩ .watching s
      else if s.par .barLongMin ≤ s.beamPos - m then handOver n ⟨m, false, .start, none, i⟩ .watching s
      else malformed n m .watching s := by
  simp only [takeTrailing, bar, barKind]
  by_cases short : s.beamPos - m ≤ s.par .barShortMax
  · simp only [if_pos short]
  · by_cases long : s.par .barLongMin ≤ s.beamPos - m
    · simp only [if_neg short, if_pos long]
    · simp only [if_neg short, if_neg long]

theorem takeTrailing_inCode {n : Lane} {m : Int} {g i : Bool} {cells : List Bool} {s : State}
    (code : (s.eyes.get n).decode = .inCode m g cells i) :
    takeTrailing n s = if g = false ∧ s.beamPos ≤ m + s.par .barShortMax
      then s.onEye n fun e => { e with decode := .inCode m true cells i } else s := by
  simp only [takeTrailing, code]
  cases g <;> simp

theorem takeTrailing_other {n : Lane} {s : State} (idle : (s.eyes.get n).decode = .off ∨ (s.eyes.get n).decode = .watching) :
    takeTrailing n s = s := by
  rcases idle with off | watching
  · simp only [takeTrailing, off]
  · simp only [takeTrailing, watching]

/-- Settles O9: what a trailing edge ends. -/
theorem trailingEdgeEndsBar : Obligations.TrailingEdgeEndsBar := by
  intro n s light u
  have run : exec (.trailingEdge n) s = .next (startTx (trailingEdge n s)) := rfl
  refine ⟨fun already => ?_, fun dark held => ?_, fun dark free => ?_⟩
  · rw [run, trailingEdge, already, if_neg Bool.false_ne_true]
  · rw [run, trailingEdge, if_pos dark, if_neg (mt (edgesTaken_iff s).mp (Nat.ne_of_gt held))]
    rfl
  · let t := setDark n false s
    have taken : exec (.trailingEdge n) s = .next (startTx (settleAll s (takeTrailing n t))) := by
      rw [run, trailingEdge, if_pos dark, if_pos ((edgesTaken_iff s).mpr free)]
    obtain ⟨beamPos, par⟩ : t.beamPos = s.beamPos ∧ t.par = s.par := ⟨rfl, rfl⟩
    rw [taken]
    refine ⟨fun clearing => ?_, fun m i bar => ⟨fun short => ?_, fun short long => ?_, fun short long => ?_⟩,
      fun m g cells i code => ?_, fun idle => ?_⟩
    · rw [takeTrailing_clearing (s := t) clearing]
      rfl
    · rw [takeTrailing_inBar (s := t) bar, beamPos, par, if_pos short]
      rfl
    · rw [takeTrailing_inBar (s := t) bar, beamPos, par, if_neg (not_le.mpr short), if_pos long]
      rfl
    · rw [takeTrailing_inBar (s := t) bar, beamPos, par, if_neg (not_le.mpr short), if_neg (not_le.mpr long)]
      rfl
    · rw [takeTrailing_inCode (s := t) code, beamPos, par]
      refine congrArg (fun v => Host.Outcome.next (startTx (settleAll s v))) ?_
      by_cases good : g = false ∧ s.beamPos ≤ m + s.par .barShortMax
      · simp only [if_pos good]
        rfl
      · simp only [if_neg good]
        rfl
    · rw [takeTrailing_other (s := t) idle]
      rfl

end Sys2Proof.Machine
end

section
/-! PROOFS. Zones reported and added (R94, R95, R99). -/
namespace Sys2Proof.Machine

theorem placeZone_late {lock : Int} {z : Zone} (late : z.hi ≤ lock) : placeZone lock z = none := if_pos late

theorem placeZone_placed {lock : Int} {z : Zone} (ahead : lock < z.hi) :
    placeZone lock z = some { z with lo := max z.lo lock } := by
  rw [placeZone, if_neg (not_le.mpr ahead), higher_eq_max]

/-- A zone that joins changes the list and the events alone (R96). -/
theorem addPlaced_eq (z : Zone) (s : State) :
    addPlaced z s = { s with zones := (mergeZone z s.zones).1, link := (addPlaced z s).link } := by
  unfold addPlaced
  rcases mergeZone z s.zones with ⟨l, _ | m⟩ <;> rfl

/-- The answer to a ZONE_ADD of a line that runs a job (R99). -/
theorem doZoneAdd_active {tag : Byte} {offset length : Word32} {s : State} (active : s.motion.line ≠ .idle)
    (fits : ¬(length.toNat < 1 ∨ 2000000 < length.toNat ∨ offset.toInt < -4000000 ∨ 4000000 < offset.toInt)) :
    doZoneAdd tag offset length s =
      match placeZone s.lockPoint ⟨s.inPos + offset.toInt, s.inPos + offset.toInt + length.toNat, .operator⟩ with
      | none => reply 0x16 tag .late [] s
      | some z => addPlaced z (reply 0x16 tag (if z.lo = s.inPos + offset.toInt then .ok else .clamped) (be32 z.lo ++ be32 z.hi) s) := by
  rw [doZoneAdd]
  exact (if_neg active).trans (if_neg fits)

/-- Settles O17: zones reported, and ZONE_ADD. -/
theorem zonesJoinOrAreLate : Obligations.ZonesJoinOrAreLate := by
  refine ⟨fun lo len cause s => ⟨fun silent => reportZone_silent silent, fun busy some => ⟨fun late => ?_, fun ahead => ?_⟩⟩,
    fun s => ⟨rfl, fun k => rfl⟩, fun tag offset length s ready => ?_⟩
  · exact reportZone_late (not_or.mpr ⟨busy, some⟩) (placeZone_late late)
  · exact reportZone_placed (not_or.mpr ⟨busy, some⟩) (placeZone_placed ahead)
  · intro bad lock lo hi
    refine ⟨fun idle => ?_, fun active outside => ?_, fun active fits late => ?_, fun active fits ahead => ?_⟩
    · exact exec_request_answered (c := .zoneAdd tag offset length) (r := .zoneAdd offset length) (kind := 0x16) (st := .wrongState)
        (rest := []) (u := s) ready rfl trivial (if_pos idle)
    · exact exec_request_answered (c := .zoneAdd tag offset length) (r := .zoneAdd offset length) (kind := 0x16) (st := .badValue)
        (rest := [0]) (u := s) ready rfl trivial ((if_neg active).trans (if_pos outside))
    · refine exec_request_answered (c := .zoneAdd tag offset length) (r := .zoneAdd offset length) (kind := 0x16) (st := .late)
        (rest := []) (u := s) ready rfl trivial ((doZoneAdd_active active fits).trans ?_)
      rw [placeZone_late late]
    · have run : exec (.zoneAdd tag offset length) s = .next (startTx (doZoneAdd tag offset length s)) :=
        exec_request_ready (r := .zoneAdd offset length) ready rfl trivial
      let z : Zone := ⟨max lo lock, hi, .operator⟩
      let u := reply 0x16 tag (if z.lo = lo then .ok else .clamped) (be32 z.lo ++ be32 z.hi) s
      have placed : doZoneAdd tag offset length s = addPlaced z u := by
        rw [doZoneAdd_active active fits, placeZone_placed ahead]
        rfl
      have joined := addPlaced_eq z u
      have zones : (addPlaced z s).zones = (mergeZone z s.zones).1 := addPlaced_zones z s
      rw [placed] at run
      refine ⟨_, run, ?_, ?_⟩
      · rw [joined]
        change _ = { s with zones := (addPlaced z s).zones, link := _ }
        rw [zones]
        rfl
      · have status : (if z.lo = lo then Status.ok else .clamped) = if lock ≤ lo then .ok else .clamped := by
          have iff : z.lo = lo ↔ lock ≤ lo := max_eq_left_iff
          simp only [iff]
        have code : replyFrame 0x16 tag (if z.lo = lo then .ok else .clamped) (be32 z.lo ++ be32 z.hi)
            = ⟨0x96, tag, (if lock ≤ lo then 0x00 else 0x01) :: (be32 (max lo lock) ++ be32 hi)⟩ := by
          rw [status]
          split <;> rfl
        rw [← code]
        exact replied_behind (by simp [u]) (by simp [u, reply])

end Sys2Proof.Machine
end

section
/-! PROOFS. The reasons and the result of a panel (R55, R86, R87, R97, R98). -/
namespace Sys2Proof.Machine

/-! ## The result (R87) -/

theorem Reasons.any_eq_false (r : Reasons) : r.any = false ↔ r = Reasons.empty := by
  rcases r with ⟨a, b, c, d, e, f⟩
  simp [Reasons.any, Reasons.empty, and_assoc]

theorem outOfTol_some (tol a x : Int) : outOfTol tol (some a) (some x) = true ↔ tol < |a - x| := by
  simp [outOfTol, present, distance_eq_abs]

theorem panelResult_reject (tol : Int) (c : Ctx) : panelResult tol c = .reject ↔ c.reasons.any = true := by
  unfold panelResult
  split
  · next any => simp [any]
  · next none =>
    refine iff_of_false ?_ none
    split <;> decide

theorem panelResult_outOfTol (tol : Int) (c : Ctx) : panelResult tol c = .outOfTol ↔ c.reasons = Reasons.empty
    ∧ (outOfTol tol c.startTarget c.startActual = true ∨ outOfTol tol c.endTarget c.endActual = true ∨ c.notes.unregistered = true) := by
  rw [← Reasons.any_eq_false]
  unfold panelResult
  split
  · next any => simp [any]
  · next none =>
    rw [Bool.not_eq_true] at none
    split
    · next off => simpa [none, or_assoc] using off
    · next within => simpa [none, or_assoc] using within

/-! ## Zones and panels (R97, R98) -/

theorem zoneOnCtx_of_targets {z : Zone} {c : Ctx} {a b : Int} (start : c.startTarget = some a) (end_ : c.endTarget = some b) :
    zoneOnCtx z c = if a < z.hi ∧ z.lo < b then { c with reasons := addZoneReason z.cause c.reasons } else c := by
  simp only [zoneOnCtx, start, end_, overlaps, Bool.and_eq_true, decide_eq_true_eq]

/-- What the zones the outfeed has passed make of a context (R98). -/
def passedZonesOn (s : State) (c : Ctx) : Ctx :=
  if s.openActive c = true then zonesOnCtx (s.zones.filter fun z => decide (z.hi < s.outPos)) c else c

/-- Zones behind the outfeed leave the list, and the contexts have been compared with them (R98). -/
theorem removeZones_eq (s : State) : removeZones s = { s with
    zones := s.zones.filter fun z => decide (s.outPos ≤ z.hi)
    lists := ⟨s.lists.l0.map (passedZonesOn s), s.lists.l1.map (passedZonesOn s), s.lists.l2.map (passedZonesOn s),
      s.lists.l3.map (passedZonesOn s)⟩ } := by
  have kept (z : Zone) : (!decide (z.hi < s.outPos)) = decide (s.outPos ≤ z.hi) := by
    rw [← decide_not]
    exact decide_eq_decide.mpr not_lt
  unfold removeZones
  dsimp only
  split
  · next empty =>
    have none : s.zones.filter (fun z => decide (z.hi < s.outPos)) = [] := by simpa using empty
    have same : passedZonesOn s = id := by
      funext c
      rw [passedZonesOn, none]
      exact ite_self c
    have all : s.zones.filter (fun z => decide (s.outPos ≤ z.hi)) = s.zones := by
      refine List.filter_eq_self.mpr fun z mem => ?_
      have ahead := List.filter_eq_nil_iff.mp none z mem
      simpa using ahead
    rw [all, same]
    simp only [List.map_id]
  · simp only [← kept]
    rfl

theorem entryFixed_iff (s : State) (o : Nat) : s.entryFixed o = true ↔
    ∀ e, s.cuts.entries.find? (fun e => e.order == o) = some e → e.status ≠ .provisional := by
  unfold State.entryFixed State.entry?
  cases s.cuts.entries.find? (fun e => e.order == o) <;> simp

/-- The panels compared at a removal (R98). -/
theorem openActive_iff (s : State) (c : Ctx) : s.openActive c = true ↔ c.state = .active
    ∧ (∀ o e, c.startEntry = some o → s.cuts.entries.find? (fun e => e.order == o) = some e → e.status ≠ .provisional)
    ∧ ∃ o e, c.endEntry = some o ∧ s.cuts.entries.find? (fun e => e.order == o) = some e ∧ e.status = .provisional := by
  have fixed (o : Nat) : s.entryFixed o = true ↔ ∀ o' e, some o = some o' →
      s.cuts.entries.find? (fun e => e.order == o') = some e → e.status ≠ .provisional := by
    rw [entryFixed_iff]
    exact ⟨fun h o' e same => Option.some.inj same ▸ h e, fun h e => h o e rfl⟩
  have waits (o : Nat) : s.entryFixed o = false ↔ ∃ o' e, some o = some o' ∧
      s.cuts.entries.find? (fun e => e.order == o') = some e ∧ e.status = .provisional := by
    rw [← Bool.not_eq_true, entryFixed_iff]
    simp
  unfold State.openActive
  cases c.startEntry with
  | none =>
    cases c.endEntry with
    | none => simp
    | some o => simp only [Bool.and_true, Bool.and_eq_true, beq_iff_eq, Bool.not_eq_true', waits, reduceCtorEq, false_implies,
        implies_true, true_and]
  | some o =>
    cases c.endEntry with
    | none => simp
    | some o' => simp only [Bool.and_eq_true, beq_iff_eq, Bool.not_eq_true', waits, fixed, and_assoc]

/-! ## The tag (R55) -/

theorem giveTag_eq (n : Lane) (q : Source) (s : State) : giveTag n q s = { s with
    lists := s.lists.set n ((s.lists.get n).map fun c =>
      if c.src = q ∧ c.state = .active then { c with reasons := { c.reasons with tag := true } } else c) } := by
  rw [giveTag, onCtx_eq]
  simp only [ite_and]

/-- A tag that differs from the panel's (R55). -/
theorem compareTag_eq (n : Lane) (p : Ctx) (rec : MarkRecord) (s : State) :
    compareTag n p rec s = if rec.coded = true ∧ p.coded = true ∧ ∃ t, rec.tag = some t ∧ t ≠ p.tag
      then if s.par .tagPolicy = 1 then raiseHold .tagMismatch (giveTag n p.src s) else giveTag n p.src s else s := by
  unfold compareTag
  cases rec.tag with
  | none => simp
  | some t => simp

/-- Settles O16: results, reasons of zones, and the reasons INSPECTION and TAG. -/
theorem panelReasonsAndResult : Obligations.PanelReasonsAndResult := by
  refine ⟨fun tol c a b x y startT startA endT endA => ⟨?_, ?_⟩, fun z c a b start end_ => ⟨fun over_ => ?_, fun apart => ?_⟩,
    fun s => ⟨passedZonesOn s, ?_⟩, fun n q s => ?_, fun n p rec s => ?_⟩
  · rw [panelResult_reject]
    simp [Reasons.any, or_assoc]
  · rw [panelResult_outOfTol, startT, startA, endT, endA, outOfTol_some, outOfTol_some]
  · rw [zoneOnCtx_of_targets start end_, if_pos over_]
    cases z.cause <;> rfl
  · rw [zoneOnCtx_of_targets start end_, if_neg]
    rintro ⟨before, behind⟩
    rcases apart with h | h <;> omega
  · intro at_ openPanel
    refine ⟨removeZones_eq s, fun c => ⟨fun open_ => ?_, fun closed => ?_⟩⟩
    · exact if_pos ((openActive_iff s c).mpr open_)
    · exact if_neg (mt (openActive_iff s c).mp closed)
  · rw [giveInspection, onCtx_eq]
    simp only [ite_and]
  · intro differs lists
    rw [compareTag_eq]
    refine ⟨fun same => if_neg same, fun other policy => ?_, fun other policy => ?_⟩
    · rw [if_pos other, if_neg policy, giveTag_eq]
    · rw [if_pos other, if_pos policy, giveTag_eq]
      exact ⟨rfl, by simp [lists]⟩

end Sys2Proof.Machine
end

section
/-! PROOFS. An entry placed in the Cut Queue (R83, R102, R105, R106). -/
namespace Sys2Proof.Machine

/-! ## Contexts that are changed in place -/

/-- The context found after every context of the list was changed, each keeping its source. -/
theorem find_src_map {f : Ctx → Ctx} (keeps : ∀ c, (f c).src = c.src) (q : Source) (l : List Ctx) :
    (l.map f).find? (fun c => c.src = q) = (l.find? fun c => c.src = q).map f := by
  rw [List.find?_map]
  congr 2
  funext c
  simp only [Function.comp, keeps]

theorem ctx?_src {n : Lane} {q : Source} {c : Ctx} {s : State} (found : s.ctx? n q = some c) : c.src = q := by
  rw [ctx?_eq] at found
  simpa using List.find?_some found

/-- A context changed as the panel its entry's part starts, and then as the one it ends. -/
def onPart (p : Option LanePart) (f g : Ctx → Ctx) (c : Ctx) : Ctx :=
  let d := if p.bind LanePart.starts = some c.src then f c else c
  if p.bind LanePart.ends = some c.src then g d else d

theorem onPart_src {f g : Ctx → Ctx} (keepsF : ∀ c, (f c).src = c.src) (keepsG : ∀ c, (g c).src = c.src) (p : Option LanePart)
    (c : Ctx) : (onPart p f g c).src = c.src := by
  have started : (if p.bind LanePart.starts = some c.src then f c else c).src = c.src := by
    split
    · exact keepsF c
    · rfl
  by_cases ends : p.bind LanePart.ends = some c.src
  · rw [show onPart p f g c = g _ from if_pos ends]
    exact (keepsG _).trans started
  · rw [show onPart p f g c = _ from if_neg ends]
    exact started

/-- The panel a part ends, changed first or not as the one it starts. -/
theorem onPart_ends {f g : Ctx → Ctx} (keepsF : ∀ c, (f c).src = c.src) {p : Option LanePart} {c : Ctx}
    (ends : p.bind LanePart.ends = some c.src) : ∃ d, onPart p f g c = g d ∧ d.src = c.src := by
  refine ⟨_, if_pos ends, ?_⟩
  split
  · exact keepsF c
  · rfl

/-- The panel a part starts, changed afterwards or not as the one it ends. -/
theorem onPart_starts {f g : Ctx → Ctx} {p : Option LanePart} {c : Ctx} (starts : p.bind LanePart.starts = some c.src) :
    onPart p f g c = f c ∨ onPart p f g c = g (f c) := by
  unfold onPart
  rw [if_pos starts]
  split
  · exact .inr rfl
  · exact .inl rfl

theorem onCtx_none {n : Lane} {f : Ctx → Ctx} {s : State} (same : ∀ c, f c = c) : s.onList n (List.map f) = s := by
  rw [State.onList, show f = id from funext same]
  simp only [List.map_id, Lanes.set_get]

/-- The state with the panels a part starts and ends changed, as the model walks a lane part. -/
theorem onCtx_part {f : Ctx → Ctx} (keeps : ∀ c, (f c).src = c.src) (g : Ctx → Ctx) (n : Lane) (p : LanePart) (s : State) :
    s.onList n (List.map (onPart (some p) f g)) =
      let u := match p.starts with | some q => s.onCtx n q f | none => s
      match p.ends with | some q => u.onCtx n q g | none => u := by
  rcases p with ⟨ends, starts⟩
  cases ends with
  | none =>
    cases starts with
    | none => exact onCtx_none fun c => rfl
    | some r =>
      refine congrArg (fun h => s.onList n (List.map h)) (funext fun c => ?_)
      simp only [onPart, Option.bind_some, Option.some.injEq, reduceCtorEq, if_false, beq_iff_eq, @eq_comm _ r]
  | some q =>
    cases starts with
    | none =>
      refine congrArg (fun h => s.onList n (List.map h)) (funext fun c => ?_)
      simp only [onPart, Option.bind_some, Option.some.injEq, reduceCtorEq, if_false, beq_iff_eq, @eq_comm _ q]
    | some r =>
      simp only [State.onCtx, State.onList, Lanes.get_set_same, Lanes.set_set, List.map_map]
      refine congrArg (fun h => ({ s with lists := s.lists.set n ((s.lists.get n).map h) } : State)) (funext fun c => ?_)
      have src : (if c.src = r then f c else c).src = c.src := by
        split
        · exact keeps c
        · rfl
      simp only [onPart, Option.bind_some, Option.some.injEq, Function.comp, beq_iff_eq, @eq_comm _ r, @eq_comm _ q, src]

/-! ## Targets follow their entry (R83, R105) -/

/-- The panel an entry starts takes its order number and coordinate. -/
def takeStart (order : Nat) (x : Int) (merged : Bool) (c : Ctx) : Ctx :=
  noteMerged merged { c with startEntry := some order, startTarget := some x }

/-- The panel an entry ends takes its order number and coordinate. -/
def takeFinish (order : Nat) (x : Int) (merged : Bool) (c : Ctx) : Ctx :=
  noteMerged merged { c with endEntry := some order, endTarget := some x }

theorem noteMerged_eq (merged : Bool) (c : Ctx) :
    noteMerged merged c = { c with notes := { c.notes with merged := c.notes.merged || merged } } := by
  cases merged <;> simp [noteMerged]

theorem takeStart_fields (order : Nat) (x : Int) (merged : Bool) (c : Ctx) :
    (takeStart order x merged c).src = c.src ∧ (takeStart order x merged c).startEntry = some order
      ∧ (takeStart order x merged c).startTarget = some x ∧ (merged = true → (takeStart order x merged c).notes.merged = true) := by
  rw [takeStart, noteMerged_eq]
  exact ⟨rfl, rfl, rfl, fun h => by simp [h]⟩

theorem takeFinish_fields (order : Nat) (x : Int) (merged : Bool) (c : Ctx) :
    (takeFinish order x merged c).src = c.src ∧ (takeFinish order x merged c).endEntry = some order
      ∧ (takeFinish order x merged c).endTarget = some x ∧ (takeFinish order x merged c).startEntry = c.startEntry
      ∧ (takeFinish order x merged c).startTarget = c.startTarget
      ∧ (c.notes.merged = true ∨ merged = true → (takeFinish order x merged c).notes.merged = true) := by
  rw [takeFinish, noteMerged_eq]
  exact ⟨rfl, rfl, rfl, rfl, rfl, fun h => by simpa using h⟩

/-- What an entry makes of a context of a lane it has a part in. -/
def retargetCtx (order : Nat) (x : Int) (merged : Bool) (p : Option LanePart) : Ctx → Ctx :=
  onPart p (takeStart order x merged) (takeFinish order x merged)

theorem retargetCtx_src (order : Nat) (x : Int) (merged : Bool) (p : Option LanePart) (c : Ctx) :
    (retargetCtx order x merged p c).src = c.src :=
  onPart_src (fun c => (takeStart_fields _ _ _ c).1) (fun c => (takeFinish_fields _ _ _ c).1) p c

theorem retargetCtx_starts (order : Nat) (x : Int) (merged : Bool) {p : Option LanePart} {c : Ctx}
    (starts : p.bind LanePart.starts = some c.src) :
    (retargetCtx order x merged p c).startEntry = some order ∧ (retargetCtx order x merged p c).startTarget = some x
      ∧ (merged = true → (retargetCtx order x merged p c).notes.merged = true) := by
  obtain ⟨-, entry, target, note⟩ := takeStart_fields order x merged c
  rcases onPart_starts (f := takeStart order x merged) (g := takeFinish order x merged) starts with same | same
  · rw [retargetCtx, same]
    exact ⟨entry, target, note⟩
  · obtain ⟨-, -, -, entry', target', note'⟩ := takeFinish_fields order x merged (takeStart order x merged c)
    rw [retargetCtx, same]
    exact ⟨entry'.trans entry, target'.trans target, fun h => note' (.inr h)⟩

theorem retargetCtx_ends (order : Nat) (x : Int) (merged : Bool) {p : Option LanePart} {c : Ctx}
    (ends : p.bind LanePart.ends = some c.src) :
    (retargetCtx order x merged p c).endEntry = some order ∧ (retargetCtx order x merged p c).endTarget = some x
      ∧ (merged = true → (retargetCtx order x merged p c).notes.merged = true) := by
  obtain ⟨d, same, -⟩ := onPart_ends (g := takeFinish order x merged) (fun c => (takeStart_fields order x merged c).1) ends
  obtain ⟨-, entry, target, -, -, note⟩ := takeFinish_fields order x merged d
  rw [retargetCtx, same]
  exact ⟨entry, target, fun h => note (.inr h)⟩

end Sys2Proof.Machine
end

section
/-! PROOFS. An entry placed in the Cut Queue, second part: what a lane's walk leaves, and the queue (R83, R102, R105, R106). -/
namespace Sys2Proof.Machine

/-! ## Contexts that gain reasons only -/

/-- The context d is c, with reasons added at most. -/
def OnlyReasons (c d : Ctx) : Prop :=
  d = { c with reasons := d.reasons }
  ∧ (c.reasons.inspection = true → d.reasons.inspection = true) ∧ (c.reasons.tag = true → d.reasons.tag = true)
  ∧ (c.reasons.splice = true → d.reasons.splice = true) ∧ (c.reasons.dwell = true → d.reasons.dwell = true)
  ∧ (c.reasons.operator = true → d.reasons.operator = true) ∧ (c.reasons.host = true → d.reasons.host = true)

theorem OnlyReasons.refl (c : Ctx) : OnlyReasons c c := ⟨rfl, id, id, id, id, id, id⟩

theorem OnlyReasons.trans {a b c : Ctx} (ab : OnlyReasons a b) (bc : OnlyReasons b c) : OnlyReasons a c := by
  obtain ⟨same, i, t, s, d, o, h⟩ := ab
  obtain ⟨same', i', t', s', d', o', h'⟩ := bc
  refine ⟨?_, i' ∘ i, t' ∘ t, s' ∘ s, d' ∘ d, o' ∘ o, h' ∘ h⟩
  rw [same', same]

theorem OnlyReasons.fields {c d : Ctx} (only : OnlyReasons c d) : d.src = c.src ∧ d.state = c.state
    ∧ d.startEntry = c.startEntry ∧ d.endEntry = c.endEntry ∧ d.startTarget = c.startTarget ∧ d.endTarget = c.endTarget
    ∧ d.fEndLock = c.fEndLock ∧ d.notes = c.notes := by
  rw [only.1]
  exact ⟨rfl, rfl, rfl, rfl, rfl, rfl, rfl, rfl⟩

/-- The contexts of a list, in their order, each with reasons added at most. -/
def GainsReasons (l m : List Ctx) : Prop := ∃ f : Ctx → Ctx, m = l.map f ∧ ∀ c, OnlyReasons c (f c)

theorem GainsReasons.refl (l : List Ctx) : GainsReasons l l := ⟨id, by rw [List.map_id], OnlyReasons.refl⟩

theorem GainsReasons.trans {l m k : List Ctx} (first : GainsReasons l m) (second : GainsReasons m k) : GainsReasons l k := by
  obtain ⟨f, rfl, only⟩ := first
  obtain ⟨g, rfl, only'⟩ := second
  exact ⟨g ∘ f, by rw [List.map_map], fun c => (only c).trans (only' (f c))⟩

/-! ## What is done in one lane -/

/-- From s to t, lists and registration of one lane alone may have changed. -/
def OnlyLane (n : Lane) (s t : State) : Prop := ∀ m, m ≠ n → t.lists.get m = s.lists.get m ∧ t.reg.get m = s.reg.get m

theorem OnlyLane.trans {n : Lane} {s t u : State} (first : OnlyLane n s t) (second : OnlyLane n t u) : OnlyLane n s u := by
  intro m other
  obtain ⟨lists, reg⟩ := first m other
  obtain ⟨lists', reg'⟩ := second m other
  exact ⟨lists'.trans lists, reg'.trans reg⟩

theorem OnlyLane.refl (n : Lane) (s : State) : OnlyLane n s s := fun _ _ => ⟨rfl, rfl⟩

theorem onList_onlyLane (n : Lane) (f : List Ctx → List Ctx) (s : State) : OnlyLane n s (s.onList n f) :=
  fun _ other => ⟨Lanes.get_set_ne _ _ _ _ other, rfl⟩

theorem onReg_onlyLane (n : Lane) (f : LaneReg → LaneReg) (s : State) : OnlyLane n s (s.onReg n f) :=
  fun _ other => ⟨rfl, Lanes.get_set_ne _ _ _ _ other⟩

/-- What is done lane by lane is, in each lane, what is done there from a state that agrees in that lane, and keeps what every
lane's part keeps. -/
theorem forLanes_at_of {g : Lane → State → State} (I : State → Prop) (keeps : ∀ m u, I u → I (g m u))
    (apart : ∀ m u, OnlyLane m u (g m u)) (n : Lane) {s : State} (start : I s) :
    ∃ u, I u ∧ u.lists.get n = s.lists.get n ∧ u.reg.get n = s.reg.get n
      ∧ (forLanes g s).lists.get n = (g n u).lists.get n ∧ (forLanes g s).reg.get n = (g n u).reg.get n := by
  have other {a b : Lane} (u : State) (ne : b ≠ a) := apart a u b ne
  unfold forLanes
  cases n with
  | lane0 =>
    refine ⟨s, start, rfl, rfl, ?_, ?_⟩
    · rw [(other _ (by decide)).1, (other _ (by decide)).1, (other _ (by decide)).1]
    · rw [(other _ (by decide)).2, (other _ (by decide)).2, (other _ (by decide)).2]
  | lane1 =>
    refine ⟨g .lane0 s, keeps _ _ start, (other _ (by decide)).1, (other _ (by decide)).2, ?_, ?_⟩
    · rw [(other _ (by decide)).1, (other _ (by decide)).1]
    · rw [(other _ (by decide)).2, (other _ (by decide)).2]
  | lane2 =>
    refine ⟨g .lane1 (g .lane0 s), keeps _ _ (keeps _ _ start), ?_, ?_, (other _ (by decide)).1, (other _ (by decide)).2⟩
    · rw [(other _ (by decide)).1, (other _ (by decide)).1]
    · rw [(other _ (by decide)).2, (other _ (by decide)).2]
  | lane3 =>
    refine ⟨g .lane2 (g .lane1 (g .lane0 s)), keeps _ _ (keeps _ _ (keeps _ _ start)), ?_, ?_, rfl, rfl⟩
    · rw [(other _ (by decide)).1, (other _ (by decide)).1, (other _ (by decide)).1]
    · rw [(other _ (by decide)).2, (other _ (by decide)).2, (other _ (by decide)).2]

theorem forLanes_at {g : Lane → State → State} (apart : ∀ m u, OnlyLane m u (g m u)) (n : Lane) (s : State) :
    ∃ u, u.lists.get n = s.lists.get n ∧ u.reg.get n = s.reg.get n
      ∧ (forLanes g s).lists.get n = (g n u).lists.get n ∧ (forLanes g s).reg.get n = (g n u).reg.get n := by
  obtain ⟨u, -, agrees⟩ := forLanes_at_of (fun _ => True) (fun _ _ _ => trivial) apart n (s := s) trivial
  exact ⟨u, agrees⟩

/-! ## Registration of a lane when E changes (R57, R64) -/

theorem giveInspection_gains (n : Lane) (q : Source) (s : State) :
    GainsReasons (s.lists.get n) ((giveInspection n q s).lists.get n) := by
  rw [giveInspection, onCtx_eq]
  refine ⟨_, Lanes.get_set_same _ _ _, fun c => ?_⟩
  dsimp only
  split
  · split
    · exact ⟨rfl, fun _ => rfl, id, id, id, id, id⟩
    · exact .refl c
  · exact .refl c

theorem giveInspection_onlyLane (n : Lane) (q : Source) (s : State) : OnlyLane n s (giveInspection n q s) := onList_onlyLane n _ s

/-- Beginning an interval leaves registration, and gives reasons in its lane alone. -/
theorem inspectBegin_lane (n : Lane) (i : Option Interval) (s : State) :
    OnlyLane n s (inspectBegin n i s) ∧ (inspectBegin n i s).reg = s.reg
      ∧ GainsReasons (s.lists.get n) ((inspectBegin n i s).lists.get n) := by
  unfold inspectBegin
  split
  · split
    · exact ⟨giveInspection_onlyLane _ _ s, rfl, giveInspection_gains _ _ s⟩
    · exact ⟨.refl n s, rfl, .refl _⟩
  · exact ⟨.refl n s, rfl, .refl _⟩

theorem armStart_lane (n : Lane) (q : Source) (x : Int) (s : State) :
    OnlyLane n s (armStart n q x s) ∧ (armStart n q x s).reg = s.reg
      ∧ GainsReasons (s.lists.get n) ((armStart n q x s).lists.get n) :=
  inspectBegin_lane n (s.newInterval q x) (s.onEye n fun e => { e with startInterval := s.newInterval q x })

/-- A start expectation formed anew changes nothing else of its lane's registration, and reasons at most. -/
theorem reformStart_lane (n : Lane) (s : State) :
    OnlyLane n s (reformStart n s)
      ∧ (∃ x, (reformStart n s).reg.get n = { s.reg.get n with start := x })
      ∧ GainsReasons (s.lists.get n) ((reformStart n s).lists.get n) := by
  have stays : OnlyLane n s s ∧ (∃ x, s.reg.get n = { s.reg.get n with start := x }) ∧ GainsReasons (s.lists.get n) (s.lists.get n) :=
    ⟨.refl n s, ⟨_, rfl⟩, .refl _⟩
  unfold reformStart
  dsimp only
  split
  · next st e _ _ =>
    split
    · next p _ =>
      have formed := onReg_onlyLane n (fun r => { r with start := some ⟨st.panel, startAt e p (s.reg.get n).f⟩ }) s
      split
      · obtain ⟨lane, reg, gains⟩ := armStart_lane n st.panel (startAt e p (s.reg.get n).f)
          (s.onReg n fun r => { r with start := some ⟨st.panel, startAt e p (s.reg.get n).f⟩ })
        refine ⟨formed.trans lane, ⟨some ⟨st.panel, startAt e p (s.reg.get n).f⟩, ?_⟩, gains⟩
        rw [reg]
        exact Lanes.get_set_same _ _ _
      · exact ⟨formed, ⟨_, Lanes.get_set_same _ _ _⟩, .refl _⟩
    · exact stays
  · exact stays

/-- E taken anew (R64, R105). -/
theorem setEnd_lane (n : Lane) (e : Int) (s : State) :
    OnlyLane n s (setEnd n e s)
      ∧ (∃ x, (setEnd n e s).reg.get n = { s.reg.get n with lastEnd := some e, start := x })
      ∧ GainsReasons (s.lists.get n) ((setEnd n e s).lists.get n) := by
  obtain ⟨lane, ⟨x, reg⟩, gains⟩ := reformStart_lane n (s.onReg n fun r => { r with lastEnd := some e })
  refine ⟨(onReg_onlyLane n _ s).trans lane, ⟨x, ?_⟩, gains⟩
  rw [setEnd, reg]
  simp only [State.onReg, Lanes.get_set_same]

/-! ## The panels of an entry take its coordinate (R83, R105) -/

/-- What the retargeting of a lane makes of its registration: E, where the panel ended is the current one. -/
def Retargeted (x : Int) (p : Option LanePart) (r t : LaneReg) : Prop :=
  t.current = r.current ∧ t.f = r.f ∧ (∀ q, p.bind LanePart.ends = some q → r.current = some q → t.lastEnd = some x)

/-- The retargeting of a lane: its contexts, and then E where the panel ended is the current one. -/
theorem retargetLane_eq (order : Nat) (x : Int) (merged : Bool) (p : Option LanePart) (n : Lane) (s : State) :
    retargetLane order x merged p n s
      = if ∃ q, p.bind LanePart.ends = some q ∧ (s.reg.get n).current = some q
        then setEnd n x (s.onList n (List.map (retargetCtx order x merged p)))
        else s.onList n (List.map (retargetCtx order x merged p)) := by
  cases p with
  | none =>
    have same : s.onList n (List.map (retargetCtx order x merged none)) = s := onCtx_none fun c => rfl
    rw [same, if_neg fun ⟨q, ends, _⟩ => by contradiction]
    rfl
  | some p =>
    have both := onCtx_part (f := takeStart order x merged) (fun c => (takeStart_fields order x merged c).1)
      (takeFinish order x merged) n p s
    rw [retargetCtx, both]
    unfold retargetLane
    dsimp only
    cases ends : p.ends with
    | none => simp only [Option.bind_some, ends, reduceCtorEq, false_and, exists_false, if_false] <;> rfl
    | some q =>
      cases starts : p.starts with
      | none => simp only [Option.bind_some, ends, Option.some.injEq, exists_eq_left'] <;> rfl
      | some r => simp only [Option.bind_some, ends, Option.some.injEq, exists_eq_left'] <;> rfl

theorem retargetLane_lane (order : Nat) (x : Int) (merged : Bool) (p : Option LanePart) (n : Lane) (s : State) :
    OnlyLane n s (retargetLane order x merged p n s)
      ∧ Retargeted x p (s.reg.get n) ((retargetLane order x merged p n s).reg.get n)
      ∧ GainsReasons ((s.lists.get n).map (retargetCtx order x merged p)) ((retargetLane order x merged p n s).lists.get n) := by
  let u := s.onList n (List.map (retargetCtx order x merged p))
  have lane : OnlyLane n s u := onList_onlyLane n _ s
  have lists : u.lists.get n = (s.lists.get n).map (retargetCtx order x merged p) := Lanes.get_set_same _ _ _
  rw [retargetLane_eq, ← lists]
  by_cases current : ∃ q, p.bind LanePart.ends = some q ∧ (s.reg.get n).current = some q
  · obtain ⟨lane', ⟨y, reg⟩, gains⟩ := setEnd_lane n x u
    rw [if_pos current]
    refine ⟨lane.trans lane', ?_, gains⟩
    rw [reg]
    exact ⟨rfl, rfl, fun _ _ _ => rfl⟩
  · rw [if_neg current]
    exact ⟨lane, ⟨rfl, rfl, fun q ends now => absurd ⟨q, ends, now⟩ current⟩, .refl _⟩

/-- Every lane after an entry's retargeting (R83, R105). -/
theorem retarget_lane (order : Nat) (x : Int) (merged : Bool) (parts : Lanes (Option LanePart)) (s : State) (n : Lane) :
    Retargeted x (parts.get n) (s.reg.get n) ((retarget order x merged parts s).reg.get n)
      ∧ GainsReasons ((s.lists.get n).map (retargetCtx order x merged (parts.get n)))
          ((retarget order x merged parts s).lists.get n) := by
  obtain ⟨u, lists, reg, listsT, regT⟩ := forLanes_at (g := fun n => retargetLane order x merged (parts.get n) n)
    (fun m u => (retargetLane_lane order x merged (parts.get m) m u).1) n s
  obtain ⟨-, reg', gains⟩ := retargetLane_lane order x merged (parts.get n) n u
  unfold retarget
  rw [listsT, regT, ← lists, ← reg]
  exact ⟨reg', gains⟩

/-- A context of the lane afterwards. -/
theorem retarget_ctx (order : Nat) (x : Int) (merged : Bool) (parts : Lanes (Option LanePart)) {s : State} {n : Lane} {q : Source}
    {c : Ctx} (found : s.ctx? n q = some c) : ∃ d, (retarget order x merged parts s).ctx? n q = some d
      ∧ OnlyReasons (retargetCtx order x merged (parts.get n) c) d := by
  obtain ⟨-, f, lists, only⟩ := retarget_lane order x merged parts s n
  refine ⟨f (retargetCtx order x merged (parts.get n) c), ?_, only _⟩
  rw [ctx?_eq] at found ⊢
  rw [lists, find_src_map (fun c => (only c).fields.1), find_src_map (retargetCtx_src order x merged _), found]
  rfl

/-! ## The place in the queue (R102, R106) -/

theorem insertEntry_split (e : Entry) (l : List Entry) :
    ∃ before after, l = before ++ after ∧ insertEntry e l = before ++ e :: after := by
  induction l with
  | nil => exact ⟨[], [], rfl, rfl⟩
  | cons a r ih =>
    obtain ⟨before, after, rfl, inserted⟩ := ih
    unfold insertEntry
    split
    · exact ⟨[], a :: (before ++ after), rfl, rfl⟩
    · exact ⟨a :: before, after, rfl, by rw [inserted]; rfl⟩

theorem raisedCoord_same {x : Int} {l : List Entry} (above : ∀ a ∈ l, a.status ≠ .provisional → a.coord < x) : raisedCoord x l = x := by
  unfold raisedCoord
  cases last : lastFixed l with
  | none => rfl
  | some y =>
    obtain ⟨a, mem, fixed, rfl⟩ := exists_of_lastFixed last
    exact if_neg (not_le.mpr (above a mem fixed))

theorem raisedCoord_raised {x : Int} {l : List Entry} (ordered : QueueOrdered l)
    (below : ∃ a ∈ l, a.status ≠ .provisional ∧ x ≤ a.coord) : ∃ a ∈ l, a.status ≠ .provisional ∧ raisedCoord x l = a.coord + 1 := by
  obtain ⟨a, mem, fixed, le⟩ := below
  obtain ⟨y, last, le'⟩ := le_lastFixed ordered mem fixed
  obtain ⟨b, mem', fixed', rfl⟩ := exists_of_lastFixed last
  refine ⟨b, mem', fixed', ?_⟩
  rw [raisedCoord, last]
  exact if_pos (le.trans le')

theorem mustRaise_of_ne {x : Int} {l : List Entry} (ne : raisedCoord x l ≠ x) : mustRaise x l = true := by
  unfold raisedCoord at ne
  unfold mustRaise
  cases last : lastFixed l with
  | none =>
    rw [last] at ne
    exact absurd rfl ne
  | some y =>
    rw [last] at ne
    refine decide_eq_true ?_
    by_contra above
    exact ne (if_neg above)

theorem placeEntry_eq (e : Entry) (s : State) :
    placeEntry e s = retarget e.order (raisedCoord e.coord s.cuts.entries) (mustRaise e.coord s.cuts.entries) e.parts
      (s.onCuts fun c => { c with entries := insertEntry { e with coord := raisedCoord e.coord s.cuts.entries } c.entries }) := rfl

/-- Settles O21: an entry's place, coordinate and panels. -/
theorem placedEntryStandsBehindFixed : Obligations.PlacedEntryStandsBehindFixed := by
  intro e s law prov own t ahead
  obtain ⟨-, ordered, -, -⟩ := law
  let l := s.cuts.entries
  let x := raisedCoord e.coord l
  have above (a : Entry) (mem : a ∈ l) (fixed : a.status ≠ .provisional) : a.coord < x := lt_raisedCoord ordered _ mem fixed
  obtain ⟨before, after, split_, inserted⟩ := insertEntry_split { e with coord := x } l
  have inOrder : QueueOrdered (before ++ { e with coord := x } :: after) := by
    rw [← inserted]
    exact queueOrdered_insertEntry ordered prov above own
  obtain ⟨-, tail, front⟩ := queueOrdered_append.mp inOrder
  obtain ⟨behind, -⟩ := queueOrdered_cons.mp tail
  have entries : t.cuts.entries = before ++ { e with coord := x } :: after := by
    rw [← inserted]
    simp only [t, placeEntry_eq, retarget_frame]
    rfl
  refine ⟨before, after, x, split_, entries, fun a mem => (front a mem _ List.mem_cons_self).1,
    fun a mem => ⟨(behind a mem).2.1 prov, (behind a mem).1⟩, above, raisedCoord_same, raisedCoord_raised ordered,
    fun n p q c part found => ?_⟩
  obtain ⟨d, found', only⟩ := retarget_ctx e.order x (mustRaise e.coord l) e.parts
    (s := s.onCuts fun c => { c with entries := insertEntry { e with coord := x } c.entries }) (n := n) (q := q) (c := c) found
  obtain ⟨-, -, startEntry, endEntry, startTarget, endTarget, -, notes⟩ := only.fields
  have src := ctx?_src found
  refine ⟨fun starts => ⟨d, found', ?_⟩, fun ends => ⟨d, found', ?_⟩⟩
  · obtain ⟨entry, target, note⟩ := retargetCtx_starts e.order x (mustRaise e.coord l) (p := e.parts.get n) (c := c)
      (by rw [part, src]; exact starts)
    exact ⟨startEntry.trans entry, startTarget.trans target, fun raised => by rw [notes]; exact note (mustRaise_of_ne raised)⟩
  · obtain ⟨entry, target, note⟩ := retargetCtx_ends e.order x (mustRaise e.coord l) (p := e.parts.get n) (c := c)
      (by rw [part, src]; exact ends)
    refine ⟨endEntry.trans entry, endTarget.trans target, fun raised => by rw [notes]; exact note (mustRaise_of_ne raised),
      fun current => ?_⟩
    obtain ⟨⟨-, -, lastEnd⟩, -⟩ := retarget_lane e.order x (mustRaise e.coord l) e.parts
      (s.onCuts fun c => { c with entries := insertEntry { e with coord := x } c.entries }) n
    exact lastEnd q (by rw [part]; exact ends) current

end Sys2Proof.Machine
end

section
/-! PROOFS. The lock condition judged (R107). -/
namespace Sys2Proof.Machine

/-- The entry is due to lock at a lock point (R107). -/
def lockIsDue (p : Int) (e : Entry) : Bool := e.status == .provisional && decide (e.coord ≤ p)

theorem lockIsDue_iff {p : Int} {e : Entry} : lockIsDue p e = true ↔ e.status = .provisional ∧ e.coord ≤ p := by
  simp [lockIsDue]

/-- The number of entries due to lock. -/
def State.dueLocks (s : State) : Nat := s.cuts.entries.countP (lockIsDue s.lockPoint)

theorem nextLock_eq (s : State) : s.nextLock = s.cuts.entries.find? (lockIsDue s.lockPoint) := rfl

theorem lockPoint_congr {s t : State} (web : t.web = s.web) (params : t.params = s.params) : t.lockPoint = s.lockPoint := by
  unfold State.lockPoint State.outPos State.par
  rw [web, params]

theorem lockEntry_lockPoint (x : Entry) (s : State) : (lockEntry x s).lockPoint = s.lockPoint :=
  lockPoint_congr (by simp) (by simp)

theorem takeOvers_cuts (x : Entry) (gone : List Entry) (s : State) :
    (gone.foldl (fun (s : State) (e : Entry) => takeOver x e s) s).cuts = s.cuts := by
  induction gone generalizing s with
  | nil => rfl
  | cons e gone ih =>
    rw [List.foldl_cons, ih]
    simp [takeOver]

/-- The parts of an entry with those of the entries merged into it (R108). -/
def mergedParts (x : Entry) (gone : List Entry) : Lanes (Option LanePart) :=
  gone.foldl (fun (p : Lanes (Option LanePart)) (e : Entry) => joinParts p e.parts) x.parts

/-- The queue after a lock (R108). -/
theorem lockEntry_cuts (x : Entry) (s : State) :
    let gone := mergedInto x (s.par .mergeWin) s.cuts.entries
    (lockEntry x s).cuts = { s.cuts with entries := (s.cuts.entries.filter fun e => !gone.contains e).map fun e =>
      if e.order = x.order then { x with parts := mergedParts x gone, status := .locked } else e } := by
  intro gone
  unfold lockEntry
  dsimp only
  have starve (parts : Lanes (Option LanePart)) (u : State) : (starvationCheck parts u).cuts = u.cuts := by simp
  have ends (parts : Lanes (Option LanePart)) (u : State) : (forLanes (endLockLane parts) u).cuts = u.cuts := by simp [forLanes]
  rw [starve, ends, takeOvers_cuts]
  rfl

theorem countP_lt_of_mem {α : Type} {p q : α → Bool} {l : List α} {x : α} (less : ∀ e, q e = true → p e = true) (mem : x ∈ l)
    (counted : p x = true) (dropped : q x = false) : l.countP q < l.countP p := by
  obtain ⟨before, after, rfl⟩ := List.append_of_mem mem
  have front := List.countP_mono_left (l := before) fun e _ => less e
  have back := List.countP_mono_left (l := after) fun e _ => less e
  rw [List.countP_append, List.countP_append, List.countP_cons_of_pos counted, List.countP_cons_of_neg (by simp [dropped])]
  omega

/-- A lock leaves fewer entries due (R107). -/
theorem lockEntry_dueLocks {x : Entry} {s : State} (next : s.nextLock = some x) : (lockEntry x s).dueLocks < s.dueLocks := by
  rw [nextLock_eq] at next
  have due := List.find?_some next
  have mem := List.mem_of_find?_eq_some next
  unfold State.dueLocks
  rw [lockEntry_lockPoint, lockEntry_cuts]
  dsimp only
  generalize mergedInto x (s.par .mergeWin) s.cuts.entries = gone
  rw [List.countP_map]
  refine lt_of_le_of_lt (List.Sublist.countP_le List.filter_sublist) (countP_lt_of_mem (fun e still => ?_) mem due ?_)
  · rw [Function.comp] at still
    split at still
    · simp [lockIsDue] at still
    · exact still
  · rw [Function.comp, if_pos rfl]
    simp [lockIsDue]

theorem lockDue_next {s : State} {x : Entry} (next : s.nextLock = some x) (k : Nat) : lockDue (k + 1) s = lockDue k (lockEntry x s) := by
  simp only [lockDue, next]

theorem lockDue_none {s : State} (none_ : s.nextLock = none) (k : Nat) : lockDue k s = s := by
  cases k with
  | zero => rfl
  | succ k => simp only [lockDue, none_]

theorem nextLock_none_iff (s : State) :
    s.nextLock = none ↔ ∀ e ∈ s.cuts.entries, e.status = .provisional → s.lockPoint < e.coord := by
  rw [nextLock_eq, List.find?_eq_none]
  simp [lockIsDue]

theorem dueLocks_pos {s : State} {x : Entry} (next : s.nextLock = some x) : 0 < s.dueLocks := by
  rw [nextLock_eq] at next
  exact List.countP_pos_iff.mpr ⟨x, List.mem_of_find?_eq_some next, List.find?_some next⟩

/-- Any two numbers of steps that suffice do the same (R107). -/
theorem lockDue_enough {k j : Nat} {s : State} (enough : s.dueLocks ≤ k) (enough' : s.dueLocks ≤ j) : lockDue k s = lockDue j s := by
  induction k generalizing j s with
  | zero =>
    cases next : s.nextLock with
    | none => rw [lockDue_none next, lockDue_none next]
    | some x => exact absurd (dueLocks_pos next) (by omega)
  | succ k ih =>
    cases next : s.nextLock with
    | none => rw [lockDue_none next, lockDue_none next]
    | some x =>
      have fewer := lockEntry_dueLocks next
      obtain ⟨j, rfl⟩ := Nat.exists_eq_add_one.mpr (lt_of_lt_of_le (dueLocks_pos next) enough')
      rw [lockDue_next next, lockDue_next next]
      exact ih (by omega) (by omega)

theorem dueLocks_le (s : State) : s.dueLocks ≤ s.cuts.entries.length := List.countP_le_length

/-- Enough steps leave no entry due, and the lock point where it was (R107). -/
theorem lockDue_settled {k : Nat} {s : State} (enough : s.dueLocks ≤ k) :
    (lockDue k s).nextLock = none ∧ (lockDue k s).lockPoint = s.lockPoint := by
  induction k generalizing s with
  | zero =>
    cases next : s.nextLock with
    | none => exact ⟨next, rfl⟩
    | some x => exact absurd (dueLocks_pos next) (by omega)
  | succ k ih =>
    cases next : s.nextLock with
    | none =>
      rw [lockDue_none next]
      exact ⟨next, rfl⟩
    | some x =>
      have fewer := lockEntry_dueLocks next
      rw [lockDue_next next]
      obtain ⟨none_, point⟩ := ih (s := lockEntry x s) (by omega)
      exact ⟨none_, point.trans (lockEntry_lockPoint x s)⟩

theorem judgeLocks_settled (s : State) : (judgeLocks s).nextLock = none ∧ (judgeLocks s).lockPoint = s.lockPoint :=
  lockDue_settled (dueLocks_le s)

theorem judgeLocks_none {s : State} (none_ : s.nextLock = none) : judgeLocks s = s := lockDue_none none_ _

/-- The entry due is locked, and then the next is looked for (R107). -/
theorem judgeLocks_next {s : State} {x : Entry} (next : s.nextLock = some x) : judgeLocks s = judgeLocks (lockEntry x s) := by
  have fewer := lockEntry_dueLocks next
  have bound := dueLocks_le s
  obtain ⟨k, length⟩ := Nat.exists_eq_add_one.mpr (show 0 < s.cuts.entries.length by have := dueLocks_pos next; omega)
  rw [judgeLocks, length, lockDue_next next]
  exact lockDue_enough (by omega) (dueLocks_le _)

/-- The head-most entry due is the next to lock (R107). -/
theorem nextLock_of_first {s : State} {ahead behind : List Entry} {x : Entry} (entries : s.cuts.entries = ahead ++ x :: behind)
    (prov : x.status = .provisional) (due : x.coord ≤ s.lockPoint)
    (waits : ∀ e ∈ ahead, e.status = .provisional → s.lockPoint < e.coord) : s.nextLock = some x := by
  rw [nextLock_eq, entries]
  refine List.find?_eq_some_iff_append.mpr ⟨lockIsDue_iff.mpr ⟨prov, due⟩, ahead, behind, rfl, fun e mem => ?_⟩
  rw [Bool.not_eq_true', ← Bool.not_eq_true, lockIsDue_iff]
  rintro ⟨prov', due'⟩
  have := waits e mem prov'
  omega

end Sys2Proof.Machine
end

section
/-! PROOFS. What a lock does to the panels (R36, R97, R108, R109). -/
namespace Sys2Proof.Machine

/-! ## The entries merged into a locked one (R108) -/

/-- The context d follows from c where an entry at a coordinate has taken panels over: what referred to it still does. -/
structure Follows (order : Nat) (x : Int) (c d : Ctx) : Prop where
  src : d.src = c.src
  state : d.state = c.state
  start : c.startEntry = some order ∧ c.startTarget = some x → d.startEntry = some order ∧ d.startTarget = some x
  finish : c.endEntry = some order ∧ c.endTarget = some x → d.endEntry = some order ∧ d.endTarget = some x
  merged : c.notes.merged = true → d.notes.merged = true

theorem Follows.refl (order : Nat) (x : Int) (c : Ctx) : Follows order x c c := ⟨rfl, rfl, id, id, id⟩

theorem Follows.trans {order : Nat} {x : Int} {a b c : Ctx} (first : Follows order x a b) (second : Follows order x b c) :
    Follows order x a c :=
  ⟨second.src.trans first.src, second.state.trans first.state, second.start ∘ first.start, second.finish ∘ first.finish,
    second.merged ∘ first.merged⟩

theorem OnlyReasons.follows {c d : Ctx} (only : OnlyReasons c d) (order : Nat) (x : Int) : Follows order x c d := by
  obtain ⟨src, state, startEntry, endEntry, startTarget, endTarget, -, notes⟩ := only.fields
  exact ⟨src, state, by rw [startEntry, startTarget]; exact id, by rw [endEntry, endTarget]; exact id, by rw [notes]; exact id⟩

theorem takeStart_follows (order : Nat) (x : Int) (merged : Bool) (c : Ctx) : Follows order x c (takeStart order x merged c) := by
  rw [takeStart, noteMerged_eq]
  exact ⟨rfl, rfl, fun _ => ⟨rfl, rfl⟩, id, fun h => by simp [h]⟩

theorem takeFinish_follows (order : Nat) (x : Int) (merged : Bool) (c : Ctx) : Follows order x c (takeFinish order x merged c) := by
  rw [takeFinish, noteMerged_eq]
  exact ⟨rfl, rfl, id, fun _ => ⟨rfl, rfl⟩, fun h => by simp [h]⟩

theorem retargetCtx_follows (order : Nat) (x : Int) (merged : Bool) (p : Option LanePart) (c : Ctx) :
    Follows order x c (retargetCtx order x merged p c) := by
  have started : Follows order x c (if p.bind LanePart.starts = some c.src then takeStart order x merged c else c) := by
    split
    · exact takeStart_follows order x merged c
    · exact .refl order x c
  by_cases ends : p.bind LanePart.ends = some c.src
  · rw [show retargetCtx order x merged p c = takeFinish order x merged _ from if_pos ends]
    exact started.trans (takeFinish_follows order x merged _)
  · rw [show retargetCtx order x merged p c = _ from if_neg ends]
    exact started

/-- A context of a lane after an entry was taken over. -/
theorem takeOver_ctx (x e : Entry) {s : State} {n : Lane} {q : Source} {c : Ctx} (found : s.ctx? n q = some c) :
    ∃ d, (takeOver x e s).ctx? n q = some d ∧ Follows x.order x.coord c d
      ∧ ∀ p, e.parts.get n = some p →
          (p.starts = some q → d.startEntry = some x.order ∧ d.startTarget = some x.coord
            ∧ (e.coord ≠ x.coord → d.notes.merged = true))
          ∧ (p.ends = some q → d.endEntry = some x.order ∧ d.endTarget = some x.coord
            ∧ (e.coord ≠ x.coord → d.notes.merged = true)) := by
  obtain ⟨d, found', only⟩ := retarget_ctx x.order x.coord (e.coord != x.coord) e.parts found
  obtain ⟨-, -, startEntry, endEntry, startTarget, endTarget, -, notes⟩ := only.fields
  have src := ctx?_src found
  refine ⟨d, found', (retargetCtx_follows _ _ _ _ c).trans (only.follows _ _), fun p part => ⟨fun starts => ?_, fun ends => ?_⟩⟩
  · obtain ⟨entry, target, note⟩ := retargetCtx_starts x.order x.coord (e.coord != x.coord) (p := e.parts.get n) (c := c)
      (by rw [part, src]; exact starts)
    exact ⟨startEntry.trans entry, startTarget.trans target, fun ne => by rw [notes]; exact note (bne_iff_ne.mpr ne)⟩
  · obtain ⟨entry, target, note⟩ := retargetCtx_ends x.order x.coord (e.coord != x.coord) (p := e.parts.get n) (c := c)
      (by rw [part, src]; exact ends)
    exact ⟨endEntry.trans entry, endTarget.trans target, fun ne => by rw [notes]; exact note (bne_iff_ne.mpr ne)⟩

/-- The state once every merged entry was taken over (R108). -/
def takeOvers (x : Entry) (gone : List Entry) (s : State) : State := gone.foldl (fun (s : State) (e : Entry) => takeOver x e s) s

theorem takeOvers_ctx (x : Entry) (gone : List Entry) {s : State} {n : Lane} {q : Source} {c : Ctx} (found : s.ctx? n q = some c) :
    ∃ d, (takeOvers x gone s).ctx? n q = some d ∧ Follows x.order x.coord c d
      ∧ ∀ e ∈ gone, ∀ p, e.parts.get n = some p →
          (p.starts = some q → d.startEntry = some x.order ∧ d.startTarget = some x.coord
            ∧ (e.coord ≠ x.coord → d.notes.merged = true))
          ∧ (p.ends = some q → d.endEntry = some x.order ∧ d.endTarget = some x.coord
            ∧ (e.coord ≠ x.coord → d.notes.merged = true)) := by
  induction gone generalizing s c with
  | nil => exact ⟨c, found, .refl _ _ c, fun e mem => absurd mem List.not_mem_nil⟩
  | cons a gone ih =>
    obtain ⟨b, found', follows, taken⟩ := takeOver_ctx x a found
    obtain ⟨d, found'', follows', taken'⟩ := ih found'
    refine ⟨d, found'', follows.trans follows', fun e mem p part => ?_⟩
    rcases List.mem_cons.mp mem with rfl | mem
    · obtain ⟨starts, ends⟩ := taken p part
      refine ⟨fun h => ?_, fun h => ?_⟩
      · obtain ⟨entry, target, note⟩ := starts h
        obtain ⟨entry', target'⟩ := follows'.start ⟨entry, target⟩
        exact ⟨entry', target', follows'.merged ∘ note⟩
      · obtain ⟨entry, target, note⟩ := ends h
        obtain ⟨entry', target'⟩ := follows'.finish ⟨entry, target⟩
        exact ⟨entry', target', follows'.merged ∘ note⟩
    · exact taken' e mem p part

/-- What taking entries over leaves: F, the zones and what the Reader and the lane lists show of the plan. -/
theorem takeOvers_frame (x : Entry) (gone : List Entry) (s : State) (n : Lane) :
    ((takeOvers x gone s).reg.get n).f = (s.reg.get n).f ∧ (takeOvers x gone s).zones = s.zones
      ∧ (takeOvers x gone s).reader = s.reader ∧ (takeOvers x gone s).motion = s.motion
      ∧ ∃ f : Ctx → Ctx, (takeOvers x gone s).lists.get n = (s.lists.get n).map f ∧ ∀ c, (f c).state = c.state := by
  induction gone generalizing s with
  | nil => exact ⟨rfl, rfl, rfl, rfl, id, (List.map_id _).symm, fun c => rfl⟩
  | cons a gone ih =>
    obtain ⟨f, zones, reader, motion, g, lists, states⟩ := ih (takeOver x a s)
    obtain ⟨⟨-, f', -⟩, h, lists', only⟩ := retarget_lane x.order x.coord (a.coord != x.coord) a.parts s n
    refine ⟨f.trans f', zones.trans (by simp [takeOver]), reader.trans (by simp [takeOver]), motion.trans (by simp [takeOver]),
      g ∘ h ∘ retargetCtx x.order x.coord (a.coord != x.coord) (a.parts.get n), ?_, fun c => ?_⟩
    · rw [show (takeOvers x (a :: gone) s).lists.get n = _ from lists,
        show (takeOver x a s).lists.get n = _ from lists', List.map_map, List.map_map,
        Function.comp_assoc]
    · exact ((states _).trans (only _).fields.2.1).trans (retargetCtx_follows _ _ _ _ c).state

/-! ## The checks of a lock (R36, R97, R109) -/

/-- What the end lock makes of a context of its lane (R109). -/
def endLockCtx (zones : List Zone) (f : Int) (p : Option LanePart) (c : Ctx) : Ctx :=
  if p.bind LanePart.ends = some c.src then zonesOnCtx zones { c with fEndLock := some f } else c

theorem endLockLane_eq (parts : Lanes (Option LanePart)) (n : Lane) (s : State) :
    endLockLane parts n s = s.onList n (List.map (endLockCtx s.zones (s.reg.get n).f (parts.get n))) := by
  unfold endLockLane
  cases ends : (parts.get n).bind LanePart.ends with
  | none => exact (onCtx_none fun c => by simp [endLockCtx, ends]).symm
  | some q =>
    refine congrArg (fun h => s.onList n (List.map h)) (funext fun c => ?_)
    simp only [endLockCtx, ends, Option.some.injEq, beq_iff_eq, @eq_comm _ q]

theorem endLockLanes_lists (parts : Lanes (Option LanePart)) (s : State) (n : Lane) :
    (forLanes (endLockLane parts) s).lists.get n
      = (s.lists.get n).map (endLockCtx s.zones (s.reg.get n).f (parts.get n)) := by
  obtain ⟨u, zones, lists, reg, listsT, -⟩ := forLanes_at_of (g := endLockLane parts) (fun u => u.zones = s.zones)
    (fun m u same => by rw [← same]; simp) (fun m u => by rw [endLockLane_eq]; exact onList_onlyLane m _ u) n (s := s) rfl
  rw [listsT, endLockLane_eq, zones, reg, ← lists]
  exact Lanes.get_set_same _ _ _

/-- A reason added by zones stays, and the rest of the context stands. -/
theorem zoneOnCtx_only (z : Zone) (c : Ctx) : OnlyReasons c (zoneOnCtx z c) := by
  unfold zoneOnCtx
  split
  · split
    · refine ⟨rfl, ?_, ?_, ?_, ?_, ?_, ?_⟩ <;> cases z.cause <;> simp [addZoneReason]
    · exact .refl c
  · exact .refl c

theorem zonesOnCtx_only (zs : List Zone) (c : Ctx) : OnlyReasons c (zonesOnCtx zs c) := by
  induction zs generalizing c with
  | nil => exact .refl c
  | cons z zs ih => exact (zoneOnCtx_only z c).trans (ih _)

/-- The reason a zone's cause gives (R93). -/
def HasCause (cause : ZoneCause) (r : Reasons) : Prop := match cause with
  | .splice => r.splice = true
  | .dwell => r.dwell = true
  | .operator => r.operator = true

theorem OnlyReasons.hasCause {c d : Ctx} (only : OnlyReasons c d) {cause : ZoneCause} (has : HasCause cause c.reasons) :
    HasCause cause d.reasons := by
  obtain ⟨-, -, -, splice, dwell, operator, -⟩ := only
  cases cause with
  | splice => exact splice has
  | dwell => exact dwell has
  | operator => exact operator has

/-- Every zone the span overlaps has given its reason (R97). -/
theorem zonesOnCtx_reason {zs : List Zone} {c : Ctx} {a b : Int} (start : c.startTarget = some a) (finish : c.endTarget = some b)
    {z : Zone} (mem : z ∈ zs) (before : a < z.hi) (behind : z.lo < b) : HasCause z.cause (zonesOnCtx zs c).reasons := by
  induction zs generalizing c with
  | nil => exact absurd mem List.not_mem_nil
  | cons y zs ih =>
    obtain ⟨-, -, -, -, start', finish', -⟩ := (zoneOnCtx_only y c).fields
    rcases List.mem_cons.mp mem with rfl | mem
    · have given : HasCause z.cause (zoneOnCtx z c).reasons := by
        rw [zoneOnCtx_of_targets start finish, if_pos ⟨before, behind⟩]
        cases z.cause <;> rfl
      exact (zonesOnCtx_only zs _).hasCause given
    · exact ih (start'.trans start) (finish'.trans finish) mem

theorem endLockCtx_follows (zones : List Zone) (f : Int) (p : Option LanePart) (order : Nat) (x : Int) (c : Ctx) :
    Follows order x c (endLockCtx zones f p c) := by
  unfold endLockCtx
  split
  · exact Follows.trans (b := { c with fEndLock := some f }) ⟨rfl, rfl, id, id, id⟩ ((zonesOnCtx_only zones _).follows order x)
  · exact .refl order x c

theorem any_laneStarved_iff (parts : Lanes (Option LanePart)) (s : State) : laneList.any (s.laneStarved parts) = true ↔
    ∃ n p, parts.get n = some p ∧ p.ends ≠ none ∧ ∀ c ∈ s.lists.get n, c.state ≠ .expected := by
  rw [List.any_eq_true]
  constructor
  · rintro ⟨n, -, starved⟩
    simp only [State.laneStarved, Bool.and_eq_true, headExpected_isNone] at starved
    obtain ⟨ends, none_⟩ := starved
    obtain ⟨q, ends⟩ := Option.isSome_iff_exists.mp ends
    obtain ⟨p, part, ends⟩ := Option.bind_eq_some_iff.mp ends
    exact ⟨n, p, part, by rw [ends]; simp, none_⟩
  · rintro ⟨n, p, part, ends, none_⟩
    refine ⟨n, by cases n <;> decide, ?_⟩
    simp only [State.laneStarved, Bool.and_eq_true, headExpected_isNone]
    exact ⟨by rw [part]; exact Option.isSome_iff_ne_none.mpr ends, none_⟩

end Sys2Proof.Machine
end

section
/-! PROOFS. The locks judged, and a lock with its merge and checks (R36, R107, R108, R109). -/
namespace Sys2Proof.Machine

/-- A lock, part by part (R107, R108, R109). -/
theorem lockEntry_parts (x : Entry) (s : State) :
    let gone := mergedInto x (s.par .mergeWin) s.cuts.entries
    let parts := mergedParts x gone
    ∃ c, lockEntry x s = starvationCheck parts (forLanes (endLockLane parts) (takeOvers x gone { s with cuts := c })) := by
  intro gone parts
  exact ⟨_, rfl⟩

theorem mem_mergedInto {x e : Entry} {win : Int} {l : List Entry} : e ∈ mergedInto x win l ↔
    e ∈ l ∧ e.order ≠ x.order ∧ e.status = .provisional ∧ e.coord ≤ x.coord + win := by
  simp [mergedInto, and_assoc]

/-- The panels a lock leaves: those an entry merged into it had, and those it ends (R108, R109). -/
theorem lockEntry_ctx (x : Entry) {s : State} {n : Lane} {q : Source} {c : Ctx} (found : s.ctx? n q = some c) :
    let gone := mergedInto x (s.par .mergeWin) s.cuts.entries
    ∃ d, (lockEntry x s).ctx? n q = some d
      ∧ (∀ e ∈ gone, ∀ p, e.parts.get n = some p →
          (p.starts = some q → d.startEntry = some x.order ∧ d.startTarget = some x.coord
            ∧ (e.coord ≠ x.coord → d.notes.merged = true))
          ∧ (p.ends = some q → d.endEntry = some x.order ∧ d.endTarget = some x.coord
            ∧ (e.coord ≠ x.coord → d.notes.merged = true)))
      ∧ (((mergedParts x gone).get n).bind LanePart.ends = some q → d.fEndLock = some (s.reg.get n).f
          ∧ ∀ a b, d.startTarget = some a → d.endTarget = some b → ∀ z ∈ s.zones, a < z.hi → z.lo < b →
              HasCause z.cause d.reasons) := by
  intro gone
  obtain ⟨cuts, locked⟩ := lockEntry_parts x s
  let u := takeOvers x gone { s with cuts := cuts }
  obtain ⟨f, zones, -, -, -⟩ := takeOvers_frame x gone { s with cuts := cuts } n
  obtain ⟨d, found', follows, taken⟩ := takeOvers_ctx x gone (s := { s with cuts := cuts }) (n := n) (q := q) (c := c) found
  have src := ctx?_src found'
  let part := (mergedParts x gone).get n
  have keeps := endLockCtx_follows u.zones (u.reg.get n).f part x.order x.coord
  have here : (lockEntry x s).ctx? n q = some (endLockCtx u.zones (u.reg.get n).f part d) := by
    rw [ctx?_of_lists (s := forLanes (endLockLane (mergedParts x gone)) u) (by rw [locked]; simp [u, gone]), ctx?_eq,
      endLockLanes_lists, find_src_map (fun c => (keeps c).src), ← ctx?_eq, found']
    rfl
  refine ⟨_, here, fun e mem p has => ?_, fun ends => ?_⟩
  · obtain ⟨starts, ends⟩ := taken e mem p has
    refine ⟨fun h => ?_, fun h => ?_⟩
    · obtain ⟨entry, target, note⟩ := starts h
      obtain ⟨entry', target'⟩ := (keeps d).start ⟨entry, target⟩
      exact ⟨entry', target', (keeps d).merged ∘ note⟩
    · obtain ⟨entry, target, note⟩ := ends h
      obtain ⟨entry', target'⟩ := (keeps d).finish ⟨entry, target⟩
      exact ⟨entry', target', (keeps d).merged ∘ note⟩
  · have same : endLockCtx u.zones (u.reg.get n).f part d = zonesOnCtx s.zones { d with fEndLock := some (s.reg.get n).f } := by
      rw [endLockCtx, if_pos (by rw [src]; exact ends), zones, f]
    obtain ⟨-, -, -, -, start', finish', fEnd, -⟩ :=
      (zonesOnCtx_only s.zones { d with fEndLock := some (s.reg.get n).f }).fields
    rw [same]
    refine ⟨fEnd, fun a b start finish z mem before behind => ?_⟩
    exact zonesOnCtx_reason (start'.symm.trans start) (finish'.symm.trans finish) mem before behind

/-- The starvation a lock finds (R36). -/
theorem lockEntry_motion (x : Entry) (s : State) :
    let parts := mergedParts x (mergedInto x (s.par .mergeWin) s.cuts.entries)
    let starved := s.reader = .waiting ∧ ∃ n p, parts.get n = some p ∧ p.ends ≠ none ∧ ∀ c ∈ s.lists.get n, c.state ≠ .expected
    ∃ u : State, u.motion = s.motion ∧ (starved → (lockEntry x s).motion = (raiseHold .planStarved u).motion)
      ∧ (¬starved → (lockEntry x s).motion = s.motion) := by
  intro parts starved
  obtain ⟨cuts, locked⟩ := lockEntry_parts x s
  let gone := mergedInto x (s.par .mergeWin) s.cuts.entries
  let v := takeOvers x gone { s with cuts := cuts }
  let u := forLanes (endLockLane parts) v
  obtain ⟨-, -, reader, motion, -⟩ := takeOvers_frame x gone { s with cuts := cuts } .lane0
  have readerU : u.reader = s.reader := by
    have same : u.reader = v.reader := by simp [u, forLanes]
    exact same.trans reader
  have motionU : u.motion = s.motion := by
    have same : u.motion = v.motion := by simp [u, forLanes]
    exact same.trans motion
  have expected (n : Lane) : (∀ c ∈ u.lists.get n, c.state ≠ .expected) ↔ ∀ c ∈ s.lists.get n, c.state ≠ .expected := by
    obtain ⟨-, -, -, -, g, lists, states⟩ := takeOvers_frame x gone { s with cuts := cuts } n
    rw [show u.lists.get n = _ from endLockLanes_lists parts v n, show v.lists.get n = _ from lists, List.map_map,
      List.forall_mem_map]
    refine forall₂_congr fun c _ => ?_
    rw [Function.comp, (endLockCtx_follows _ _ _ x.order x.coord _).state, states]
  have found := any_laneStarved_iff parts u
  simp only [expected] at found
  have checked : lockEntry x s = starvationCheck parts u := locked
  refine ⟨u, motionU, fun starves => ?_, fun feeds => ?_⟩
  · rw [checked, starvationCheck, if_pos ⟨readerU.trans starves.1, found.mpr starves.2⟩]
  · rw [checked, starvationCheck, if_neg fun h => feeds ⟨readerU.symm.trans h.1, found.mp h.2⟩, motionU]

/-- Settles O20: the locks judged in turn, and one lock with its merge, checks and starvation. -/
theorem entriesLockAndMerge : Obligations.EntriesLockAndMerge := by
  refine ⟨fun s => ?_, fun x s law mem prov => ?_⟩
  · obtain ⟨none_, point⟩ := judgeLocks_settled s
    refine ⟨point, ?_, fun quiet => judgeLocks_none ((nextLock_none_iff s).mpr quiet), fun ahead behind x entries prov due waits => ?_⟩
    · rw [← point]
      exact (nextLock_none_iff _).mp none_
    · exact judgeLocks_next (nextLock_of_first entries prov due waits)
  · intro t join goes gone parts starved
    have joined (a b : Option LanePart) : join a b = joinPart a b := by
      cases a <;> cases b <;> rfl
    have gone_ : mergedInto x (s.par .mergeWin) s.cuts.entries = gone := by
      refine List.filter_congr fun e _ => ?_
      rw [Bool.eq_iff_iff]
      simp [goes, and_assoc]
    have parts_ : mergedParts x gone = parts := by
      simp only [mergedParts, joinParts, parts, joined]
    have part (n : Lane) (p : LanePart) (has : parts.get n = some p) : ((mergedParts x gone).get n).bind LanePart.ends = p.ends := by
      rw [parts_, has]
      rfl
    have ctx {n q c} (found : s.ctx? n q = some c) := lockEntry_ctx x found
    rw [gone_] at ctx
    have cuts := lockEntry_cuts x s
    obtain ⟨u, motionU, starves_, feeds_⟩ := lockEntry_motion x s
    simp only [gone_, parts_] at cuts starves_ feeds_
    refine ⟨?_, fun e mem n p q c has found => ?_, fun n p q c has ends found => ?_, fun starves active => ?_, fun feeds => ?_⟩
    · rw [show t.cuts = _ from cuts]
      have same : (s.cuts.entries.filter fun e => !gone.contains e) = s.cuts.entries.filter fun e => !goes e := by
        refine List.filter_congr fun e mem => ?_
        rw [Bool.eq_iff_iff]
        simp [gone, mem]
      rw [same]
    · obtain ⟨d, found', taken, -⟩ := ctx found
      obtain ⟨starts, ends⟩ := taken e mem p has
      exact ⟨fun h => ⟨d, found', starts h⟩, fun h => ⟨d, found', ends h⟩⟩
    · obtain ⟨d, found', -, ended⟩ := ctx found
      obtain ⟨fEnd, reasons⟩ := ended ((part n p has).trans ends)
      refine ⟨d, found', fEnd, fun a b start finish z zMem before behind => ?_⟩
      have given := reasons a b start finish z zMem before behind
      cases cause : z.cause <;> rw [cause] at given <;> exact given
    · rw [show t.motion = _ from starves_ starves]
      have has := raiseHold_has .planStarved (s := u) (by rw [motionU]; exact active)
      exact ⟨has, fun run => raiseHold_of_running .planStarved (by rw [motionU]; exact run)⟩
    · by_cases starves : starved
      · have idle : u.motion.line = .idle := by
          rw [motionU]
          exact feeds.resolve_left (not_not_intro starves)
        rw [show t.motion = _ from starves_ starves, ← motionU]
        simp only [raiseHold, idle]
      · exact feeds_ starves

end Sys2Proof.Machine
end

section
/-! PROOFS. The START and END reports (R64, R101, R103, R104). -/
namespace Sys2Proof.Machine

/-! ## Entries created, moved and joined -/

/-- The lane parts of an entry with one part. -/
theorem onePart_eq (n : Lane) (p : LanePart) : onePart n p = (⟨none, none, none, none⟩ : Lanes (Option LanePart)).set n (some p) := rfl

theorem createEntry_eq (n : Lane) (p : LanePart) (x : Int) (s : State) :
    createEntry n p x s = judgeLocks (placeEntry
      ⟨x, (⟨none, none, none, none⟩ : Lanes (Option LanePart)).set n (some p), .provisional, 0, s.cuts.nextOrder⟩
      { s with cuts := { s.cuts with nextOrder := s.cuts.nextOrder + 1 } }) := rfl

theorem moveEntry_eq (e : Entry) (x : Int) (f : Lanes (Option LanePart) → Lanes (Option LanePart)) (s : State) :
    moveEntry e x f s = judgeLocks (placeEntry { e with coord := x, parts := f e.parts }
      { s with cuts := { s.cuts with entries := s.cuts.entries.filter fun a => a.order != e.order } }) := rfl

theorem joinFixed_eq (n : Lane) (q : Source) (e : Entry) (s : State) : joinFixed n q e s = { s with
    cuts := { s.cuts with entries := s.cuts.entries.map fun a =>
      if a.order = e.order then { a with parts := gainStart n q a.parts } else a }
    lists := s.lists.set n ((s.lists.get n).map fun c =>
      if c.src = q then { c with startEntry := some e.order, startTarget := some e.coord } else c) } := by
  rw [joinFixed, onCtx_eq]
  rfl

/-! ## The START report (R103) -/

theorem startReport_creates {n : Lane} {p : Ctx} {m : Int} {first : Bool} {s : State}
    (alone : 0 < p.lead ∨ first = true ∨ s.sharedEntry n p.src = none) :
    startReport n p m first s = createEntry n ⟨none, some p.src⟩ (m + s.par .startOffset) s := by
  have none_ : (if p.lead > 0 ∨ first = true then none else s.sharedEntry n p.src) = none := by
    rcases alone with lead | first | none_
    · exact if_pos (.inl lead)
    · exact if_pos (.inr first)
    · rw [none_]
      exact ite_self none
  simp only [startReport, none_]

theorem startReport_shares {n : Lane} {p : Ctx} {m : Int} {first : Bool} {e : Entry} {s : State} (lead : p.lead = 0)
    (later : first = false) (shared : s.sharedEntry n p.src = some e) :
    startReport n p m first s = if e.status = .provisional
      then moveEntry e (m + s.par .startOffset) (gainStart n p.src) s else joinFixed n p.src e s := by
  have some_ : (if p.lead > 0 ∨ first = true then none else s.sharedEntry n p.src) = some e := by
    rw [shared]
    exact if_neg (by rw [lead, later]; simp)
  simp only [startReport, some_]

theorem ctxAhead_found {q : Source} {before after : List Ctx} {a c : Ctx} (src : c.src = q)
    (other : ∀ d ∈ (before ++ [a]).drop 1, d.src ≠ q) : ctxAhead q (before ++ a :: c :: after) = some a := by
  induction before with
  | nil => exact if_pos src
  | cons b before ih =>
    cases before with
    | nil => exact (if_neg (other a (by simp))).trans (if_pos src)
    | cons d before =>
      exact (if_neg (other d (by simp))).trans (ih fun x mem => other x (by simp at mem ⊢; exact .inr mem))

theorem ctxAhead_none {q : Source} {l : List Ctx} (other : ∀ c ∈ l.drop 1, c.src ≠ q) : ctxAhead q l = none := by
  induction l with
  | nil => rfl
  | cons a r ih =>
    cases r with
    | nil => rfl
    | cons b r => exact (if_neg (other b (by simp))).trans (ih fun c mem => other c (List.mem_cons_of_mem _ mem))

/-! ## The END report (R104) -/

theorem panelActive_of {n : Lane} {q : Source} {c : Ctx} {s : State} (found : s.ctx? n q = some c) :
    s.panelActive n q = true ↔ c.state = .active := by
  simp [State.panelActive, found]

theorem placeEnd_without {n : Lane} {q : Source} {c : Ctx} {y : Int} {s : State} (found : s.ctx? n q = some c)
    (gone : ∀ o, c.endEntry = some o → s.cuts.entries.find? (fun e => e.order == o) = none) :
    placeEnd n q y s = if c.state = .active then createEntry n ⟨some q, none⟩ y s else s := by
  have none_ : ((s.ctx? n q).bind Ctx.endEntry).bind s.entry? = none := by
    rw [found, Option.bind_some]
    cases endEntry : c.endEntry with
    | none => rfl
    | some o => exact gone o endEntry
  unfold placeEnd
  rw [none_]
  exact if_congr (panelActive_of found) rfl rfl

theorem placeEnd_with {n : Lane} {q : Source} {c : Ctx} {y : Int} {o : Nat} {e : Entry} {s : State} (found : s.ctx? n q = some c)
    (endEntry : c.endEntry = some o) (entry : s.cuts.entries.find? (fun e => e.order == o) = some e) :
    placeEnd n q y s = if e.status = .provisional then moveEntry e y id s else s := by
  have some_ : ((s.ctx? n q).bind Ctx.endEntry).bind s.entry? = some e := by
    rw [found, Option.bind_some, endEntry]
    exact entry
  unfold placeEnd
  rw [some_]

/-! ## E (R64) -/

theorem reformStart_start {n : Lane} {s : State} {x : StartExpect} {e : Int} {p : Ctx} (start : (s.reg.get n).start = some x)
    (end_ : (s.reg.get n).lastEnd = some e) (found : s.ctx? n x.panel = some p) :
    ((reformStart n s).reg.get n).start = some ⟨x.panel, predict e p.lead (s.reg.get n).f⟩ := by
  simp only [reformStart, start, end_, found]
  split
  · rw [(armStart_lane _ _ _ _).2.1]
    simp only [State.onReg, Lanes.get_set_same, startAt]
  · simp only [State.onReg, Lanes.get_set_same, startAt]

/-! ## The number of entries (R101) -/

theorem lockDue_length (k : Nat) (s : State) : (lockDue k s).cuts.entries.length ≤ s.cuts.entries.length := by
  induction k generalizing s with
  | zero => exact le_rfl
  | succ k ih =>
    cases next : s.nextLock with
    | none =>
      rw [lockDue_none next]
    | some x =>
      rw [lockDue_next next]
      refine (ih _).trans ?_
      rw [lockEntry_cuts]
      simp only [List.length_map]
      exact List.length_filter_le _ _

theorem judgeLocks_length (s : State) : (judgeLocks s).cuts.entries.length ≤ s.cuts.entries.length := lockDue_length _ s

theorem placeEntry_length (e : Entry) (s : State) : (placeEntry e s).cuts.entries.length = s.cuts.entries.length + 1 := by
  rw [placeEntry_eq]
  simp only [retarget_frame]
  exact (insertEntry_perm _ _).length_eq

theorem createEntry_length (n : Lane) (p : LanePart) (x : Int) (s : State) :
    (createEntry n p x s).cuts.entries.length ≤ s.cuts.entries.length + 1 := by
  rw [createEntry_eq]
  refine (judgeLocks_length _).trans ?_
  rw [placeEntry_length]

theorem moveEntry_length (e : Entry) (x : Int) (f : Lanes (Option LanePart) → Lanes (Option LanePart)) (s : State) :
    (moveEntry e x f s).cuts.entries.length ≤ s.cuts.entries.length + 1 := by
  rw [moveEntry_eq]
  refine (judgeLocks_length _).trans ?_
  rw [placeEntry_length]
  exact Nat.succ_le_succ (List.length_filter_le _ _)

theorem startReport_length (n : Lane) (p : Ctx) (m : Int) (first : Bool) (s : State) :
    (startReport n p m first s).cuts.entries.length ≤ s.cuts.entries.length + 1 := by
  unfold startReport
  dsimp only
  split
  · exact createEntry_length _ _ _ s
  · next e _ =>
    split
    · exact moveEntry_length _ _ _ s
    · rw [joinFixed_eq]
      simp

theorem placeEnd_length (n : Lane) (q : Source) (y : Int) (s : State) :
    (placeEnd n q y s).cuts.entries.length ≤ s.cuts.entries.length + 1 := by
  unfold placeEnd
  split
  · split
    · exact createEntry_length _ _ _ s
    · exact Nat.le_succ _
  · split
    · exact moveEntry_length _ _ _ s
    · exact Nat.le_succ _

theorem endReport_cuts (n : Lane) (q : Source) (y : Int) (s : State) : (endReport n q y s).cuts = (placeEnd n q y s).cuts := by
  rw [endReport_eq]
  split
  · simp
  · rfl

/-- Settles O19: what the reports make of the Cut Queue and of E. -/
theorem reportsPlaceEntries : Obligations.ReportsPlaceEntries := by
  refine ⟨fun n p m first s => ?_, fun n q s => ⟨fun before a c after list src other => ?_, fun other => ?_⟩,
    fun n q c y s found => ⟨placeEnd n q y s, rfl, fun gone => ?_, fun o e endEntry entry => ?_⟩, fun n e s => ⟨?_, fun x p start found => ?_⟩,
    fun n p m first s => ⟨startReport_length n p m first s, ?_⟩⟩
  · intro x gains
    refine ⟨fun alone => startReport_creates alone, fun e lead later shared => ⟨fun prov => ?_, fun fixed => ?_⟩⟩
    · rw [startReport_shares lead later shared, if_pos prov]
      rfl
    · rw [startReport_shares lead later shared, if_neg fixed, joinFixed_eq]
      rfl
  · rw [State.sharedEntry, list, ctxAhead_found src other, Option.bind_some]
    cases a.endEntry <;> rfl
  · rw [State.sharedEntry, ctxAhead_none other]
    rfl
  · rw [placeEnd_without found gone]
    exact ⟨fun active => if_pos active, fun still => if_neg still⟩
  · rw [placeEnd_with found endEntry entry]
    exact ⟨fun prov => if_pos prov, fun fixed => if_neg fixed⟩
  · obtain ⟨-, ⟨x, reg⟩, -⟩ := setEnd_lane n e s
    rw [reg]
  · let u := s.onReg n fun r => { r with lastEnd := some e }
    have reg : u.reg.get n = { s.reg.get n with lastEnd := some e } := Lanes.get_set_same _ _ _
    have formed := reformStart_start (n := n) (s := u) (x := x) (e := e) (p := p) (by rw [reg]; exact start) (by rw [reg]) found
    rw [reg] at formed
    exact formed
  · rw [endReport_cuts]
    exact placeEnd_length n p.src m s

end Sys2Proof.Machine
end

section
/-! PROOFS. The stretch sample, stray marks and misses (R71 to R75). -/
namespace Sys2Proof.Machine

/-! ## The stretch sample (R74, R75) -/

theorem takeSample_eq (n : Lane) (m measured nominal : Int) (s : State) :
    let raw := rawSample measured nominal
    let v := clampSample (s.par .stretchLimit) raw
    takeSample n m measured nominal s = { s with
      reg := s.reg.set n { s.reg.get n with f := filterF (s.reg.get n).f v (s.par .stretchWeight) }
      link := if v = raw then s.link else linkEvent s.link (.markNotice (.stretchLimit raw) n m) } := by
  intro raw v
  by_cases same : v = raw
  · simp only [takeSample, if_pos (show clampSample (s.par .stretchLimit) (rawSample measured nominal) = rawSample measured nominal
      from same), if_pos same]
    rfl
  · simp only [takeSample, if_neg (show ¬clampSample (s.par .stretchLimit) (rawSample measured nominal) = rawSample measured nominal
      from same), if_neg same]
    rfl

theorem filterF_zero (f v : Int) : filterF f v 0 = v := by
  have one : truncDiv (v - f) (2 ^ Int.toNat 0) = v - f := Int.tdiv_one _
  rw [filterF, one]
  omega

/-- Settles O14: a stretch sample folded into F. -/
theorem stretchSampleFoldsIntoF : Obligations.StretchSampleFoldsIntoF := by
  intro n m measured nominal s law lim raw v f t
  obtain ⟨ranges, within⟩ := law
  have positive : 0 ≤ lim := (show (0 : Int) ≤ paramLow .stretchLimit by decide).trans (low_le_par ranges .stretchLimit)
  obtain ⟨least, most⟩ : -lim ≤ v ∧ v ≤ lim := clampSample_bounds positive raw
  obtain ⟨least', most'⟩ := within n
  have taken : t = _ := takeSample_eq n m measured nominal s
  obtain ⟨up, down⟩ : ((s.reg.get n).f ≤ v → (s.reg.get n).f ≤ f ∧ f ≤ v) ∧ (v ≤ (s.reg.get n).f → v ≤ f ∧ f ≤ (s.reg.get n).f) :=
    filterF_between (s.reg.get n).f v (s.par .stretchWeight)
  have between : min (s.reg.get n).f v ≤ f ∧ f ≤ max (s.reg.get n).f v := by
    rcases le_total (s.reg.get n).f v with le | le
    · rw [min_eq_left le, max_eq_right le]
      exact up le
    · rw [min_eq_right le, max_eq_left le]
      exact down le
  refine ⟨by rw [taken]; rfl, between, ?_, fun weight => ?_, ?_, by rw [taken], by rw [taken], by rw [taken], by rw [taken]⟩
  · rw [abs_le]
    exact ⟨(le_min least' least).trans between.1, between.2.trans (max_le most' most)⟩
  · have zero : f = filterF (s.reg.get n).f v (s.par .stretchWeight) := rfl
    rw [zero, weight]
    exact filterF_zero _ _
  · rw [taken]
    rfl

/-! ## Stray marks (R71) -/

theorem strayMark_eq (n : Lane) (rec : MarkRecord) (s : State) :
    strayMark n rec s = { s with link := linkEvent s.link (.markNotice (.stray rec.kind) n rec.m) } := rfl

theorem placeMark_seeking {n : Lane} {rec : MarkRecord} {s : State} (seeking : (s.reg.get n).state = .seeking) :
    placeMark n rec s = placeSeeking n rec s := by
  simp only [placeMark, seeking]

theorem placeMark_following {n : Lane} {rec : MarkRecord} {s : State} (follows : following (s.reg.get n).state = true) :
    placeMark n rec s = placeFollowing n rec s := by
  rcases (following_iff _).mp follows with state | state | state <;> simp only [placeMark, state]

/-- A record that no START of a SEEKING lane takes (R70, R71). -/
theorem placeSeeking_stray {n : Lane} {rec : MarkRecord} {s : State} (none_ : rec.kind ≠ .start ∨ s.headExpected n = none) :
    placeSeeking n rec s = strayMark n rec s := by
  unfold placeSeeking
  split
  · next p head => exact if_neg fun h => none_.elim (fun kind => kind h.1) fun none_ => by rw [none_] at head; contradiction
  · rfl

/-- A record that fits no open window of a lane that follows marks (R67, R71). -/
theorem placeFollowing_stray {n : Lane} {rec : MarkRecord} {s : State} (start : s.startEligible n rec = false)
    (pitch : s.pitchEligible n rec = false ∨ ∀ q, (s.reg.get n).current = some q → s.ctx? n q = none) :
    placeFollowing n rec s = strayMark n rec s := by
  have into : s.intoStart n rec = false := by
    unfold State.intoStart
    rw [start]
    rfl
  unfold placeFollowing
  rw [into, if_neg Bool.false_ne_true]
  rcases pitch with closed | gone
  · rw [closed, if_neg Bool.false_ne_true]
  · split
    · split
      · next e p _ current =>
        obtain ⟨q, current, found⟩ := Option.bind_eq_some_iff.mp current
        rw [gone q current] at found
        contradiction
      · rfl
    · rfl

/-! ## Misses (R72, R73) -/

/-- The miss count raised, at most to 7. -/
theorem missCount_eq {k : Nat} (bounded : k ≤ 7) : (if k < 7 then k + 1 else 7) = min (k + 1) 7 := by
  split <;> omega

theorem countMiss_following {n : Lane} {x : Int} {s : State} (bounded : (s.reg.get n).miss ≤ 7)
    (follows : (s.reg.get n).state = .tracking ∨ (s.reg.get n).state = .coasting) :
    countMiss n x s = if ((min ((s.reg.get n).miss + 1) 7 : Nat) : Int) < s.par .missLimit
      then s.onReg n fun r => { r with miss := min ((s.reg.get n).miss + 1) 7, state := .coasting }
      else unregister n (queueEvent (.markNotice .lost n x)
        (s.onReg n fun r => { r with miss := min ((s.reg.get n).miss + 1) 7, state := .lost })) := by
  rcases follows with state | state <;> simp only [countMiss, state, missCount_eq bounded]

theorem countMiss_other {n : Lane} {x : Int} {s : State} (bounded : (s.reg.get n).miss ≤ 7)
    (other : ¬((s.reg.get n).state = .tracking ∨ (s.reg.get n).state = .coasting)) :
    countMiss n x s = s.onReg n fun r => { r with miss := min ((s.reg.get n).miss + 1) 7 } := by
  unfold countMiss
  dsimp only
  rw [missCount_eq bounded]
  split
  · next state => exact absurd (.inl state) other
  · next state => exact absurd (.inr state) other
  all_goals rfl

/-- Settles O15: stray marks and misses. -/
theorem strayAndMissedMarks : Obligations.StrayAndMissedMarks := by
  refine ⟨fun n rec s stray => ?_, fun n x s follows bounded => ?_⟩
  · rw [← strayMark_eq]
    rcases stray with ⟨seeking, none_⟩ | ⟨follows, start, pitch⟩
    · rw [placeMark_seeking seeking, placeSeeking_stray none_]
    · rw [placeMark_following follows, placeFollowing_stray start pitch]
  · intro k
    have missed := countMiss_following (x := x) bounded follows
    refine ⟨fun below => ?_, fun reached => ?_⟩
    · rw [missed, if_pos below]
      rfl
    · rw [missed, if_neg (not_lt.mpr reached)]
      rfl

end Sys2Proof.Machine
end

section
/-! PROOFS. Predictions, expectations, and what is due in registration (R57, R62 to R65, R70, R72, R73, R76). -/
namespace Sys2Proof.Machine

/-! ## The prediction (R62) -/

/-- The quotient rounded to the nearest, a half away from zero. -/
theorem roundDiv_million (a : Int) : 2 * |1000000 * roundDiv a 1000000 - a| ≤ 1000000
    ∧ (2 * |1000000 * roundDiv a 1000000 - a| = 1000000 → |a| < |1000000 * roundDiv a 1000000|) := by
  unfold roundDiv
  split
  · next positive =>
    have nonneg : 0 ≤ 1000000 * ((2 * a + 1000000) / (2 * 1000000)) := by omega
    rw [abs_of_nonneg positive, abs_of_nonneg nonneg]
    rcases abs_cases (1000000 * ((2 * a + 1000000) / (2 * 1000000)) - a) with ⟨same, -⟩ | ⟨same, -⟩ <;> rw [same] <;> omega
  · next negative =>
    have nonpos : 1000000 * -((2 * -a + 1000000) / (2 * 1000000)) ≤ 0 := by omega
    rw [abs_of_nonpos (by omega : a ≤ 0), abs_of_nonpos nonpos]
    rcases abs_cases (1000000 * -((2 * -a + 1000000) / (2 * 1000000)) - a) with ⟨same, -⟩ | ⟨same, -⟩ <;> rw [same] <;> omega

/-! ## Intervals armed (R57) -/

/-- What the interval of a SYNTH position x gives the contexts of its lane as it is armed (R57). -/
def armGiven (s : State) (n : Lane) (q : Source) (x : Int) (c : Ctx) : Ctx :=
  if c.src = q ∧ (c.state = .expected ∨ c.state = .active) ∧ s.pins.inspect.get n = true
      ∧ x - s.par .markWin ≤ s.beamPos ∧ s.beamPos ≤ x + s.par .markWin
  then { c with reasons := { c.reasons with inspection := true } } else c

theorem inspectBegin_new (n : Lane) (q : Source) (x : Int) (s u : State) (pins : u.pins = s.pins) (lists : u.lists = s.lists) :
    inspectBegin n (s.newInterval q x) u = { u with lists := s.lists.set n ((s.lists.get n).map (armGiven s n q x)) } := by
  have stays (none_ : ¬(s.pins.inspect.get n = true ∧ x - s.par .markWin ≤ s.beamPos ∧ s.beamPos ≤ x + s.par .markWin)) :
      u = { u with lists := s.lists.set n ((s.lists.get n).map (armGiven s n q x)) } := by
    have same : armGiven s n q x = id := funext fun c => if_neg fun h => none_ h.2.2
    rw [same, List.map_id, Lanes.set_get, ← lists]
  unfold inspectBegin State.newInterval
  by_cases past : x + s.par .markWin < s.beamPos
  · rw [if_pos past]
    exact stays fun h => absurd h.2.2 (not_le.mpr past)
  · rw [if_neg past]
    dsimp only
    by_cases gives : s.pins.inspect.get n = true ∧ x - s.par .markWin ≤ s.beamPos
    · rw [if_pos ⟨decide_eq_true gives.2, by rw [pins]; exact gives.1⟩, giveInspection, onCtx_eq, lists]
      have same : (fun c : Ctx => if c.src = q then
          (if c.state = .expected ∨ c.state = .active then { c with reasons := { c.reasons with inspection := true } } else c) else c)
          = armGiven s n q x := by
        funext c
        simp only [armGiven, gives, not_lt.mp past, and_true, ite_and]
      rw [same]
    · rw [if_neg fun h => gives ⟨by rw [← pins]; exact h.2, of_decide_eq_true h.1⟩]
      exact stays fun h => gives ⟨h.1, h.2.1⟩

theorem armStart_eq (n : Lane) (q : Source) (x : Int) (s : State) : armStart n q x s = { s with
    eyes := s.eyes.set n { s.eyes.get n with startInterval := s.newInterval q x }
    lists := s.lists.set n ((s.lists.get n).map (armGiven s n q x)) } :=
  inspectBegin_new n q x s (s.onEye n fun e => { e with startInterval := s.newInterval q x }) rfl rfl

theorem armPitch_eq (n : Lane) (q : Source) (x : Int) (s : State) : armPitch n q x s = { s with
    eyes := s.eyes.set n { s.eyes.get n with pitchInterval := s.newInterval q x }
    lists := s.lists.set n ((s.lists.get n).map (armGiven s n q x)) } :=
  inspectBegin_new n q x s (s.onEye n fun e => { e with pitchInterval := s.newInterval q x }) rfl rfl

/-! ## The pitch expectation (R63) -/

theorem nextPitch_eq (p : Ctx) (f pos off : Int) :
    nextPitch p f pos off = if p.pitch ≠ 0 ∧ off + p.pitch < p.nominal then some ⟨off / p.pitch + 1, predict pos p.pitch f⟩ else none := by
  unfold nextPitch
  by_cases zero : p.pitch = 0
  · rw [if_pos zero, if_neg fun h => h.1 zero]
  · rw [if_neg zero]
    exact if_congr (by simp [zero]) rfl rfl

/-- The pitch expectation of an anchored panel (R57, R63). -/
theorem formPitch_anchored {n : Lane} {a : Anchor} {q : Source} {p : Ctx} {s : State} (anchor : (s.reg.get n).anchor = some a)
    (current : (s.reg.get n).current = some q) (found : s.ctx? n q = some p) :
    let x := predict a.pos p.pitch (s.reg.get n).f
    let formed := s.onReg n fun r => { r with pitch := nextPitch p (s.reg.get n).f a.pos a.offset }
    formPitch n s = if p.synth = true ∧ p.pitch ≠ 0 ∧ a.offset + p.pitch < p.nominal then armPitch n p.src x formed else formed := by
  intro x formed
  have taken : formPitch n s = match nextPitch p (s.reg.get n).f a.pos a.offset with
      | some e => if p.synth then armPitch n p.src e.x formed else formed
      | none => formed := by
    simp only [formPitch, anchor, current, Option.bind_some, found] <;> rfl
  rw [taken, nextPitch_eq]
  by_cases there : p.pitch ≠ 0 ∧ a.offset + p.pitch < p.nominal
  · rw [if_pos there]
    exact if_congr (and_iff_left there).symm rfl rfl
  · rw [if_neg there, if_neg fun h => there h.2]

theorem formPitch_without {n : Lane} {s : State}
    (none_ : (s.reg.get n).anchor = none ∨ ∀ q, (s.reg.get n).current = some q → s.ctx? n q = none) :
    formPitch n s = s.onReg n fun r => { r with pitch := none } := by
  unfold formPitch
  dsimp only
  split
  · next a p anchor found =>
    obtain ⟨q, current, found⟩ := Option.bind_eq_some_iff.mp found
    rcases none_ with anchorless | gone
    · rw [anchorless] at anchor
      contradiction
    · rw [gone q current] at found
      contradiction
  · rfl

/-! ## The start expectation (R64) -/

theorem dueForm_iff (n : Lane) (s : State) : dueForm n s
    = if following (s.reg.get n).state = true ∧ (s.reg.get n).start = none ∧ (s.reg.get n).synth = none
        ∧ (s.reg.get n).lastEnd ≠ none ∧ s.headExpected n ≠ none then some (formStart n s) else none := by
  simp only [dueForm, Option.isSome_iff_ne_none]

theorem formStart_formed {n : Lane} {e : Int} {p : Ctx} {s : State} (follows : following (s.reg.get n).state = true)
    (start : (s.reg.get n).start = none) (synth : (s.reg.get n).synth = none) (end_ : (s.reg.get n).lastEnd = some e)
    (head : s.headExpected n = some p) :
    let x := predict e p.lead (s.reg.get n).f
    let formed := s.onReg n fun r => { r with start := some ⟨p.src, x⟩ }
    formStart n s = if x + s.startHalf (s.reg.get n).state < s.beamPos then s.onReg n LaneReg.backToSeeking
      else if p.synth = true then armStart n p.src x formed else formed := by
  intro x formed
  simp only [formStart, follows, start, synth, end_, head, and_self, if_true]
  rfl

theorem formStart_other {n : Lane} {s : State} (other : ¬(following (s.reg.get n).state = true ∧ (s.reg.get n).start = none
    ∧ (s.reg.get n).synth = none ∧ (s.reg.get n).lastEnd ≠ none ∧ s.headExpected n ≠ none)) : formStart n s = s := by
  unfold formStart
  dsimp only
  split
  · next ready =>
    split
    · next e p end_ head => exact absurd ⟨ready.1, ready.2.1, ready.2.2, by rw [end_]; simp, by rw [head]; simp⟩ other
    · rfl
  · rfl

/-! ## What is due (R65, R70, R72, R73, R76) -/

/-- A decode in progress that began in the window holds it open (R65). -/
theorem heldOpen_iff (s : State) (n : Lane) (x h : Int) :
    s.heldOpen n x h = true ↔ ∃ m, decodeMark (s.eyes.get n).decode = some m ∧ |x - m| ≤ h := by
  unfold State.heldOpen
  cases decodeMark (s.eyes.get n).decode <;> simp [distance_eq_abs]

theorem duePitch_some {n : Lane} {x : PitchExpect} {s : State} (follows : following (s.reg.get n).state = true)
    (pitch : (s.reg.get n).pitch = some x) :
    duePitch n s = if x.x + s.par .markWin < s.beamPos then
      if s.pitchWindow n = true then if s.heldOpen n x.x (s.par .markWin) = true then none else some (passPitch n x .missed s)
      else some (passPitch n x .synthesised s) else none := by
  simp only [duePitch, pitch, follows, true_and]

theorem duePitch_none {n : Lane} {s : State} (quiet : following (s.reg.get n).state = false ∨ (s.reg.get n).pitch = none) :
    duePitch n s = none := by
  unfold duePitch
  dsimp only
  split
  · next e pitch =>
    refine if_neg fun h => ?_
    rcases quiet with stands | none_
    · rw [stands] at h
      exact Bool.noConfusion h.1
    · rw [none_] at pitch
      contradiction
  · rfl

theorem passPitch_panel {n : Lane} {x : PitchExpect} {q : Source} {p : Ctx} {s : State} (current : (s.reg.get n).current = some q)
    (found : s.ctx? n q = some p) (how : How) : passPitch n x how s = takePitch n p x.k x.x how s := by
  simp only [passPitch, current, Option.bind_some, found]

theorem passPitch_gone {n : Lane} {x : PitchExpect} {s : State} (gone : ∀ q, (s.reg.get n).current = some q → s.ctx? n q = none)
    (how : How) : passPitch n x how s = (countHow n x.x how s).onReg n fun r => { r with pitch := none } := by
  unfold passPitch
  split
  · next p found =>
    obtain ⟨q, current, found⟩ := Option.bind_eq_some_iff.mp found
    rw [gone q current] at found
    contradiction
  · rfl

theorem pitchWindow_iff (n : Lane) (s : State) : s.pitchWindow n = true ↔ (s.reg.get n).state ≠ .lost
    ∧ ∀ q p, (s.reg.get n).current = some q → s.ctx? n q = some p → p.synth = false := by
  rw [State.pitchWindow, Bool.and_eq_true, bne_iff_ne, Bool.not_eq_true', currentSynth_eq_false]

theorem dueStart_some {n : Lane} {x : StartExpect} {p : Ctx} {s : State} (follows : following (s.reg.get n).state = true)
    (start : (s.reg.get n).start = some x) (found : s.ctx? n x.panel = some p) :
    dueStart n s = if p.synth = true then
        if x.x + s.par .markWin < s.beamPos then some (startPanel n p x.x .synthesised false s) else none
      else if x.x + s.startHalf (s.reg.get n).state < s.beamPos then
        if s.heldOpen n x.x (s.startHalf (s.reg.get n).state) = true then none else some (startPanel n p x.x .missed false s)
      else none := by
  simp only [dueStart, start, found, follows, Bool.not_true, Bool.false_eq_true, if_false]

theorem dueStart_none {n : Lane} {s : State} (quiet : following (s.reg.get n).state = false
    ∨ ∀ x, (s.reg.get n).start = some x → s.ctx? n x.panel = none) : dueStart n s = none := by
  unfold dueStart
  dsimp only
  split
  · next e start =>
    split
    · next p found =>
      rcases quiet with stands | gone
      · rw [stands]
        rfl
      · rw [gone e start] at found
        contradiction
    · rfl
  · rfl

theorem seekSynth_none {n : Lane} {s : State} (quiet : (s.reg.get n).state ≠ .seeking ∨ ∀ p, s.headExpected n = some p → p.synth = false) :
    seekSynth n s = none := by
  unfold seekSynth
  split
  · next p seeking head =>
    refine if_neg ?_
    rw [Bool.not_eq_true]
    exact quiet.elim (fun h => absurd seeking h) fun h => h p head
  · rfl

theorem dueSynth_none {n : Lane} {s : State} (gone : ∀ x, (s.reg.get n).synth = some x → s.ctx? n x.panel = none) :
    dueSynth n s = none := by
  unfold dueSynth
  split
  · next e synth =>
    rw [gone e synth]
    exact ite_self none
  · rfl

theorem dueSynth_some {n : Lane} {x : StartExpect} {p : Ctx} {s : State} (synth : (s.reg.get n).synth = some x)
    (found : s.ctx? n x.panel = some p) : dueSynth n s
      = if x.x + s.par .markWin < s.beamPos then some (startPanel n p x.x .synthesised true s) else none := by
  simp only [dueSynth, synth, found]

end Sys2Proof.Machine
end

section
/-! PROOFS. Predictions and expectations settled (R57, R62 to R65, R70, R72, R73, R76). -/
namespace Sys2Proof.Machine

/-- A pitch expectation passed by the beam (R65, R72, R73, R76). -/
theorem duePitch_passed {n : Lane} {x : PitchExpect} {s : State} (follows : following (s.reg.get n).state = true)
    (pitch : (s.reg.get n).pitch = some x) (passed : x.x + s.par .markWin < s.beamPos) :
    ((s.reg.get n).state = .lost ∨ s.currentSynth n = true → duePitch n s = some (passPitch n x .synthesised s))
    ∧ ((s.reg.get n).state ≠ .lost → s.currentSynth n = false →
        ((∃ m, decodeMark (s.eyes.get n).decode = some m ∧ |x.x - m| ≤ s.par .markWin) → duePitch n s = none)
        ∧ (¬(∃ m, decodeMark (s.eyes.get n).decode = some m ∧ |x.x - m| ≤ s.par .markWin) →
            duePitch n s = some (passPitch n x .missed s))) := by
  have due := duePitch_some follows pitch
  rw [if_pos passed] at due
  refine ⟨fun closed => ?_, fun state synth => ?_⟩
  · rw [due, if_neg]
    rw [State.pitchWindow, Bool.and_eq_true, bne_iff_ne, Bool.not_eq_true']
    rintro ⟨state, synth⟩
    rcases closed with lost | closed
    · exact state lost
    · exact Bool.noConfusion (closed.symm.trans synth)
  · have window : s.pitchWindow n = true := by
      rw [State.pitchWindow, Bool.and_eq_true, bne_iff_ne, Bool.not_eq_true']
      exact ⟨state, synth⟩
    rw [due, if_pos window]
    exact ⟨fun open_ => if_pos ((heldOpen_iff _ _ _ _).mpr open_), fun closed => if_neg (mt (heldOpen_iff _ _ _ _).mp closed)⟩

theorem currentSynth_of {n : Lane} {q : Source} {p : Ctx} {s : State} (current : (s.reg.get n).current = some q)
    (found : s.ctx? n q = some p) : s.currentSynth n = p.synth := by
  simp only [State.currentSynth, current, Option.bind_some, found]

theorem currentSynth_gone {n : Lane} {s : State} (gone : ∀ q, (s.reg.get n).current = some q → s.ctx? n q = none) :
    s.currentSynth n = false :=
  (currentSynth_eq_false n s).mpr fun q p current found => by rw [gone q current] at found; contradiction

theorem not_following_of {r : RegState} (stands : r = .unused ∨ r = .seeking ∨ r = .blind) : following r = false := by
  rcases stands with h | h | h <;> rw [h] <;> rfl

/-- Settles O12: predictions, expectations and the order of what is due. -/
theorem predictionsAndExpectations : Obligations.PredictionsAndExpectations := by
  refine ⟨fun base d f => ⟨roundDiv (d * f) 1000000, rfl, roundDiv_million (d * f)⟩, fun n a q p s anchor current found => ?_,
    fun n s none_ => formPitch_without none_, fun n q x s => ⟨armGiven s n q x, armStart_eq n q x s, armPitch_eq n q x s,
      fun c => ⟨fun given => if_pos given, fun none_ => if_neg none_⟩⟩,
    fun n e p s => ?_, fun n s => ?_, fun n x q p s => ?_, fun n x s => ?_, fun n x p s => ?_, fun n p s seeking head synth => ?_,
    fun n x p s synth found => dueSynth_some synth found, fun n s => ?_, fun s => ?_,
    fun k s => ⟨rfl, fun t next => by simp only [regDue, next], fun none_ => ?_⟩, fun b s => ⟨rfl, rfl⟩⟩
  · intro r x there formed
    have formed_ : formed = s.onReg n fun r => { r with pitch := nextPitch p (s.reg.get n).f a.pos a.offset } := by
      rw [nextPitch_eq]
      rfl
    rw [formPitch_anchored anchor current found, ← formed_]
    refine ⟨fun plain => if_neg ?_, fun synth isThere => if_pos ⟨synth, isThere⟩⟩
    rintro ⟨synth, isThere⟩
    exact plain.elim (fun h => Bool.noConfusion (h.symm.trans synth)) fun h => h isThere
  · intro r follows start synth end_ head half x seeking formed
    have follows' : following (s.reg.get n).state = true := (following_iff _).mpr follows
    have formed_ := formStart_formed follows' start synth end_ head
    refine ⟨?_, fun passed => ?_, fun open_ => ?_⟩
    · rw [dueForm_iff, if_pos]
      exact ⟨follows', start, synth, by rw [end_]; simp, by rw [head]; simp⟩
    · rw [formed_]
      exact if_pos passed
    · rw [formed_]
      refine ⟨fun plain => ?_, fun synthetic => ?_⟩
      · exact (if_neg (not_lt.mpr open_)).trans (if_neg (by rw [plain]; exact Bool.false_ne_true))
      · exact (if_neg (not_lt.mpr open_)).trans (if_pos synthetic)
  · intro r
    refine ⟨fun none_ => ?_, fun stands => ?_, fun none_ => duePitch_none (.inr none_), fun gone => dueStart_none (.inr gone),
      fun quiet => seekSynth_none quiet, fun gone => dueSynth_none gone⟩
    · have unready : ¬(following (s.reg.get n).state = true ∧ (s.reg.get n).start = none ∧ (s.reg.get n).synth = none
          ∧ (s.reg.get n).lastEnd ≠ none ∧ s.headExpected n ≠ none) := by
        rintro ⟨follows, start, synth, end_, head⟩
        rcases none_ with h | h | h | h | h | h | h
        · exact Bool.noConfusion ((not_following_of (.inl h)).symm.trans follows)
        · exact Bool.noConfusion ((not_following_of (.inr (.inl h))).symm.trans follows)
        · exact Bool.noConfusion ((not_following_of (.inr (.inr h))).symm.trans follows)
        · exact h start
        · exact h synth
        · exact end_ h
        · exact head h
      refine ⟨formStart_other unready, ?_⟩
      rw [dueForm_iff, if_neg unready]
    · have still := not_following_of stands
      exact ⟨duePitch_none (.inl still), dueStart_none (.inl still)⟩
  · intro r follows pitch current found w open_
    have follows' : following (s.reg.get n).state = true := (following_iff _).mpr follows
    refine ⟨fun ahead => ?_, fun passed => ?_⟩
    · rw [duePitch_some follows' pitch]
      exact if_neg (not_lt.mpr ahead)
    · obtain ⟨closed, window⟩ := duePitch_passed follows' pitch passed
      simp only [currentSynth_of current found, passPitch_panel current found] at closed window
      exact ⟨closed, window⟩
  · intro r follows pitch gone w open_ ended
    have follows' : following (s.reg.get n).state = true := (following_iff _).mpr follows
    refine ⟨fun ahead => ?_, fun passed => ?_⟩
    · rw [duePitch_some follows' pitch]
      exact if_neg (not_lt.mpr ahead)
    · obtain ⟨closed, window⟩ := duePitch_passed follows' pitch passed
      simp only [passPitch_gone gone] at closed window
      exact ⟨fun lost => closed (.inl lost), fun state => window state (currentSynth_gone gone)⟩
  · intro r follows start found half open_
    have follows' : following (s.reg.get n).state = true := (following_iff _).mpr follows
    have due := dueStart_some follows' start found
    cases synth : p.synth with
    | true =>
      have half_ : half = s.par .markWin := if_neg fun h => by rw [synth] at h; exact Bool.noConfusion h.2
      rw [synth, if_pos rfl, ← half_] at due
      exact ⟨fun ahead => due.trans (if_neg (not_lt.mpr ahead)), fun passed => ⟨fun _ => due.trans (if_pos passed), fun h => by contradiction⟩⟩
    | false =>
      have half_ : half = s.startHalf (s.reg.get n).state := if_congr (and_iff_left synth) rfl rfl
      rw [synth, if_neg Bool.false_ne_true, ← half_] at due
      refine ⟨fun ahead => due.trans (if_neg (not_lt.mpr ahead)), fun passed => ⟨fun h => by contradiction, fun _ => ?_⟩⟩
      rw [due, if_pos passed]
      exact ⟨fun isOpen => if_pos ((heldOpen_iff _ _ _ _).mpr isOpen), fun closed => if_neg (mt (heldOpen_iff _ _ _ _).mp closed)⟩
  · simp only [seekSynth, seeking, head, synth, if_true]
    rfl
  · simp only [dueInLane, List.findSome?]
    cases seekSynth n s <;> cases dueSynth n s <;> cases dueForm n s <;> cases duePitch n s <;> cases dueStart n s <;> rfl
  · simp only [dueNext, List.findSome?]
    cases dueInLane .lane0 s <;> cases dueInLane .lane1 s <;> cases dueInLane .lane2 s <;> cases dueInLane .lane3 s <;> rfl
  · cases k with
    | zero => rfl
    | succ k => simp only [regDue, none_]

end Sys2Proof.Machine
end

section
/-! PROOFS. What the reports leave of registration and of the panels of a lane (R83, R101 to R109). -/
namespace Sys2Proof.Machine

/-! ## A context while reports are made -/

/-- The context d is c, but for its entries and targets, F at end lock, the reasons that zones give and the note MERGED; no target
is lost, and an END entry comes with its target. -/
structure Reported (c d : Ctx) : Prop where
  same : d = { c with
    startEntry := d.startEntry, endEntry := d.endEntry, startTarget := d.startTarget, endTarget := d.endTarget, fEndLock := d.fEndLock
    reasons := { c.reasons with splice := d.reasons.splice, dwell := d.reasons.dwell, operator := d.reasons.operator }
    notes := { c.notes with merged := d.notes.merged } }
  start : c.startTarget ≠ none → d.startTarget ≠ none
  finish : c.endTarget ≠ none → d.endTarget ≠ none
  ended : (c.endEntry ≠ none → c.endTarget ≠ none) → d.endEntry ≠ none → d.endTarget ≠ none

theorem Reported.refl (c : Ctx) : Reported c c := ⟨rfl, id, id, id⟩

theorem Reported.trans {a b c : Ctx} (first : Reported a b) (second : Reported b c) : Reported a c := by
  refine ⟨?_, second.start ∘ first.start, second.finish ∘ first.finish, fun h => second.ended (first.ended h)⟩
  rw [second.same, first.same]

theorem takeStart_reported (order : Nat) (x : Int) (merged : Bool) (c : Ctx) : Reported c (takeStart order x merged c) := by
  rw [takeStart, noteMerged_eq]
  exact ⟨rfl, fun _ => by simp, id, id⟩

theorem takeFinish_reported (order : Nat) (x : Int) (merged : Bool) (c : Ctx) : Reported c (takeFinish order x merged c) := by
  rw [takeFinish, noteMerged_eq]
  exact ⟨rfl, id, fun _ => by simp, fun _ _ => by simp⟩

theorem onPart_reported {f g : Ctx → Ctx} (first : ∀ c, Reported c (f c)) (second : ∀ c, Reported c (g c)) (p : Option LanePart) (c : Ctx) :
    Reported c (onPart p f g c) := by
  have started : Reported c (if p.bind LanePart.starts = some c.src then f c else c) := by
    split
    · exact first c
    · exact .refl c
  by_cases ends : p.bind LanePart.ends = some c.src
  · rw [show onPart p f g c = g _ from if_pos ends]
    exact started.trans (second _)
  · rw [show onPart p f g c = _ from if_neg ends]
    exact started

theorem zoneOnCtx_reported (z : Zone) (c : Ctx) : Reported c (zoneOnCtx z c) := by
  unfold zoneOnCtx
  split
  · split
    · cases z.cause <;> exact ⟨rfl, id, id, id⟩
    · exact .refl c
  · exact .refl c

theorem zonesOnCtx_reported (zs : List Zone) (c : Ctx) : Reported c (zonesOnCtx zs c) := by
  induction zs generalizing c with
  | nil => exact .refl c
  | cons z zs ih => exact (zoneOnCtx_reported z c).trans (ih _)

theorem endLockCtx_reported (zones : List Zone) (f : Int) (p : Option LanePart) (c : Ctx) :
    Reported c (endLockCtx zones f p c) := by
  unfold endLockCtx
  split
  · exact Reported.trans (b := { c with fEndLock := some f }) ⟨rfl, id, id, id⟩ (zonesOnCtx_reported zones _)
  · exact .refl c

theorem Reported.src {c d : Ctx} (reported : Reported c d) : d.src = c.src := by rw [reported.same]

/-! ## A lane while reports are made -/

/-- In a lane, E and the start expectation alone may have changed in registration, the expectation keeps its panel, and every
panel but the one expected has at most been reported. -/
structure ReportedLane (n : Lane) (s t : State) : Prop where
  reg : ∃ e x, t.reg.get n = { s.reg.get n with lastEnd := e, start := x }
  panel : ∀ x, (t.reg.get n).start = some x → ∃ y, (s.reg.get n).start = some y ∧ y.panel = x.panel
  ctx : ∀ q c, (∀ x, (s.reg.get n).start = some x → x.panel ≠ q) → s.ctx? n q = some c →
    ∃ d, t.ctx? n q = some d ∧ Reported c d

theorem ReportedLane.same {n : Lane} {s t : State} (lists : t.lists.get n = s.lists.get n) (reg : t.reg.get n = s.reg.get n) :
    ReportedLane n s t := by
  refine ⟨⟨_, _, reg⟩, fun x start => ⟨x, by rw [← reg]; exact start, rfl⟩, fun q c _ found => ⟨c, ?_, .refl c⟩⟩
  rw [ctx?_eq, lists]
  exact found

theorem ReportedLane.trans {n : Lane} {s t u : State} (first : ReportedLane n s t) (second : ReportedLane n t u) :
    ReportedLane n s u := by
  obtain ⟨e, x, reg⟩ := first.reg
  obtain ⟨e', x', reg'⟩ := second.reg
  refine ⟨⟨e', x', by rw [reg', reg]⟩, fun y start => ?_, fun q c other found => ?_⟩
  · obtain ⟨y', start', panel'⟩ := second.panel y start
    obtain ⟨y'', start'', panel''⟩ := first.panel y' start'
    exact ⟨y'', start'', panel''.trans panel'⟩
  · obtain ⟨d, found', reported⟩ := first.ctx q c other found
    obtain ⟨d', found'', reported'⟩ := second.ctx q d (fun y start => by
      obtain ⟨y', start', panel⟩ := first.panel y start
      rw [← panel]
      exact other y' start') found'
    exact ⟨d', found'', reported.trans reported'⟩

/-- A report from a state that agrees in lists and registration. -/
theorem ReportedLane.after {n : Lane} {s t u : State} (reported : ReportedLane n t u) (lists : t.lists = s.lists) (reg : t.reg = s.reg) :
    ReportedLane n s u :=
  ReportedLane.trans (.same (by rw [lists]) (by rw [reg])) reported

/-- What is done in one lane concerns the others not at all. -/
theorem ReportedLane.of_only {m : Lane} {s t : State} (only : OnlyLane m s t) (reported : ReportedLane m s t) (n : Lane) :
    ReportedLane n s t := by
  by_cases here : n = m
  · rw [here]
    exact reported
  · obtain ⟨lists, reg⟩ := only n here
    exact .same lists reg

/-- The contexts of a lane changed where each is at most reported. -/
theorem ReportedLane.of_map {n : Lane} {s t : State} {f : Ctx → Ctx} (lists : t.lists.get n = (s.lists.get n).map f)
    (reported : ∀ c, Reported c (f c)) (reg : t.reg.get n = s.reg.get n) : ReportedLane n s t := by
  refine ⟨⟨_, _, reg⟩, fun x start => ⟨x, by rw [← reg]; exact start, rfl⟩, fun q c _ found => ⟨f c, ?_, reported c⟩⟩
  rw [ctx?_eq] at found ⊢
  rw [lists, find_src_map (fun c => (reported c).src), found]
  rfl

/-! ## E and the start expectation -/

theorem ctx?_giveInspection {n : Lane} {p q : Source} (other : p ≠ q) (s : State) :
    (giveInspection n p s).ctx? n q = s.ctx? n q := by
  rw [giveInspection, onCtx_eq, ctx?_eq, ctx?_eq, Lanes.get_set_same]
  have keeps (c : Ctx) : (if c.src = p then (if c.state = .expected ∨ c.state = .active then
      { c with reasons := { c.reasons with inspection := true } } else c) else c).src = c.src := by
    split
    · split <;> rfl
    · rfl
  rw [find_src_map keeps]
  cases found : (s.lists.get n).find? (fun c => c.src = q) with
  | none => rfl
  | some c =>
    have src : c.src = q := by simpa using List.find?_some found
    exact congrArg some (if_neg fun same => other (same.symm.trans src))

theorem ctx?_armStart {n : Lane} {p q : Source} (other : p ≠ q) (x : Int) (s : State) : (armStart n p x s).ctx? n q = s.ctx? n q := by
  unfold armStart inspectBegin State.newInterval
  by_cases passed : x + s.par .markWin < s.beamPos
  · rw [if_pos passed]
    rfl
  · rw [if_neg passed]
    dsimp only
    split
    · exact ctx?_giveInspection other _
    · rfl

theorem reformStart_reported (n : Lane) (s : State) : ReportedLane n s (reformStart n s) := by
  unfold reformStart
  dsimp only
  split
  · next st e start _ =>
    split
    · next p _ =>
      let y : StartExpect := ⟨st.panel, startAt e p (s.reg.get n).f⟩
      let u := s.onReg n fun r => { r with start := some y }
      have reg : u.reg.get n = { s.reg.get n with start := some y } := Lanes.get_set_same _ _ _
      have formed : ReportedLane n s u := by
        refine ⟨⟨_, _, reg⟩, fun x now => ⟨st, start, ?_⟩, fun q c _ found => ⟨c, found, .refl c⟩⟩
        rw [reg] at now
        rw [← Option.some.inj now]
      split
      · refine ⟨⟨(s.reg.get n).lastEnd, some y, ?_⟩, fun x now => ⟨st, start, ?_⟩, fun q c other found => ⟨c, ?_, .refl c⟩⟩
        · rw [(armStart_lane _ _ _ _).2.1, reg]
        · rw [(armStart_lane _ _ _ _).2.1, reg] at now
          rw [← Option.some.inj now]
        · rw [ctx?_armStart (other st start)]
          exact found
      · exact formed
    · exact .same rfl rfl
  · exact .same rfl rfl

theorem setEnd_reported (n m : Lane) (e : Int) (s : State) : ReportedLane m s (setEnd n e s) := by
  refine ReportedLane.of_only (setEnd_lane n e s).1 ?_ m
  refine ReportedLane.trans (t := s.onReg n fun r => { r with lastEnd := some e }) ?_ (reformStart_reported n _)
  have reg : (s.onReg n fun r => { r with lastEnd := some e }).reg.get n = { s.reg.get n with lastEnd := some e } :=
    Lanes.get_set_same _ _ _
  exact ⟨⟨_, _, reg⟩, fun x start => ⟨x, by rw [reg] at start; exact start, rfl⟩, fun q c _ found => ⟨c, found, .refl c⟩⟩

/-! ## The Cut Queue's operations -/

theorem retargetCtx_reported (order : Nat) (x : Int) (merged : Bool) (p : Option LanePart) (c : Ctx) :
    Reported c (retargetCtx order x merged p c) := onPart_reported (takeStart_reported order x merged) (takeFinish_reported order x merged) p c

theorem retargetLane_reported (order : Nat) (x : Int) (merged : Bool) (p : Option LanePart) (n m : Lane) (s : State) :
    ReportedLane m s (retargetLane order x merged p n s) := by
  refine ReportedLane.of_only (retargetLane_lane order x merged p n s).1 ?_ m
  have mapped : ReportedLane n s (s.onList n (List.map (retargetCtx order x merged p))) :=
    .of_map (Lanes.get_set_same _ _ _) (retargetCtx_reported order x merged p) rfl
  rw [retargetLane_eq]
  split
  · exact mapped.trans (setEnd_reported n n x _)
  · exact mapped

theorem forLanes_reported {g : Lane → State → State} (each : ∀ m n u, ReportedLane n u (g m u)) (n : Lane) (s : State) :
    ReportedLane n s (forLanes g s) :=
  (((each _ n _).trans (each _ n _)).trans (each _ n _)).trans (each _ n _)

theorem retarget_reported (order : Nat) (x : Int) (merged : Bool) (parts : Lanes (Option LanePart)) (n : Lane) (s : State) :
    ReportedLane n s (retarget order x merged parts s) :=
  forLanes_reported (fun m n u => retargetLane_reported order x merged (parts.get m) m n u) n s

theorem takeOvers_reported (x : Entry) (gone : List Entry) (n : Lane) (s : State) : ReportedLane n s (takeOvers x gone s) := by
  induction gone generalizing s with
  | nil => exact .same rfl rfl
  | cons e gone ih => exact (retarget_reported _ _ _ _ n s).trans (ih _)

theorem lockEntry_reported (x : Entry) (n : Lane) (s : State) : ReportedLane n s (lockEntry x s) := by
  obtain ⟨cuts, locked⟩ := lockEntry_parts x s
  have ends (parts : Lanes (Option LanePart)) (u : State) : ReportedLane n u (forLanes (endLockLane parts) u) := by
    refine forLanes_reported (fun m k v => ReportedLane.of_only (m := m) ?_ ?_ k) n u
    · rw [endLockLane_eq]
      exact onList_onlyLane m _ v
    · rw [endLockLane_eq]
      exact .of_map (Lanes.get_set_same _ _ _) (endLockCtx_reported _ _ _) rfl
  have starved (parts : Lanes (Option LanePart)) (u : State) : ReportedLane n u (starvationCheck parts u) := .same (by simp) (by simp)
  rw [locked]
  exact ReportedLane.after (t := { s with cuts := cuts })
    (((takeOvers_reported x _ n _).trans (ends _ _)).trans (starved _ _)) rfl rfl

theorem lockDue_reported (k : Nat) (n : Lane) (s : State) : ReportedLane n s (lockDue k s) := by
  induction k generalizing s with
  | zero => exact .same rfl rfl
  | succ k ih =>
    unfold lockDue
    split
    · exact (lockEntry_reported _ n s).trans (ih _)
    · exact .same rfl rfl

theorem judgeLocks_reported (n : Lane) (s : State) : ReportedLane n s (judgeLocks s) := lockDue_reported _ n s

theorem placeEntry_reported (e : Entry) (n : Lane) (s : State) : ReportedLane n s (placeEntry e s) := by
  rw [placeEntry_eq]
  exact (retarget_reported _ _ _ _ n _).after rfl rfl

theorem createEntry_reported (m : Lane) (p : LanePart) (x : Int) (n : Lane) (s : State) : ReportedLane n s (createEntry m p x s) := by
  rw [createEntry_eq]
  exact ((placeEntry_reported _ n _).trans (judgeLocks_reported n _)).after rfl rfl

theorem moveEntry_reported (e : Entry) (x : Int) (f : Lanes (Option LanePart) → Lanes (Option LanePart)) (n : Lane) (s : State) :
    ReportedLane n s (moveEntry e x f s) := by
  rw [moveEntry_eq]
  exact ((placeEntry_reported _ n _).trans (judgeLocks_reported n _)).after rfl rfl

theorem joinFixed_reported (m : Lane) (q : Source) (e : Entry) (n : Lane) (s : State) : ReportedLane n s (joinFixed m q e s) := by
  rw [joinFixed_eq]
  refine ReportedLane.of_only (m := m) ?_ ?_ n
  · exact fun k other => ⟨Lanes.get_set_ne _ _ _ _ other, rfl⟩
  refine ReportedLane.of_map (f := fun c => if c.src = q then { c with startEntry := some e.order, startTarget := some e.coord } else c)
    (Lanes.get_set_same _ _ _) (fun c => ?_) rfl
  split
  · exact ⟨rfl, fun _ => by simp, id, id⟩
  · exact .refl c

/-! ## The reports (R103, R104) -/

theorem startReport_reported (m : Lane) (p : Ctx) (x : Int) (first : Bool) (n : Lane) (s : State) :
    ReportedLane n s (startReport m p x first s) := by
  unfold startReport
  dsimp only
  split
  · exact createEntry_reported m _ _ n s
  · split
    · exact moveEntry_reported _ _ _ n s
    · exact joinFixed_reported m _ _ n s

theorem placeEnd_reported (m : Lane) (q : Source) (y : Int) (n : Lane) (s : State) : ReportedLane n s (placeEnd m q y s) := by
  unfold placeEnd
  split
  · split
    · exact createEntry_reported m _ _ n s
    · exact .same rfl rfl
  · split
    · exact moveEntry_reported _ _ _ n s
    · exact .same rfl rfl

theorem endReport_reported (m : Lane) (q : Source) (y : Int) (n : Lane) (s : State) : ReportedLane n s (endReport m q y s) := by
  rw [endReport_eq]
  split
  · exact (placeEnd_reported m q y n s).trans (setEnd_reported m n _ _)
  · exact placeEnd_reported m q y n s

end Sys2Proof.Machine
end

section
/-! PROOFS. The targets that reports set, and the holds they leave (R36, R55, R64, R103, R104). -/
namespace Sys2Proof.Machine

/-! ## E is the end target of the panel reported (R64) -/

/-- The start expectation of a lane, if any, is of another panel. -/
def ExpectsOther (n : Lane) (q : Source) (s : State) : Prop := ∀ x, (s.reg.get n).start = some x → x.panel ≠ q

theorem ReportedLane.expectsOther {n : Lane} {s t : State} (reported : ReportedLane n s t) {q : Source} (other : ExpectsOther n q s) :
    ExpectsOther n q t := by
  intro x start
  obtain ⟨y, start', panel⟩ := reported.panel x start
  rw [← panel]
  exact other y start'

theorem setEnd_ctx {n : Lane} {q : Source} {s : State} (other : ExpectsOther n q s) (e : Int) :
    (setEnd n e s).ctx? n q = s.ctx? n q := by
  let u := s.onReg n fun r => { r with lastEnd := some e }
  have start : (u.reg.get n).start = (s.reg.get n).start := by
    simp only [u, State.onReg, Lanes.get_set_same]
  change (reformStart n u).ctx? n q = u.ctx? n q
  unfold reformStart
  dsimp only
  split
  · next st e' now _ =>
    split
    · split
      · exact ctx?_armStart (other st (start.symm.trans now)) _ _
      · rfl
    · rfl
  · rfl

theorem placeEntry_starts {e : Entry} {n : Lane} {q : Source} {c : Ctx} {s : State} (found : s.ctx? n q = some c)
    (starts : (e.parts.get n).bind LanePart.starts = some q) :
    ∃ d, (placeEntry e s).ctx? n q = some d ∧ d.startTarget ≠ none := by
  rw [placeEntry_eq]
  obtain ⟨d, found', only⟩ := retarget_ctx e.order (raisedCoord e.coord s.cuts.entries) (mustRaise e.coord s.cuts.entries) e.parts
    (s := s.onCuts fun c => { c with entries := insertEntry { e with coord := raisedCoord e.coord s.cuts.entries } c.entries }) found
  obtain ⟨-, target, -⟩ := retargetCtx_starts e.order (raisedCoord e.coord s.cuts.entries) (mustRaise e.coord s.cuts.entries)
    (p := e.parts.get n) (c := c) (by rw [ctx?_src found]; exact starts)
  exact ⟨d, found', by rw [only.fields.2.2.2.2.1, target]; simp⟩

theorem placeEntry_ends {e : Entry} {n : Lane} {q : Source} {c : Ctx} {s : State} (found : s.ctx? n q = some c)
    (ends : (e.parts.get n).bind LanePart.ends = some q) :
    ∃ d, (placeEntry e s).ctx? n q = some d ∧ d.endTarget ≠ none := by
  rw [placeEntry_eq]
  obtain ⟨d, found', only⟩ := retarget_ctx e.order (raisedCoord e.coord s.cuts.entries) (mustRaise e.coord s.cuts.entries) e.parts
    (s := s.onCuts fun c => { c with entries := insertEntry { e with coord := raisedCoord e.coord s.cuts.entries } c.entries }) found
  obtain ⟨-, target, -⟩ := retargetCtx_ends e.order (raisedCoord e.coord s.cuts.entries) (mustRaise e.coord s.cuts.entries)
    (p := e.parts.get n) (c := c) (by rw [ctx?_src found]; exact ends)
  exact ⟨d, found', by rw [only.fields.2.2.2.2.2.1, target]; simp⟩

/-- A panel whose entry is placed keeps the target as the locks are judged. -/
theorem judged_starts {e : Entry} {n : Lane} {q : Source} {c : Ctx} {s : State} (other : ExpectsOther n q s)
    (found : s.ctx? n q = some c) (starts : (e.parts.get n).bind LanePart.starts = some q) :
    ∃ d, (judgeLocks (placeEntry e s)).ctx? n q = some d ∧ d.startTarget ≠ none := by
  obtain ⟨d, found', target⟩ := placeEntry_starts found starts
  obtain ⟨d', found'', reported⟩ := (judgeLocks_reported n (placeEntry e s)).ctx q d
    ((placeEntry_reported e n s).expectsOther other) found'
  exact ⟨d', found'', reported.start target⟩

theorem judged_ends {e : Entry} {n : Lane} {q : Source} {c : Ctx} {s : State} (other : ExpectsOther n q s)
    (found : s.ctx? n q = some c) (ends : (e.parts.get n).bind LanePart.ends = some q) :
    ∃ d, (judgeLocks (placeEntry e s)).ctx? n q = some d ∧ d.endTarget ≠ none := by
  obtain ⟨d, found', target⟩ := placeEntry_ends found ends
  obtain ⟨d', found'', reported⟩ := (judgeLocks_reported n (placeEntry e s)).ctx q d
    ((placeEntry_reported e n s).expectsOther other) found'
  exact ⟨d', found'', reported.finish target⟩

/-- A START report gives its panel a start target (R83, R103). -/
theorem startReport_target {n : Lane} {p c : Ctx} {m : Int} {first : Bool} {s : State} (other : ExpectsOther n p.src s)
    (found : s.ctx? n p.src = some c) (parts : ∀ e, s.sharedEntry n p.src = some e → e.parts.get n ≠ none) :
    ∃ d, (startReport n p m first s).ctx? n p.src = some d ∧ Reported c d ∧ d.startTarget ≠ none := by
  obtain ⟨d, found', reported⟩ := (startReport_reported n p m first n s).ctx p.src c other found
  refine ⟨d, found', reported, ?_⟩
  have targeted (t : State) (same : startReport n p m first s = t) (has : ∃ d, t.ctx? n p.src = some d ∧ d.startTarget ≠ none) :
      d.startTarget ≠ none := by
    obtain ⟨d', found'', target⟩ := has
    rw [← same, found'] at found''
    rw [Option.some.inj found'']
    exact target
  by_cases alone : 0 < p.lead ∨ first = true ∨ s.sharedEntry n p.src = none
  · refine targeted _ (startReport_creates alone) ?_
    rw [createEntry_eq]
    exact judged_starts (s := { s with cuts := { s.cuts with nextOrder := s.cuts.nextOrder + 1 } }) other found
      (by rw [Lanes.get_set_same]; rfl)
  · have shared_ : (if p.lead > 0 ∨ first = true then none else s.sharedEntry n p.src) = s.sharedEntry n p.src :=
      if_neg fun h => alone (h.imp_right .inl)
    cases shared : s.sharedEntry n p.src with
    | none => exact absurd (.inr (.inr shared)) alone
    | some e =>
      obtain ⟨a, part⟩ := Option.ne_none_iff_exists'.mp (parts e shared)
      refine targeted (if e.status = .provisional then moveEntry e (m + s.par .startOffset) (gainStart n p.src) s
        else joinFixed n p.src e s) ?_ ?_
      · unfold startReport
        dsimp only
        rw [shared_, shared]
      · split
        · rw [moveEntry_eq]
          refine judged_starts (s := { s with cuts := { s.cuts with
            entries := s.cuts.entries.filter fun a => a.order != e.order } }) other found ?_
          rw [gainStart, Lanes.get_set_same, part]
          rfl
        · rw [joinFixed_eq, ctx?_eq, Lanes.get_set_same, find_src_map (f := fun c => if c.src = p.src then
            { c with startEntry := some e.order, startTarget := some e.coord } else c) (fun c => by split <;> rfl), ← ctx?_eq, found]
          refine ⟨_, rfl, ?_⟩
          dsimp only
          rw [if_pos (ctx?_src found)]
          simp

/-- An END report leaves its panel with an end target, which is E (R64, R104). -/
theorem endReport_target {n : Lane} {q : Source} {c : Ctx} {y : Int} {s : State} (other : ExpectsOther n q s)
    (found : s.ctx? n q = some c) (due : c.endTarget ≠ none ∨ c.state = .active ∧ (c.endEntry ≠ none → c.endTarget ≠ none)) :
    ∃ d, (endReport n q y s).ctx? n q = some d ∧ Reported c d ∧ d.endTarget ≠ none
      ∧ ((endReport n q y s).reg.get n).lastEnd = d.endTarget := by
  have placed := placeEnd_reported n q y n s
  obtain ⟨d, found', reported⟩ := placed.ctx q c other found
  have target : d.endTarget ≠ none := by
    rcases due with has | ⟨active, ended⟩
    · exact reported.finish has
    · by_cases entry : c.endEntry = none
      · have gone : ∀ o, c.endEntry = some o → s.cuts.entries.find? (fun e => e.order == o) = none := by
          rw [entry]
          exact fun o h => by contradiction
        have made := placeEnd_without (y := y) found gone
        rw [if_pos active, createEntry_eq] at made
        obtain ⟨d', found'', target⟩ := judged_ends (e := ⟨y, (⟨none, none, none, none⟩ : Lanes (Option LanePart)).set n
          (some ⟨some q, none⟩), .provisional, 0, s.cuts.nextOrder⟩)
          (s := { s with cuts := { s.cuts with nextOrder := s.cuts.nextOrder + 1 } }) other found (by rw [Lanes.get_set_same]; rfl)
        rw [← made, found'] at found''
        rw [Option.some.inj found'']
        exact target
      · exact reported.finish (ended entry)
  obtain ⟨x, some_⟩ := Option.ne_none_iff_exists'.mp target
  have taken : endReport n q y s = setEnd n x (placeEnd n q y s) := by
    rw [endReport_eq, found', Option.bind_some, some_]
  obtain ⟨-, ⟨st, reg⟩, -⟩ := setEnd_lane n x (placeEnd n q y s)
  refine ⟨d, ?_, reported, target, ?_⟩
  · rw [taken, setEnd_ctx (placed.expectsOther other), found']
  · rw [taken, reg, some_]

/-! ## The hold TAG_MISMATCH (R55) -/

/-- The hold TAG_MISMATCH stands as it did. -/
def SameTagHold (s t : State) : Prop := t.motion.holds.tagMismatch = s.motion.holds.tagMismatch

theorem SameTagHold.trans {s t u : State} (first : SameTagHold s t) (second : SameTagHold t u) : SameTagHold s u :=
  Eq.trans second first

theorem SameTagHold.same {s t : State} (motion : t.motion = s.motion) : SameTagHold s t := by
  rw [SameTagHold, motion]

theorem HoldSet.tagMismatch_add {r : HoldReason} (other : r ≠ .tagMismatch) (h : HoldSet) :
    (h.add r).tagMismatch = h.tagMismatch := by
  cases r with
  | tagMismatch => exact absurd rfl other
  | _ => rfl

theorem addReason_tagHold {r : HoldReason} (other : r ≠ .tagMismatch) (s : State) : SameTagHold s (addReason r s) := by
  rw [SameTagHold, addReason_motion]
  exact HoldSet.tagMismatch_add other _

theorem enterHolding_tagHold (s : State) : SameTagHold s (enterHolding s) := by
  unfold enterHolding stationIfFailed
  have commanded : SameTagHold s (commandSpeed (queueLine .state (s.onMotion fun m => { m with line := .holding }))).1 := by
    rw [SameTagHold, commandSpeed_motion]
    simp
  split
  · exact commanded.trans (addReason_tagHold (by decide) _)
  · exact commanded

theorem raiseHold_tagHold {r : HoldReason} (other : r ≠ .tagMismatch) (s : State) : SameTagHold s (raiseHold r s) := by
  unfold raiseHold
  split
  · exact .same rfl
  · exact SameTagHold.trans (t := s.onMotion fun m => { m with holds := m.holds.add r }) (HoldSet.tagMismatch_add other _)
      (enterHolding_tagHold _)
  all_goals exact addReason_tagHold other s

theorem lockEntry_tagHold (x : Entry) (s : State) : SameTagHold s (lockEntry x s) := by
  obtain ⟨u, motionU, starves, feeds⟩ := lockEntry_motion x s
  by_cases starved : s.reader = .waiting ∧ ∃ n p, (mergedParts x (mergedInto x (s.par .mergeWin) s.cuts.entries)).get n = some p
      ∧ p.ends ≠ none ∧ ∀ c ∈ s.lists.get n, c.state ≠ .expected
  · have raised := raiseHold_tagHold (r := .planStarved) (by decide) u
    rw [SameTagHold, motionU] at raised
    rw [SameTagHold, starves starved]
    exact raised
  · exact .same (feeds starved)

theorem lockDue_tagHold (k : Nat) (s : State) : SameTagHold s (lockDue k s) := by
  induction k generalizing s with
  | zero => exact .same rfl
  | succ k ih =>
    unfold lockDue
    split
    · exact (lockEntry_tagHold _ s).trans (ih _)
    · exact .same rfl

theorem judgedPlace_tagHold (e : Entry) (s : State) : SameTagHold s (judgeLocks (placeEntry e s)) :=
  (SameTagHold.same (by simp)).trans (lockDue_tagHold _ (placeEntry e s))

theorem startReport_tagHold (n : Lane) (p : Ctx) (m : Int) (first : Bool) (s : State) : SameTagHold s (startReport n p m first s) := by
  unfold startReport
  dsimp only
  split
  · exact (SameTagHold.same rfl).trans (judgedPlace_tagHold _ _)
  · split
    · exact (SameTagHold.same rfl).trans (judgedPlace_tagHold _ _)
    · exact .same (by simp)

theorem endReport_tagHold (n : Lane) (q : Source) (y : Int) (s : State) : SameTagHold s (endReport n q y s) := by
  have placed : SameTagHold s (placeEnd n q y s) := by
    unfold placeEnd
    split
    · split
      · exact (SameTagHold.same rfl).trans (judgedPlace_tagHold _ _)
      · exact .same rfl
    · split
      · exact (SameTagHold.same rfl).trans (judgedPlace_tagHold _ _)
      · exact .same rfl
  rw [endReport_eq]
  split
  · exact placed.trans (.same (by simp))
  · exact placed

end Sys2Proof.Machine
end

section
/-! PROOFS. A mark and its panel before the reports (R52, R54 to R56, R68, R69, R72, R73). -/
namespace Sys2Proof.Machine

/-! ## One context changed -/

theorem ctx?_of_map {n : Lane} {s t : State} {f : Ctx → Ctx} (keeps : ∀ c, (f c).src = c.src)
    (lists : t.lists.get n = (s.lists.get n).map f) (q : Source) : t.ctx? n q = (s.ctx? n q).map f := by
  rw [ctx?_eq, ctx?_eq, lists, find_src_map keeps]

theorem ctx?_onCtx_same {n : Lane} {q : Source} {f : Ctx → Ctx} (keeps : ∀ c, (f c).src = c.src) (s : State) :
    (s.onCtx n q f).ctx? n q = (s.ctx? n q).map f := by
  rw [onCtx_eq, ctx?_of_map (s := s) (f := fun c => if c.src = q then f c else c) (fun c => ?_) (Lanes.get_set_same _ _ _)]
  · cases found : s.ctx? n q with
    | none => rfl
    | some c => exact congrArg some (if_pos (ctx?_src found))
  · split
    · exact keeps c
    · rfl

theorem ctx?_onCtx_ne {n : Lane} {p q : Source} (other : q ≠ p) {f : Ctx → Ctx} (keeps : ∀ c, (f c).src = c.src) (s : State) :
    (s.onCtx n p f).ctx? n q = s.ctx? n q := by
  rw [onCtx_eq, ctx?_of_map (s := s) (f := fun c => if c.src = p then f c else c) (fun c => ?_) (Lanes.get_set_same _ _ _)]
  · cases found : s.ctx? n q with
    | none => rfl
    | some c => exact congrArg some (if_neg (by rw [ctx?_src found]; exact other))
  · split
    · exact keeps c
    · rfl

/-! ## A lane's panels and their END entries -/

/-- The lane's contexts stand in their order, each with its END entry. -/
def SameEnds (n : Lane) (s t : State) : Prop :=
  ∃ f : Ctx → Ctx, t.lists.get n = (s.lists.get n).map f ∧ ∀ c, (f c).src = c.src ∧ (f c).endEntry = c.endEntry

theorem SameEnds.same {n : Lane} {s t : State} (lists : t.lists.get n = s.lists.get n) : SameEnds n s t :=
  ⟨id, by rw [lists, List.map_id], fun _ => ⟨rfl, rfl⟩⟩

theorem SameEnds.trans {n : Lane} {s t u : State} (first : SameEnds n s t) (second : SameEnds n t u) : SameEnds n s u := by
  obtain ⟨f, lists, same⟩ := first
  obtain ⟨g, lists', same'⟩ := second
  exact ⟨g ∘ f, by rw [lists', lists, List.map_map], fun c => ⟨(same' _).1.trans (same c).1, (same' _).2.trans (same c).2⟩⟩

theorem onCtx_sameEnds {n : Lane} {q : Source} {f : Ctx → Ctx} (keeps : ∀ c, (f c).src = c.src ∧ (f c).endEntry = c.endEntry)
    (s : State) : SameEnds n s (s.onCtx n q f) := by
  rw [onCtx_eq]
  refine ⟨_, Lanes.get_set_same _ _ _, fun c => ?_⟩
  split
  · exact keeps c
  · exact ⟨rfl, rfl⟩

theorem ctxAhead_map {f : Ctx → Ctx} (keeps : ∀ c, (f c).src = c.src) (q : Source) (l : List Ctx) :
    ctxAhead q (l.map f) = (ctxAhead q l).map f := by
  induction l with
  | nil => rfl
  | cons a r ih =>
    cases r with
    | nil => rfl
    | cons b r =>
      simp only [List.map_cons, ctxAhead, keeps] at ih ⊢
      split
      · rfl
      · exact ih

theorem SameEnds.sharedEntry {n : Lane} {s t : State} (same : SameEnds n s t) (cuts : t.cuts = s.cuts) (q : Source) :
    t.sharedEntry n q = s.sharedEntry n q := by
  obtain ⟨f, lists, keeps⟩ := same
  have entry : t.entry? = s.entry? := by
    funext o
    simp only [State.entry?, cuts]
  rw [State.sharedEntry, State.sharedEntry, lists, ctxAhead_map (fun c => (keeps c).1), entry]
  cases ctxAhead q (s.lists.get n) with
  | none => rfl
  | some c => simp only [Option.map_some, Option.bind_some, (keeps c).2]

/-! ## The miss count (R68, R69, R72) -/

/-- The registration record after a mark came about. -/
def countedReg (how : How) (limit : Int) (r : LaneReg) : LaneReg := match how with
  | .observed _ => { r with miss := 0, state := .tracking }
  | .missed => { r with miss := min (r.miss + 1) 7, state := if r.state = .tracking ∨ r.state = .coasting then
      (if ((min (r.miss + 1) 7 : Nat) : Int) < limit then .coasting else .lost) else r.state }
  | .synthesised => r

/-- The miss makes the lane LOST (R73). -/
@[reducible] def BecomesLost (how : How) (limit : Int) (r : LaneReg) : Prop :=
  how = .missed ∧ (r.state = .tracking ∨ r.state = .coasting) ∧ limit ≤ ((min (r.miss + 1) 7 : Nat) : Int)


end Sys2Proof.Machine
end

section
/-! PROOFS. What a mark does to its panel before the reports (R54, R55, R56, R68, R69, R72, R73). -/
namespace Sys2Proof.Machine

/-! ## The miss count (R68, R69, R72, R73) -/

/-- What a mark notes in a context of its lane: UNREGISTERED in an ACTIVE one where the lane becomes LOST (R73). -/
def lostCtx (how : How) (limit : Int) (r : LaneReg) (c : Ctx) : Ctx :=
  if BecomesLost how limit r ∧ c.state = .active then { c with notes := { c.notes with unregistered := true } } else c

theorem lostCtx_of_stays {how : How} {limit : Int} {r : LaneReg} (stays : ¬BecomesLost how limit r) : lostCtx how limit r = id := by
  funext c
  exact if_neg fun h => stays h.1

theorem countHow_effect (n : Lane) (m : Int) (how : How) {s : State} (bounded : (s.reg.get n).miss ≤ 7) :
    (countHow n m how s).reg = s.reg.set n (countedReg how (s.par .missLimit) (s.reg.get n))
    ∧ (countHow n m how s).lists = s.lists.set n ((s.lists.get n).map (lostCtx how (s.par .missLimit) (s.reg.get n))) := by
  have unchanged {how : How} (stays : ¬BecomesLost how (s.par .missLimit) (s.reg.get n)) :
      s.lists = s.lists.set n ((s.lists.get n).map (lostCtx how (s.par .missLimit) (s.reg.get n))) := by
    rw [lostCtx_of_stays stays, List.map_id, Lanes.set_get]
  cases how with
  | observed rec => exact ⟨rfl, unchanged fun h => by simp [BecomesLost] at h⟩
  | synthesised => exact ⟨(Lanes.set_get _ _).symm, unchanged fun h => by simp [BecomesLost] at h⟩
  | missed =>
    rw [show countHow n m .missed s = countMiss n m s from rfl]
    by_cases follows : (s.reg.get n).state = .tracking ∨ (s.reg.get n).state = .coasting
    · rw [countMiss_following bounded follows]
      simp only [countedReg, if_pos follows]
      by_cases below : ((min ((s.reg.get n).miss + 1) 7 : Nat) : Int) < s.par .missLimit
      · rw [if_pos below, if_pos below]
        exact ⟨rfl, unchanged fun h => absurd below (not_lt.mpr h.2.2)⟩
      · rw [if_neg below, if_neg below]
        refine ⟨rfl, ?_⟩
        have lost : BecomesLost .missed (s.par .missLimit) (s.reg.get n) := ⟨rfl, follows, not_lt.mp below⟩
        have each : lostCtx .missed (s.par .missLimit) (s.reg.get n)
            = fun c => if c.state = .active then { c with notes := { c.notes with unregistered := true } } else c := by
          funext c
          by_cases active : c.state = .active
          · rw [lostCtx, if_pos ⟨lost, active⟩, if_pos active]
          · rw [lostCtx, if_neg fun h => active h.2, if_neg active]
        rw [each]
        rfl
    · rw [countMiss_other bounded follows]
      simp only [countedReg, if_neg follows]
      exact ⟨rfl, unchanged fun h => follows h.2.1⟩

theorem lostCtx_keeps (how : How) (limit : Int) (r : LaneReg) (c : Ctx) :
    (lostCtx how limit r c).src = c.src ∧ (lostCtx how limit r c).endEntry = c.endEntry
    ∧ (lostCtx how limit r c).endTarget = c.endTarget ∧ (lostCtx how limit r c).state = c.state
    ∧ (lostCtx how limit r c).reasons = c.reasons ∧ (lostCtx how limit r c).notes.unverified = c.notes.unverified
    ∧ (c.notes.unregistered = true → (lostCtx how limit r c).notes.unregistered = true) := by
  unfold lostCtx
  split
  · exact ⟨rfl, rfl, rfl, rfl, rfl, rfl, fun _ => rfl⟩
  · exact ⟨rfl, rfl, rfl, rfl, rfl, rfl, id⟩

theorem ctx?_countHow {n : Lane} (m : Int) (how : How) {s : State} (bounded : (s.reg.get n).miss ≤ 7) (q : Source) :
    (countHow n m how s).ctx? n q = (s.ctx? n q).map (lostCtx how (s.par .missLimit) (s.reg.get n)) :=
  ctx?_of_map (fun c => (lostCtx_keeps _ _ _ c).1) (by rw [(countHow_effect n m how bounded).2, Lanes.get_set_same]) q

theorem countHow_sameEnds {n : Lane} (m : Int) (how : How) {s : State} (bounded : (s.reg.get n).miss ≤ 7) :
    SameEnds n s (countHow n m how s) :=
  ⟨_, by rw [(countHow_effect n m how bounded).2, Lanes.get_set_same], fun c => ⟨(lostCtx_keeps _ _ _ c).1, (lostCtx_keeps _ _ _ c).2.1⟩⟩

/-! ## The effects of a mark that was read (R54 to R56) -/

/-- The record's tag differs from the panel's (R55). -/
@[reducible] def Differs (p : Ctx) (rec : MarkRecord) : Prop := rec.coded = true ∧ p.coded = true ∧ ∃ t, rec.tag = some t ∧ t ≠ p.tag

/-- The reasons a mark gives the context of its panel: TAG in an ACTIVE one, INSPECTION in one EXPECTED or ACTIVE (R55, R56, R86). -/
def markedCtx (p : Ctx) (how : How) (c : Ctx) : Ctx := match how with
  | .observed rec => { c with reasons := { c.reasons with
      tag := c.reasons.tag || (decide (Differs p rec ∧ c.state = .active))
      inspection := c.reasons.inspection || (rec.inspected && decide (c.state = .expected ∨ c.state = .active)) } }
  | .missed | .synthesised => c

theorem markedCtx_keeps (p : Ctx) (how : How) (c : Ctx) :
    (markedCtx p how c).src = c.src ∧ (markedCtx p how c).endEntry = c.endEntry ∧ (markedCtx p how c).endTarget = c.endTarget
    ∧ (markedCtx p how c).state = c.state ∧ (markedCtx p how c).notes = c.notes := by
  cases how <;> exact ⟨rfl, rfl, rfl, rfl, rfl⟩

theorem onCtx_lists_congr {n : Lane} {q : Source} {f : Ctx → Ctx} {s t : State} (lists : t.lists = s.lists) :
    (t.onCtx n q f).lists = (s.onCtx n q f).lists := by
  rw [onCtx_eq, onCtx_eq, lists]

theorem onCtx_lists_comp {n : Lane} {q : Source} {f : Ctx → Ctx} (keeps : ∀ c, (f c).src = c.src) (g : Ctx → Ctx) (s : State) :
    ((s.onCtx n q f).onCtx n q g).lists = (s.onCtx n q (g ∘ f)).lists := by
  rw [onCtx_eq, onCtx_eq, onCtx_eq]
  simp only [Lanes.get_set_same, Lanes.set_set, List.map_map]
  refine congrArg (s.lists.set n) (List.map_congr_left fun c _ => ?_)
  by_cases same : c.src = q
  · simp only [Function.comp_apply, if_pos same, keeps]
  · simp only [Function.comp_apply, if_neg same]

theorem onCtx_lists_id {n : Lane} {q : Source} {f : Ctx → Ctx} (same : ∀ c, f c = c) (s : State) :
    (s.onCtx n q f).lists = s.lists := by
  rw [onCtx_eq]
  simp only [same, ite_self, List.map_id', Lanes.set_get]

/-- What the comparison of the tags gives the panel's context (R55, R86). -/
def taggedCtx (p : Ctx) (rec : MarkRecord) (c : Ctx) : Ctx :=
  { c with reasons := { c.reasons with tag := c.reasons.tag || (decide (Differs p rec ∧ c.state = .active)) } }

theorem compareTag_lists (n : Lane) (p : Ctx) (rec : MarkRecord) (s : State) :
    (compareTag n p rec s).lists = (s.onCtx n p.src (taggedCtx p rec)).lists := by
  by_cases differs : Differs p rec
  · have given : (compareTag n p rec s).lists = (giveTag n p.src s).lists := by
      rw [compareTag_eq, if_pos differs]
      split <;> simp
    have each : taggedCtx p rec = fun c => if c.state = .active then { c with reasons := { c.reasons with tag := true } } else c := by
      funext c
      by_cases active : c.state = .active <;> simp [taggedCtx, differs, active]
    rw [given, each, giveTag]
  · rw [compareTag_eq, if_neg differs, onCtx_lists_id fun c => by simp [taggedCtx, differs]]

theorem markEffects_lists (n : Lane) (p : Ctx) (how : How) (s : State) :
    (markEffects n p how s).lists = (s.onCtx n p.src (markedCtx p how)).lists := by
  cases how with
  | missed => exact (onCtx_lists_id (fun _ => rfl) s).symm
  | synthesised => exact (onCtx_lists_id (fun _ => rfl) s).symm
  | observed rec =>
    let g (c : Ctx) : Ctx := if c.state = .expected ∨ c.state = .active
      then { c with reasons := { c.reasons with inspection := true } } else c
    have tagged := compareTag_lists n p rec s
    by_cases inspected : rec.inspected = true
    · have each : markedCtx p (.observed rec) = g ∘ taggedCtx p rec := by
        funext c
        by_cases either : c.state = .expected ∨ c.state = .active <;>
          simp [markedCtx, g, taggedCtx, inspected, either]
      rw [each, ← onCtx_lists_comp (f := taggedCtx p rec) (fun _ => rfl), ← onCtx_lists_congr (s := s.onCtx n p.src (taggedCtx p rec)) tagged]
      simp only [markEffects, if_pos inspected]
      rfl
    · have each : markedCtx p (.observed rec) = taggedCtx p rec := by
        funext c
        simp [markedCtx, taggedCtx, inspected]
      rw [each, ← tagged]
      simp only [markEffects, if_neg inspected]

theorem ctx?_markEffects_same (n : Lane) (p : Ctx) (how : How) (s : State) :
    (markEffects n p how s).ctx? n p.src = (s.ctx? n p.src).map (markedCtx p how) :=
  (ctx?_of_lists (markEffects_lists n p how s) n p.src).trans (ctx?_onCtx_same (fun c => (markedCtx_keeps p how c).1) s)

theorem ctx?_markEffects_ne {n : Lane} {p : Ctx} {q : Source} (other : q ≠ p.src) (how : How) (s : State) :
    (markEffects n p how s).ctx? n q = s.ctx? n q :=
  (ctx?_of_lists (markEffects_lists n p how s) n q).trans (ctx?_onCtx_ne other (fun c => (markedCtx_keeps p how c).1) s)

theorem markEffects_sameEnds (n : Lane) (p : Ctx) (how : How) (s : State) : SameEnds n s (markEffects n p how s) :=
  (onCtx_sameEnds (fun c => ⟨(markedCtx_keeps p how c).1, (markedCtx_keeps p how c).2.1⟩) s).trans
    (.same (by rw [markEffects_lists]))

theorem markEffects_lists_ne {n k : Lane} (other : k ≠ n) (p : Ctx) (how : How) (s : State) :
    (markEffects n p how s).lists.get k = s.lists.get k := by
  rw [markEffects_lists, onCtx_eq]
  exact Lanes.get_set_ne _ _ _ _ other

/-- Only a tag that differs under TAG_POLICY 1 reaches the line (R55). -/
theorem markEffects_motion {n : Lane} {p : Ctx} {how : How} {s : State}
    (agrees : ∀ rec, how = .observed rec → ¬Differs p rec ∨ s.par .tagPolicy ≠ 1) :
    (markEffects n p how s).motion = s.motion ∧ (markEffects n p how s).station = s.station := by
  cases how with
  | missed => exact ⟨rfl, rfl⟩
  | synthesised => exact ⟨rfl, rfl⟩
  | observed rec =>
    have compared : (compareTag n p rec s).motion = s.motion ∧ (compareTag n p rec s).station = s.station := by
      rw [compareTag_eq]
      by_cases differs : Differs p rec
      · rw [if_pos differs, if_neg ((agrees rec rfl).resolve_left fun h => h differs)]
        simp
      · rw [if_neg differs]
        exact ⟨rfl, rfl⟩
    simp only [markEffects]
    split
    · exact compared
    · exact compared

/-- A tag that differs under TAG_POLICY 1 raises TAG_MISMATCH, which takes a RUNNING line to HOLDING (R55). -/
theorem markEffects_hold {n : Lane} {p : Ctx} {rec : MarkRecord} {s : State} (differs : Differs p rec) (policy : s.par .tagPolicy = 1)
    (busy : s.motion.line ≠ .idle) : (markEffects n p (.observed rec) s).motion.holds.tagMismatch = true
      ∧ (s.motion.line = .running → (markEffects n p (.observed rec) s).motion.line = .holding) := by
  have motion : (markEffects n p (.observed rec) s).motion = (raiseHold .tagMismatch (giveTag n p.src s)).motion := by
    have compared : compareTag n p rec s = raiseHold .tagMismatch (giveTag n p.src s) := by
      rw [compareTag_eq, if_pos differs, if_pos policy]
    simp only [markEffects, compared]
    split <;> rfl
  have same : (giveTag n p.src s).motion = s.motion := by simp
  rw [motion]
  exact ⟨raiseHold_has .tagMismatch (by rw [same]; exact busy), fun run => raiseHold_of_running _ (by rw [same]; exact run)⟩

/-! ## What stands before the reports -/

/-- Before the reports of a mark, the web, the cut queue, the zones, the changeover and the other lanes stand as they did; the line
too, unless TAG_MISMATCH is raised. -/
structure StandsBefore (n : Lane) (p : Ctx) (how : How) (s v : State) : Prop where
  web : v.web = s.web
  params : v.params = s.params
  pins : v.pins = s.pins
  store : v.store = s.store
  reader : v.reader = s.reader
  zones : v.zones = s.zones
  cuts : v.cuts = s.cuts
  beam : v.beam = s.beam
  hand : v.hand = s.hand
  pending : v.pending = s.pending
  reg : v.reg = s.reg.set n (v.reg.get n)
  lists : ∀ k, k ≠ n → v.lists.get k = s.lists.get k
  line : (∀ rec, how = .observed rec → ¬Differs p rec ∨ s.par .tagPolicy ≠ 1) → v.motion = s.motion ∧ v.station = s.station

end Sys2Proof.Machine
end

section
/-! PROOFS. A panel started and a pitch taken, before the reports (R68, R69, R72, R73). -/
namespace Sys2Proof.Machine

/-! ## A panel started -/

/-- The context of a panel that becomes ACTIVE (R68, R73). -/
def startedCtx (lost : Bool) (c : Ctx) : Ctx :=
  { c with state := .active, notes := { c.notes with unregistered := c.notes.unregistered || lost } }

/-- The note UNVERIFIED of the panel started (R52, R54, R72). -/
def verifiedCtx (p : Ctx) (how : How) (c : Ctx) : Ctx :=
  { c with notes := { c.notes with unverified := c.notes.unverified || unverifiedStart p how } }

theorem startedCtx_keeps (lost : Bool) (c : Ctx) :
    (startedCtx lost c).src = c.src ∧ (startedCtx lost c).endEntry = c.endEntry := ⟨rfl, rfl⟩

theorem verifiedCtx_keeps (p : Ctx) (how : How) (c : Ctx) :
    (verifiedCtx p how c).src = c.src ∧ (verifiedCtx p how c).endEntry = c.endEntry := ⟨rfl, rfl⟩

/-- The registration record as the panel is started, before the miss count (R68). -/
def startedReg (q : Source) (m : Int) (how : How) (r : LaneReg) : LaneReg :=
  { r with current := some q, pitch := none, start := none, synth := none, anchor := some ⟨m, 0, how.isObserved, q⟩ }

/-- The panel is current, with the mark as the anchor. -/
def anchoredPanel (n : Lane) (p : Ctx) (m : Int) (how : How) (s : State) : State :=
  (makeCurrent n p.src how s).onReg n fun r => { r with anchor := some ⟨m, 0, how.isObserved, p.src⟩ }

/-- A panel started, before its reports (R68, R69, R72, R73). -/
def begunPanel (n : Lane) (p : Ctx) (m : Int) (how : How) (s : State) : State :=
  markEffects n p how ((countHow n m how (anchoredPanel n p m how s)).onCtx n p.src (verifiedCtx p how))

theorem startPanel_eq (n : Lane) (p : Ctx) (m : Int) (how : How) (first : Bool) (s : State) :
    let t := startReport n p m first (begunPanel n p m how s)
    startPanel n p m how first s = formStart n (formPitch n (endReport n p.src (predict m p.nominal (t.reg.get n).f) t)) := rfl

theorem anchoredPanel_reg (n : Lane) (p : Ctx) (m : Int) (how : How) (s : State) :
    (anchoredPanel n p m how s).reg = s.reg.set n (startedReg p.src m how (s.reg.get n)) := by
  simp only [anchoredPanel, makeCurrent, State.onReg, Lanes.get_set_same, Lanes.set_set]
  rfl

theorem anchoredPanel_par (n : Lane) (p : Ctx) (m : Int) (how : How) (s : State) (a : Param) :
    (anchoredPanel n p m how s).par a = s.par a := rfl

theorem anchoredPanel_lists (n : Lane) (p : Ctx) (m : Int) (how : How) (s : State) :
    (anchoredPanel n p m how s).lists
      = (s.onCtx n p.src (startedCtx ((s.reg.get n).state == .lost && !how.isObserved))).lists := rfl

/-- The miss count of the record with the panel current. -/
theorem lostCtx_started (how how' : How) (limit m : Int) (q : Source) (r : LaneReg) :
    lostCtx how limit (startedReg q m how' r) = lostCtx how limit r := rfl

section
variable {n : Lane} {p : Ctx} (m : Int) (how : How) {s : State} (bounded : (s.reg.get n).miss ≤ 7)
include bounded

theorem anchoredPanel_bounded : ((anchoredPanel n p m how s).reg.get n).miss ≤ 7 := by
  rw [anchoredPanel_reg, Lanes.get_set_same]
  exact bounded

theorem begunPanel_reg :
    (begunPanel n p m how s).reg = s.reg.set n (countedReg how (s.par .missLimit) (startedReg p.src m how (s.reg.get n))) := by
  have counted := (countHow_effect n m how (anchoredPanel_bounded (p := p) m how bounded)).1
  rw [anchoredPanel_reg, Lanes.get_set_same, Lanes.set_set, anchoredPanel_par] at counted
  simpa [begunPanel] using counted

theorem begunPanel_ctx (found : s.ctx? n p.src = some p) :
    (begunPanel n p m how s).ctx? n p.src = some (markedCtx p how (verifiedCtx p how (lostCtx how (s.par .missLimit) (s.reg.get n)
      (startedCtx ((s.reg.get n).state == .lost && !how.isObserved) p)))) := by
  rw [begunPanel, ctx?_markEffects_same, ctx?_onCtx_same (fun c => (verifiedCtx_keeps p how c).1),
    ctx?_countHow m how (anchoredPanel_bounded m how bounded), ctx?_of_lists (anchoredPanel_lists n p m how s),
    ctx?_onCtx_same (fun c => (startedCtx_keeps _ c).1), found, anchoredPanel_reg, Lanes.get_set_same, lostCtx_started]
  rfl

theorem begunPanel_ctx_ne {q : Source} (other : q ≠ p.src) :
    (begunPanel n p m how s).ctx? n q = (s.ctx? n q).map (lostCtx how (s.par .missLimit) (s.reg.get n)) := by
  rw [begunPanel, ctx?_markEffects_ne other, ctx?_onCtx_ne other (fun c => (verifiedCtx_keeps p how c).1),
    ctx?_countHow m how (anchoredPanel_bounded m how bounded), ctx?_of_lists (anchoredPanel_lists n p m how s),
    ctx?_onCtx_ne other (fun c => (startedCtx_keeps _ c).1), anchoredPanel_reg, Lanes.get_set_same, lostCtx_started]
  rfl

theorem begunPanel_sameEnds : SameEnds n s (begunPanel n p m how s) := by
  have anchored : SameEnds n s (anchoredPanel n p m how s) :=
    (onCtx_sameEnds (startedCtx_keeps _) s).trans (.same (by rw [anchoredPanel_lists]))
  exact ((anchored.trans (countHow_sameEnds m how (anchoredPanel_bounded m how bounded))).trans
    (onCtx_sameEnds (verifiedCtx_keeps p how) _)).trans (markEffects_sameEnds n p how _)

theorem begunPanel_stands : StandsBefore n p how s (begunPanel n p m how s) where
  web := by simp [begunPanel, anchoredPanel]
  params := by simp [begunPanel, anchoredPanel]
  pins := by simp [begunPanel, anchoredPanel]
  store := by simp [begunPanel, anchoredPanel]
  reader := by simp [begunPanel, anchoredPanel]
  zones := by simp [begunPanel, anchoredPanel]
  cuts := by simp [begunPanel, anchoredPanel]
  beam := by simp [begunPanel, anchoredPanel]
  hand := by simp [begunPanel, anchoredPanel]
  pending := by simp [begunPanel, anchoredPanel]
  reg := by rw [begunPanel_reg m how bounded, Lanes.get_set_same]
  lists := fun k other => by
    rw [begunPanel, markEffects_lists_ne other, onCtx_eq, Lanes.get_set_ne _ _ _ _ other,
      (countHow_effect n m how (anchoredPanel_bounded m how bounded)).2, Lanes.get_set_ne _ _ _ _ other,
      anchoredPanel_lists, onCtx_eq, Lanes.get_set_ne _ _ _ _ other]
  line := fun agrees => by
    have params : ((countHow n m how (anchoredPanel n p m how s)).onCtx n p.src (verifiedCtx p how)).params = s.params := by
      simp [anchoredPanel]
    obtain ⟨motion, station⟩ := markEffects_motion (n := n) (p := p) (how := how)
      (s := (countHow n m how (anchoredPanel n p m how s)).onCtx n p.src (verifiedCtx p how)) fun rec read => by
        rw [State.par, params]
        exact agrees rec read
    rw [begunPanel, motion, station]
    simp [anchoredPanel]

end

theorem begunPanel_eyes (n : Lane) (p : Ctx) (m : Int) (how : How) (s : State) :
    (begunPanel n p m how s).eyes = s.eyes.set n { s.eyes.get n with startInterval := none } := by
  simp only [begunPanel, markEffects_frame, State.onCtx_frame, countHow_frame]
  rfl

end Sys2Proof.Machine
end

section
/-! PROOFS. A pitch taken, before its report (R69, R72 to R75). -/
namespace Sys2Proof.Machine

/-- The anchor of the lane was read in the panel (R69). -/
def ReadIn (p : Ctx) (r : LaneReg) (a : Anchor) : Prop := r.anchor = some a ∧ a.observed = true ∧ a.panel = p.src

theorem takeSample_reg (n : Lane) (m measured nominal : Int) (s : State) :
    (takeSample n m measured nominal s).reg
      = s.reg.set n { s.reg.get n with f := ((takeSample n m measured nominal s).reg.get n).f } := by
  rw [takeSample_eq]
  simp only [Lanes.get_set_same]

theorem sampleAt_read {n : Lane} {p : Ctx} {m : Int} {rec : MarkRecord} {s : State} {a : Anchor} (read : ReadIn p (s.reg.get n) a) :
    sampleAt n p m (.observed rec) s = takeSample n m (m - a.pos) p.pitch s := by
  obtain ⟨anchor, observed, panel⟩ := read
  unfold sampleAt
  simp only [anchor, observed, panel, and_self, if_true]

theorem sampleAt_other {n : Lane} {p : Ctx} {m : Int} {how : How} {s : State}
    (other : how.isObserved = true → ∀ a, ¬ReadIn p (s.reg.get n) a) : sampleAt n p m how s = s := by
  unfold sampleAt
  split
  · next rec a anchor => exact if_neg fun h => other rfl a ⟨anchor, h⟩
  · rfl

/-- A sample changes F at most. -/
theorem sampleAt_reg (n : Lane) (p : Ctx) (m : Int) (how : How) (s : State) :
    (sampleAt n p m how s).reg = s.reg.set n { s.reg.get n with f := ((sampleAt n p m how s).reg.get n).f } := by
  by_cases read : how.isObserved = true ∧ ∃ a, ReadIn p (s.reg.get n) a
  · obtain ⟨observed, a, read⟩ := read
    cases how with
    | observed rec =>
      rw [sampleAt_read read]
      exact takeSample_reg n m _ _ s
    | missed => contradiction
    | synthesised => contradiction
  · rw [sampleAt_other fun observed a h => read ⟨observed, a, h⟩, Lanes.set_get]

/-- The record of a lane at a pitch, before the miss count (R69). -/
def pitchedReg (p : Ctx) (k m : Int) (how : How) (f : Int) (r : LaneReg) : LaneReg :=
  { r with f := f, anchor := some ⟨m, k * p.pitch, how.isObserved, p.src⟩ }

/-- The sample is taken, and the mark is the anchor. -/
def anchoredPitch (n : Lane) (p : Ctx) (k m : Int) (how : How) (s : State) : State :=
  (sampleAt n p m how s).onReg n fun r => { r with anchor := some ⟨m, k * p.pitch, how.isObserved, p.src⟩ }

/-- A pitch taken, before its report (R69, R72). -/
def begunPitch (n : Lane) (p : Ctx) (k m : Int) (how : How) (s : State) : State :=
  markEffects n p how (countHow n m how (anchoredPitch n p k m how s))

theorem takePitch_eq (n : Lane) (p : Ctx) (k m : Int) (how : How) (s : State) :
    let v := begunPitch n p k m how s
    takePitch n p k m how s = formPitch n (endReport n p.src (predict m (p.nominal - k * p.pitch) (v.reg.get n).f) v) := rfl

theorem anchoredPitch_reg (n : Lane) (p : Ctx) (k m : Int) (how : How) (s : State) :
    (anchoredPitch n p k m how s).reg
      = s.reg.set n (pitchedReg p k m how ((sampleAt n p m how s).reg.get n).f (s.reg.get n)) := by
  rw [anchoredPitch, State.onReg]
  dsimp only
  rw [sampleAt_reg n p m how s]
  simp only [Lanes.get_set_same, Lanes.set_set]
  rfl

theorem anchoredPitch_lists (n : Lane) (p : Ctx) (k m : Int) (how : How) (s : State) :
    (anchoredPitch n p k m how s).lists = s.lists := by
  simp [anchoredPitch]

theorem anchoredPitch_par (n : Lane) (p : Ctx) (k m : Int) (how : How) (s : State) (a : Param) :
    (anchoredPitch n p k m how s).par a = s.par a := by
  simp [State.par, anchoredPitch]

theorem lostCtx_pitched (how how' : How) (limit k m f : Int) (p : Ctx) (r : LaneReg) :
    lostCtx how limit (pitchedReg p k m how' f r) = lostCtx how limit r := rfl

section
variable {n : Lane} {p : Ctx} (k m : Int) (how : How) {s : State} (bounded : (s.reg.get n).miss ≤ 7)
include bounded

theorem anchoredPitch_bounded : ((anchoredPitch n p k m how s).reg.get n).miss ≤ 7 := by
  rw [anchoredPitch_reg, Lanes.get_set_same]
  exact bounded

theorem begunPitch_reg : (begunPitch n p k m how s).reg = s.reg.set n (countedReg how (s.par .missLimit)
    (pitchedReg p k m how ((sampleAt n p m how s).reg.get n).f (s.reg.get n))) := by
  have counted := (countHow_effect n m how (anchoredPitch_bounded (p := p) k m how bounded)).1
  rw [anchoredPitch_reg, Lanes.get_set_same, Lanes.set_set, anchoredPitch_par] at counted
  simpa [begunPitch] using counted

theorem begunPitch_ctx (found : s.ctx? n p.src = some p) : (begunPitch n p k m how s).ctx? n p.src
    = some (markedCtx p how (lostCtx how (s.par .missLimit) (s.reg.get n) p)) := by
  rw [begunPitch, ctx?_markEffects_same, ctx?_countHow m how (anchoredPitch_bounded k m how bounded),
    ctx?_of_lists (anchoredPitch_lists n p k m how s), found, anchoredPitch_reg, Lanes.get_set_same, lostCtx_pitched, anchoredPitch_par]
  rfl

theorem begunPitch_ctx_ne {q : Source} (other : q ≠ p.src) :
    (begunPitch n p k m how s).ctx? n q = (s.ctx? n q).map (lostCtx how (s.par .missLimit) (s.reg.get n)) := by
  rw [begunPitch, ctx?_markEffects_ne other, ctx?_countHow m how (anchoredPitch_bounded k m how bounded),
    ctx?_of_lists (anchoredPitch_lists n p k m how s), anchoredPitch_reg, Lanes.get_set_same, lostCtx_pitched, anchoredPitch_par]

theorem begunPitch_stands : StandsBefore n p how s (begunPitch n p k m how s) where
  web := by simp [begunPitch, anchoredPitch]
  params := by simp [begunPitch, anchoredPitch]
  pins := by simp [begunPitch, anchoredPitch]
  store := by simp [begunPitch, anchoredPitch]
  reader := by simp [begunPitch, anchoredPitch]
  zones := by simp [begunPitch, anchoredPitch]
  cuts := by simp [begunPitch, anchoredPitch]
  beam := by simp [begunPitch, anchoredPitch]
  hand := by simp [begunPitch, anchoredPitch]
  pending := by simp [begunPitch, anchoredPitch]
  reg := by rw [begunPitch_reg k m how bounded, Lanes.get_set_same]
  lists := fun l other => by
    rw [begunPitch, markEffects_lists_ne other, (countHow_effect n m how (anchoredPitch_bounded k m how bounded)).2,
      Lanes.get_set_ne _ _ _ _ other, anchoredPitch_lists]
  line := fun agrees => by
    have params : (countHow n m how (anchoredPitch n p k m how s)).params = s.params := by simp [anchoredPitch]
    obtain ⟨motion, station⟩ := markEffects_motion (n := n) (p := p) (how := how)
      (s := countHow n m how (anchoredPitch n p k m how s)) fun rec read => by
        rw [State.par, params]
        exact agrees rec read
    rw [begunPitch, motion, station]
    simp [anchoredPitch]

end

theorem begunPitch_eyes (n : Lane) (p : Ctx) (k m : Int) (how : How) (s : State) : (begunPitch n p k m how s).eyes = s.eyes := by
  simp [begunPitch, anchoredPitch]

/-- The panels of the lane but the one marked: a miss alone concerns them (R73). -/
theorem map_lostCtx {n : Lane} {m : Int} {how : How} {s : State} (bounded : (s.reg.get n).miss ≤ 7) (q : Source) :
    (s.ctx? n q).map (lostCtx how (s.par .missLimit) (s.reg.get n))
      = if how = .missed then (countMiss n m s).ctx? n q else s.ctx? n q := by
  by_cases missed : how = .missed
  · rw [if_pos missed, missed]
    exact (ctx?_countHow m .missed bounded q).symm
  · rw [if_neg missed, lostCtx_of_stays fun h => missed h.1, Option.map_id, id_eq]

/-! ## The hold TAG_MISMATCH through the reports (R55) -/

theorem Raises.tagHold {s t : State} (raised : Raises s t) (has : s.motion.holds.tagMismatch = true) :
    t.motion.holds.tagMismatch = true := raised.holds .tagMismatch has

/-- The hold raised by a mark lasts through the reports. -/
theorem Raises.tagRaised {v u : State} (raised : Raises v u) {running : Prop}
    (held : v.motion.holds.tagMismatch = true ∧ (running → v.motion.line = .holding)) :
    u.motion.holds.tagMismatch = true ∧ (running → u.motion.line = .holding) := by
  refine ⟨raised.tagHold held.1, fun run => ?_⟩
  rw [raised.line_of_not_running (by rw [held.2 run]; decide), held.2 run]

end Sys2Proof.Machine
end

section
/-! PROOFS. Accepted marks move panels: O13 (R52, R54 to R56, R62, R67 to R70, R72, R73, R77). -/
namespace Sys2Proof.Machine

/-! ## Acceptance (R67, R70) -/

/-- The record is eligible for the start window x (R67). -/
theorem startEligible_iff {n : Lane} {rec : MarkRecord} {s : State} {x : StartExpect} (start : (s.reg.get n).start = some x)
    (follows : following (s.reg.get n).state = true) : s.startEligible n rec = true ↔ rec.kind ≠ .pitch
      ∧ |x.x - rec.m| ≤ (if (s.reg.get n).state = .lost then s.par .searchWin else s.par .markWin)
      ∧ ∀ p, s.ctx? n x.panel = some p → p.synth = false := by
  rw [State.startEligible, Bool.and_eq_true, inStartWindow_iff start follows]
  refine and_congr_left fun _ => ?_
  cases rec.kind <;> decide

theorem pitchEligible_iff {n : Lane} {rec : MarkRecord} {s : State} {y : PitchExpect} (pitch : (s.reg.get n).pitch = some y)
    (follows : following (s.reg.get n).state = true) : s.pitchEligible n rec = true ↔ rec.kind ≠ .start
      ∧ |y.x - rec.m| ≤ s.par .markWin ∧ (s.reg.get n).state ≠ .lost
      ∧ ∀ q p, (s.reg.get n).current = some q → s.ctx? n q = some p → p.synth = false := by
  rw [State.pitchEligible, Bool.and_eq_true, inPitchWindow_iff pitch follows]
  refine and_congr_left fun _ => ?_
  cases rec.kind <;> decide

/-- A record eligible for a window has that window formed. -/
theorem formed_of_startEligible {n : Lane} {rec : MarkRecord} {s : State} (eligible : s.startEligible n rec = true) :
    ∃ x, (s.reg.get n).start = some x := by
  cases start : (s.reg.get n).start with
  | none => simp [State.startEligible, State.inStartWindow, start] at eligible
  | some x => exact ⟨x, rfl⟩

theorem formed_of_pitchEligible {n : Lane} {rec : MarkRecord} {s : State} (eligible : s.pitchEligible n rec = true) :
    ∃ y, (s.reg.get n).pitch = some y := by
  cases pitch : (s.reg.get n).pitch with
  | none => simp [State.pitchEligible, State.inPitchWindow, State.pitchWindow, pitch] at eligible
  | some y => exact ⟨y, rfl⟩

theorem startNearer_iff (x : StartExpect) (y : PitchExpect) (m : Int) : startNearer x y m = true ↔ |x.x - m| ≤ |y.x - m| := by
  simp only [startNearer, decide_eq_true_iff, distance_eq_abs]

/-- The record goes to the start window: it is eligible for it, and the pitch window, where it is too, is no nearer. -/
theorem intoStart_iff {n : Lane} {rec : MarkRecord} {s : State} : s.intoStart n rec = true ↔ s.startEligible n rec = true
    ∧ ∀ x y, (s.reg.get n).start = some x → (s.reg.get n).pitch = some y → s.pitchEligible n rec = true →
      |x.x - rec.m| ≤ |y.x - rec.m| := by
  rw [State.intoStart, Bool.and_eq_true]
  refine and_congr_right fun eligible => ?_
  obtain ⟨x, start⟩ := formed_of_startEligible eligible
  by_cases other : s.pitchEligible n rec = true
  · obtain ⟨y, pitch⟩ := formed_of_pitchEligible other
    simp only [start, pitch, other, Bool.not_true, Bool.false_or, startNearer_iff, Option.some.injEq, forall_const]
    exact ⟨fun near x' y' hx hy => by rw [← hx, ← hy]; exact near, fun near => near x y rfl rfl⟩
  · simp only [Bool.eq_false_iff.mpr other, Bool.not_false, Bool.true_or, Bool.false_eq_true, false_implies, implies_true]

theorem placeMark_start {n : Lane} {rec : MarkRecord} {s : State} {x : StartExpect} {p : Ctx}
    (follows : following (s.reg.get n).state = true) (into : s.intoStart n rec = true) (start : (s.reg.get n).start = some x)
    (found : s.ctx? n x.panel = some p) : placeMark n rec s = startPanel n p rec.m (.observed rec) false s := by
  rw [placeMark_following follows, placeFollowing, if_pos into, start, Option.bind_some, found]

theorem placeMark_pitch {n : Lane} {rec : MarkRecord} {s : State} {y : PitchExpect} {q : Source} {p : Ctx}
    (follows : following (s.reg.get n).state = true) (into : s.intoStart n rec ≠ true) (eligible : s.pitchEligible n rec = true)
    (pitch : (s.reg.get n).pitch = some y) (current : (s.reg.get n).current = some q) (found : s.ctx? n q = some p) :
    placeMark n rec s = takePitch n p y.k rec.m (.observed rec) s := by
  rw [placeMark_following follows, placeFollowing, if_neg into, if_pos eligible, pitch, current, Option.bind_some, found]

theorem placeMark_seek {n : Lane} {rec : MarkRecord} {s : State} {p : Ctx} (seeking : (s.reg.get n).state = .seeking)
    (head : s.headExpected n = some p) (printed : p.synth = false) (kind : rec.kind = .start) :
    placeMark n rec s = startPanel n p rec.m (.observed rec) true s := by
  rw [placeMark_seeking seeking, placeSeeking, head]
  exact if_pos ⟨kind, printed⟩

/-! ## The panel as the reports leave it -/

theorem Reported.fields {c d : Ctx} (reported : Reported c d) : d.state = c.state ∧ d.notes.unverified = c.notes.unverified
    ∧ d.notes.unregistered = c.notes.unregistered ∧ d.reasons.tag = c.reasons.tag ∧ d.reasons.inspection = c.reasons.inspection := by
  rw [reported.same]
  exact ⟨rfl, rfl, rfl, rfl, rfl⟩

/-- Reports leave registration but for E and the start expectation, and form no start expectation (R64). -/
theorem ReportedLane.unformed {n : Lane} {s t : State} (reported : ReportedLane n s t) (none_ : (s.reg.get n).start = none) :
    (t.reg.get n).start = none ∧ ∃ e, t.reg.get n = { s.reg.get n with lastEnd := e } := by
  have gone : (t.reg.get n).start = none := by
    cases start : (t.reg.get n).start with
    | none => rfl
    | some x =>
      obtain ⟨y, some_, -⟩ := reported.panel x start
      rw [none_] at some_
      contradiction
  obtain ⟨e, x, reg⟩ := reported.reg
  have same : x = none := by
    rw [reg] at gone
    exact gone
  exact ⟨gone, e, by rw [reg, same, ← none_]⟩

/-- The two reports of a panel started. -/
theorem startedReports {n : Lane} {p c : Ctx} {m : Int} {first : Bool} {v : State} (fresh : (v.reg.get n).start = none)
    (found : v.ctx? n p.src = some c) (active : c.state = .active) (unended : c.endEntry = none)
    (parts : ∀ e, v.sharedEntry n p.src = some e → e.parts.get n ≠ none) (y : Int) :
    let u := endReport n p.src y (startReport n p m first v)
    ∃ d, u.ctx? n p.src = some d ∧ Reported c d ∧ d.startTarget ≠ none ∧ d.endTarget ≠ none ∧ (u.reg.get n).lastEnd = d.endTarget
      ∧ ReportedLane n v u ∧ Raises v u ∧ SameTagHold v u := by
  intro u
  have other : ExpectsOther n p.src v := fun x start => by
    rw [fresh] at start
    contradiction
  have started := startReport_reported n p m first n v
  obtain ⟨b, found', reported, start⟩ := startReport_target (m := m) (first := first) other found parts
  obtain ⟨state, -⟩ := reported.fields
  obtain ⟨d, found'', reported', finish, last⟩ := endReport_target (y := y) (started.expectsOther other) found'
    (.inr ⟨state.trans active, reported.ended fun h => absurd unended h⟩)
  exact ⟨d, found'', reported.trans reported', reported'.start start, finish, last,
    started.trans (endReport_reported n p.src y n _), (startReport_raises n p m first v).trans (endReport_raises n p.src y _),
    (startReport_tagHold n p m first v).trans (endReport_tagHold n p.src y _)⟩

/-- What stands before the reports, as O13 lists it. -/
theorem StandsBefore.all {n : Lane} {p : Ctx} {how : How} {s v : State} (stands : StandsBefore n p how s v) :
    v.web = s.web ∧ v.params = s.params ∧ v.pins = s.pins ∧ v.store = s.store ∧ v.reader = s.reader ∧ v.zones = s.zones
    ∧ v.cuts = s.cuts ∧ v.beam = s.beam ∧ v.hand = s.hand ∧ v.pending = s.pending ∧ v.reg = s.reg.set n (v.reg.get n)
    ∧ (∀ k, k ≠ n → v.lists.get k = s.lists.get k)
    ∧ ((∀ rec, how = .observed rec → ¬Differs p rec ∨ s.par .tagPolicy ≠ 1) → v.motion = s.motion ∧ v.station = s.station) := by
  obtain ⟨web, params, pins, store, reader, zones, cuts, beam, hand, pending, reg, lists, line⟩ := stands
  exact ⟨web, params, pins, store, reader, zones, cuts, beam, hand, pending, reg, lists, line⟩

/-- The hold TAG_MISMATCH after the reports of a mark that was read (R55). -/
theorem markedHold {n : Lane} {p : Ctx} {rec : MarkRecord} {s w u : State} (motion : w.motion = s.motion) (params : w.params = s.params)
    (raised : Raises (markEffects n p (.observed rec) w) u) (same : SameTagHold (markEffects n p (.observed rec) w) u) :
    (Differs p rec → s.par .tagPolicy = 1 → s.motion.line ≠ .idle → u.motion.holds.tagMismatch = true
        ∧ (s.motion.line = .running → u.motion.line = .holding))
      ∧ (¬Differs p rec ∨ s.par .tagPolicy ≠ 1 → u.motion.holds.tagMismatch = s.motion.holds.tagMismatch) := by
  have par : w.par .tagPolicy = s.par .tagPolicy := by rw [State.par, params, ← State.par]
  rw [← motion, ← par]
  refine ⟨fun differs policy busy => raised.tagRaised (markEffects_hold differs policy busy), fun agrees => ?_⟩
  rw [← (markEffects_motion (n := n) (s := w) (how := .observed rec) fun _ read => (How.observed.inj read) ▸ agrees).1]
  exact same

end Sys2Proof.Machine
end

section
/-! PROOFS. O13 settled. -/
namespace Sys2Proof.Machine

/-! ## The context of the marked panel before its reports -/

/-- The context of a panel started (R52, R54 to R56, R68, R72, R73). -/
def begunCtx (p : Ctx) (how : How) (limit : Int) (r : LaneReg) : Ctx :=
  markedCtx p how (verifiedCtx p how (lostCtx how limit r (startedCtx (r.state == .lost && !how.isObserved) p)))

/-- The context of a panel whose pitch is taken (R55, R56, R73). -/
def pitchedCtx (p : Ctx) (how : How) (limit : Int) (r : LaneReg) : Ctx := markedCtx p how (lostCtx how limit r p)

section
variable (p : Ctx) (how : How) (limit : Int) (r : LaneReg)

theorem begunCtx_state : (begunCtx p how limit r).state = .active :=
  (markedCtx_keeps p how _).2.2.2.1.trans (lostCtx_keeps how limit r _).2.2.2.1

theorem begunCtx_endEntry : (begunCtx p how limit r).endEntry = p.endEntry :=
  (markedCtx_keeps p how _).2.1.trans (lostCtx_keeps how limit r _).2.1

theorem begunCtx_unverified : (begunCtx p how limit r).notes.unverified = (p.notes.unverified || unverifiedStart p how) := by
  have lost := (lostCtx_keeps how limit r (startedCtx (r.state == .lost && !how.isObserved) p)).2.2.2.2.2.1
  rw [begunCtx, (markedCtx_keeps p how _).2.2.2.2]
  exact congrArg (· || unverifiedStart p how) lost

/-- A panel not read in a LOST lane is UNREGISTERED (R73). -/
theorem begunCtx_unregistered (unread : how.isObserved = false) (lost : r.state = .lost) :
    (begunCtx p how limit r).notes.unregistered = true := by
  rw [begunCtx, (markedCtx_keeps p how _).2.2.2.2]
  exact (lostCtx_keeps how limit r _).2.2.2.2.2.2 (by simp [startedCtx, lost, unread])

theorem begunCtx_reasons (rec : MarkRecord) :
    ((begunCtx p (.observed rec) limit r).reasons.tag = true ↔ p.reasons.tag = true ∨ Differs p rec)
    ∧ (begunCtx p (.observed rec) limit r).reasons.inspection = (p.reasons.inspection || rec.inspected) := by
  have stays : lostCtx (.observed rec) limit r = id := lostCtx_of_stays fun h => by simp [BecomesLost] at h
  rw [begunCtx, stays]
  simp [markedCtx, verifiedCtx, startedCtx]

theorem pitchedCtx_endTarget : (pitchedCtx p how limit r).endTarget = p.endTarget :=
  (markedCtx_keeps p how _).2.2.1.trans (lostCtx_keeps how limit r _).2.2.1

theorem pitchedCtx_reasons (rec : MarkRecord) :
    ((pitchedCtx p (.observed rec) limit r).reasons.tag = true ↔ p.reasons.tag = true ∨ Differs p rec ∧ p.state = .active)
    ∧ ((pitchedCtx p (.observed rec) limit r).reasons.inspection = true ↔
      p.reasons.inspection = true ∨ rec.inspected = true ∧ (p.state = .expected ∨ p.state = .active)) := by
  have stays : lostCtx (.observed rec) limit r = id := lostCtx_of_stays fun h => by simp [BecomesLost] at h
  rw [pitchedCtx, stays]
  simp [markedCtx]

end

/-- Settles O13: accepted marks move panels. -/
theorem acceptedMarksMovePanels : Obligations.AcceptedMarksMovePanels := by
  refine ⟨fun n rec s => ⟨fun follows => ?_, fun p seeking head printed kind => placeMark_seek seeking head printed kind⟩,
    fun n p m how first s found unended parts bounded => ?_, fun n p k m how s found ended other bounded => ?_⟩
  · have following_ := (following_iff _).mpr follows
    refine ⟨fun x p openStart found nearest => ?_, fun y q p openPitch current found nearest => ?_⟩
    · obtain ⟨start, printed, kind, near⟩ := openStart
      refine placeMark_start following_ (intoStart_iff.mpr ⟨(startEligible_iff start following_).mpr ⟨kind, near, printed⟩,
        fun x' y start' pitch eligible => ?_⟩) start found
      obtain ⟨kind', near', state, synth⟩ := (pitchEligible_iff pitch following_).mp eligible
      rw [← Option.some.inj (start.symm.trans start')]
      exact nearest y ⟨state, pitch, synth, kind', near'⟩
    · obtain ⟨state, pitch, synth, kind, near⟩ := openPitch
      have eligible := (pitchEligible_iff pitch following_).mpr ⟨kind, near, state, synth⟩
      refine placeMark_pitch following_ (fun into => ?_) eligible pitch current found
      obtain ⟨eligible', nearer⟩ := intoStart_iff.mp into
      obtain ⟨x, start⟩ := formed_of_startEligible eligible'
      obtain ⟨kind', near', printed⟩ := (startEligible_iff start following_).mp eligible'
      exact absurd (nearer x y start pitch eligible) (not_le.mpr (nearest x ⟨start, printed, kind', near'⟩))
  · intro r
    let v := begunPanel n p m how s
    have stands := begunPanel_stands (p := p) m how bounded
    have reg : v.reg.get n = countedReg how (s.par .missLimit) (startedReg p.src m how r) := by
      rw [begunPanel_reg m how bounded, Lanes.get_set_same]
    have fresh : (v.reg.get n).start = none := by
      rw [reg]
      cases how <;> rfl
    have f : (v.reg.get n).f = r.f := by
      rw [reg]
      cases how <;> rfl
    obtain ⟨e', x', reg'⟩ := (startReport_reported n p m first n v).reg
    let u := endReport n p.src (predict m p.nominal r.f) (startReport n p m first v)
    obtain ⟨c, found', reported, start, finish, last, lane, raised, tagHold⟩ := startedReports (m := m) (first := first) fresh
      (begunPanel_ctx m how bounded found) (begunCtx_state p how _ r)
      ((begunCtx_endEntry p how _ r).trans unended)
      (fun e shared => parts e (by
        rw [← (begunPanel_sameEnds m how bounded).sharedEntry stands.cuts p.src]
        exact shared)) (predict m p.nominal r.f)
    obtain ⟨state, unverified, unregistered, tag, inspection⟩ := reported.fields
    obtain ⟨startNone, e, regU⟩ := lane.unformed fresh
    have whole : startPanel n p m how first s = formStart n (formPitch n u) := by
      rw [startPanel_eq, show ((startReport n p m first v).reg.get n).f = r.f by rw [reg', ← f]]
    refine ⟨v, u, c, whole, ?_, stands.all, begunPanel_eyes n p m how s, fun q other => ?_, found', ?_, start, finish, ?_, ?_, ?_,
      last, ?_, startNone, ?_, fun rec read => ?_, fun missed => ?_, fun synthesised => ?_⟩
    · rfl
    · rw [begunPanel_ctx_ne m how bounded other]
      exact map_lostCtx bounded q
    · exact state.trans (begunCtx_state p how _ r)
    · rw [regU, reg]
      cases how <;> rfl
    · rw [regU, reg]
      cases how <;> rfl
    · rw [regU, f]
    · rw [regU, reg]
      cases how <;> rfl
    · rw [regU, reg]
      cases how <;> rfl
    · subst read
      refine ⟨by rw [regU, reg]; rfl, by rw [regU, reg]; rfl, ?_, ?_, ?_, markedHold ?_ ?_ raised tagHold⟩
      · exact (unverified.trans (begunCtx_unverified p _ _ r)).trans (Bool.or_assoc _ _ _).symm
      · rw [tag]
        exact (begunCtx_reasons p _ r rec).1
      · exact inspection.trans (begunCtx_reasons p _ r rec).2
      · simp [anchoredPanel]
      · simp [anchoredPanel]
    · subst missed
      refine ⟨by rw [regU, reg]; rfl, by rw [regU, reg]; rfl, ?_, fun lost => ?_⟩
      · exact unverified.trans (begunCtx_unverified p _ _ r)
      · exact unregistered.trans (begunCtx_unregistered p _ _ r rfl lost)
    · subst synthesised
      refine ⟨by rw [regU, reg]; rfl, by rw [regU, reg]; rfl, fun lost => ?_⟩
      exact unregistered.trans (begunCtx_unregistered p _ _ r rfl lost)
  · intro r
    let v := begunPitch n p k m how s
    have stands := begunPitch_stands (p := p) k m how bounded
    have reg : v.reg.get n = countedReg how (s.par .missLimit) (pitchedReg p k m how ((sampleAt n p m how s).reg.get n).f r) := by
      rw [begunPitch_reg k m how bounded, Lanes.get_set_same]
    have expects : ExpectsOther n p.src v := fun x start => other x (by
      rw [reg] at start
      cases how <;> exact start)
    let u := endReport n p.src (predict m (p.nominal - k * p.pitch) (v.reg.get n).f) v
    obtain ⟨c, found', reported, finish, last⟩ := endReport_target (y := predict m (p.nominal - k * p.pitch) (v.reg.get n).f) expects
      (begunPitch_ctx k m how bounded found) (.inl fun gone => ended ((pitchedCtx_endTarget p how _ r).symm.trans gone))
    obtain ⟨state, unverified, unregistered, tag, inspection⟩ := reported.fields
    obtain ⟨e, x, regU⟩ := (endReport_reported n p.src (predict m (p.nominal - k * p.pitch) (v.reg.get n).f) n v).reg
    have f : (u.reg.get n).f = ((sampleAt n p m how s).reg.get n).f := by
      rw [regU, reg]
      cases how <;> rfl
    refine ⟨v, u, c, takePitch_eq n p k m how s, rfl, by rw [regU], stands.all, begunPitch_eyes n p k m how s, fun q other => ?_,
      found', finish, ?_, ?_, last, fun rec read => ?_, fun missed => ?_, fun synthesised => ?_⟩
    · rw [begunPitch_ctx_ne k m how bounded other]
      exact map_lostCtx bounded q
    · rw [regU, reg]
      cases how <;> rfl
    · rw [regU, reg]
      cases how <;> rfl
    · subst read
      refine ⟨by rw [regU, reg]; rfl, by rw [regU, reg]; rfl, fun a anchor observed panel => ?_, fun none_ => ?_, ?_, ?_,
        markedHold ?_ ?_ (endReport_raises n p.src _ v) (endReport_tagHold n p.src _ v)⟩
      · rw [f, sampleAt_read ⟨anchor, observed, panel⟩]
      · rw [f, sampleAt_other fun _ a read => ?_]
        obtain ⟨anchor, observed, panel⟩ := read
        exact (none_ a anchor).elim (fun unread => by rw [unread] at observed; contradiction) fun away => away panel
      · rw [tag]
        exact (pitchedCtx_reasons p _ r rec).1
      · rw [inspection]
        exact (pitchedCtx_reasons p _ r rec).2
      · simp [anchoredPitch]
      · simp [anchoredPitch]
    · subst missed
      refine ⟨?_, by rw [regU, reg]; rfl, by rw [regU, reg]; rfl⟩
      rw [f, sampleAt_other fun read => by contradiction]
    · subst synthesised
      refine ⟨?_, by rw [regU, reg]; rfl, by rw [regU, reg]; rfl⟩
      rw [f, sampleAt_other fun read => by contradiction]

end Sys2Proof.Machine
end

section
/-! PROOFS. The judgement of the content and the speed it commands (R145, R146, R149, R157, R165). -/
namespace Sys2Proof.Machine

/-! ## The commanded speed with its actions (R146, R157) -/

/-- The nip has to close before the speed is commanded (R146). -/
@[reducible] def ClosesNip (s : State) : Prop := s.wantedSpeed ≠ 0 ∧ s.wantedSpeed ≠ s.motion.speed ∧ s.motion.nip = .opened

/-- The actions that a commanded speed worked out afresh raises (R146). -/
def speedActions (s : State) : List Action :=
  (if ClosesNip s then [.nip .closed] else []) ++ if s.wantedSpeed ≠ s.motion.speed then [.speed s.wantedSpeed] else []

theorem pushAction_take {a : Action} {s : State} (bounded : s.station.actions.length ≤ 16) :
    pushAction a s = ({ s with station := { s.station with actions := (s.station.actions ++ [a]).take 16 } },
      decide (16 < s.station.actions.length + 1)) := by
  by_cases room : s.station.actions.length < 16
  · rw [pushAction_room room, List.take_of_length_le (by simp only [List.length_append, List.length_singleton]; omega)]
    simp only [decide_eq_false (show ¬16 < s.station.actions.length + 1 by omega)]
  · have full : s.station.actions.length = 16 := by omega
    rw [pushAction_full (by omega), List.take_left' full]
    simp only [full]
    rfl

theorem take_take_append {α : Type} (k : Nat) (a b : List α) : (a.take k ++ b).take k = (a ++ b).take k := by
  rw [List.take_append, List.take_append, List.take_take, Nat.min_self, List.length_take]
  by_cases short : a.length ≤ k
  · rw [Nat.min_eq_right short]
  · rw [Nat.min_eq_left (by omega), Nat.sub_self, Nat.sub_eq_zero_of_le (by omega)]

/-- The commanded speed worked out afresh, with as many of its actions as the list has room for. -/
theorem commandSpeed_eq {s : State} (bounded : s.station.actions.length ≤ 16) : commandSpeed s = ({ s with
    motion := { s.motion with speed := s.wantedSpeed, nip := if ClosesNip s then .closed else s.motion.nip }
    station := { s.station with actions := (s.station.actions ++ speedActions s).take 16 } },
    decide (16 < s.station.actions.length + (speedActions s).length)) := by
  unfold commandSpeed
  by_cases same : s.wantedSpeed = s.motion.speed
  · have stays : ¬ClosesNip s := fun h => h.2.1 same
    have raised : speedActions s = [] := by simp [speedActions, stays, same]
    rw [if_pos same, raised, List.append_nil, List.take_of_length_le bounded, if_neg stays, same]
    simp only [List.length_nil, Nat.add_zero, decide_eq_false (Nat.not_lt.mpr bounded)]
  · rw [if_neg same]
    by_cases closes : s.wantedSpeed ≠ 0 ∧ s.motion.nip = .opened
    · have closing : ClosesNip s := ⟨closes.1, same, closes.2⟩
      have raised : speedActions s = [.nip .closed, .speed s.wantedSpeed] := by
        rw [speedActions, if_pos closing, if_pos same]
        rfl
      have nip := pushAction_take (a := .nip .closed) (s := s.onMotion fun m => { m with nip := .closed }) bounded
      rw [if_pos closes, nip]
      dsimp only
      rw [pushAction_take (by exact List.length_take_le _ _), raised, if_pos closing]
      refine Prod.ext (congrArg (fun l => ({ s with
        motion := { s.motion with speed := s.wantedSpeed, nip := .closed }
        station := { s.station with actions := l } } : State)) ?_) ?_
      · exact (take_take_append 16 _ _).trans (by rw [List.append_assoc]; rfl)
      · rw [Bool.eq_iff_iff]
        simp only [State.onMotion, List.length_take, List.length_append, List.length_cons, List.length_nil,
          Bool.or_eq_true, decide_eq_true_eq]
        refine (or_congr_left decide_eq_true_iff).trans ?_
        omega
    · have stays : ¬ClosesNip s := fun h => closes ⟨h.1, h.2.2⟩
      have raised : speedActions s = [.speed s.wantedSpeed] := by
        rw [speedActions, if_neg stays, if_pos same]
        rfl
      rw [if_neg closes]
      dsimp only
      rw [pushAction_take (by exact bounded), raised, if_neg stays]
      rfl

/-! ## The failure of an action for want of room (R165) -/

/-- With 16 actions waiting a hold reason leaves the station link as it is. -/
theorem raiseHold_station_full (r : HoldReason) {s : State} (full : 16 ≤ s.station.actions.length) :
    (raiseHold r s).station = s.station := by
  unfold raiseHold
  split
  · rfl
  · by_cases stands : s.motion.speed = 0
    · rw [enterHolding_room (by exact .inl stands)]
      simp [State.onMotion, stands]
    · rw [enterHolding_full (by exact stands) (by exact full)]
      simp [enteredHolding]
  all_goals simp

/-! ## The judgement (R145, R149) -/

/-- The line with its band judged (R145). -/
def bandJudged (s : State) : State :=
  s.onMotion fun m => { m with band := nextBand (s.par .cLow) (s.par .cHigh) (s.par .cMax) s.content m.band }

theorem judgeContent_active {s : State} (active : s.motion.line ≠ .idle) :
    judgeContent s = (updateSpeed (bandJudged s)).onMotion fun m =>
      { m with starve := nextStarve (s.par .cMin) (s.par .cLow) s.content m.starve } := by
  have same : (updateSpeed (bandJudged s)).par = s.par ∧ (updateSpeed (bandJudged s)).content = s.content := by
    have params : (updateSpeed (bandJudged s)).params = s.params := by simp [bandJudged]
    have web : (updateSpeed (bandJudged s)).web = s.web := by simp [bandJudged]
    exact ⟨funext fun p => by rw [State.par, params, ← State.par],
      by rw [State.content, State.inPos, State.outPos, web, State.content, State.inPos, State.outPos]⟩
  let u := updateSpeed (bandJudged s)
  have judged : judgeContent s = u.onMotion fun m => { m with starve := nextStarve (u.par .cMin) (u.par .cLow) u.content m.starve } :=
    if_neg active
  rw [judged, same.1, same.2]

/-- What the judgement leaves of the motion: the band and the starve flag judged, the speed of the band. -/
theorem judgeContent_judged {s : State} (active : s.motion.line ≠ .idle) :
    (judgeContent s).motion.band = nextBand (s.par .cLow) (s.par .cHigh) (s.par .cMax) s.content s.motion.band
    ∧ (judgeContent s).motion.starve = nextStarve (s.par .cMin) (s.par .cLow) s.content s.motion.starve
    ∧ SpeedLaw (judgeContent s) := by
  have commanded : (commandSpeed (bandJudged s)).1.motion.band = (bandJudged s).motion.band
      ∧ (commandSpeed (bandJudged s)).1.motion.starve = (bandJudged s).motion.starve := by
    rw [commandSpeed_motion]
    exact ⟨rfl, rfl⟩
  have updated : (updateSpeed (bandJudged s)).motion.band = (bandJudged s).motion.band
      ∧ (updateSpeed (bandJudged s)).motion.starve = (bandJudged s).motion.starve := by
    rcases updateSpeed_eq (bandJudged s) with same | held
    · rw [same]
      exact commanded
    · obtain ⟨band, starve, -⟩ := (raiseHold_rise .station (commandSpeed (bandJudged s)).1).keepsJudged
      rw [held, band, starve]
      exact commanded
  rw [judgeContent_active active]
  refine ⟨updated.1, ?_, ?_⟩
  · simp only [State.onMotion, updated.2]
    rfl
  · exact (onMotion_keeps_of_same (updateSpeed (bandJudged s))).speed
      ((laminatorFailed_keeps _).speed (commandSpeed_speedLaw (bandJudged s)))

end Sys2Proof.Machine
end

section
/-! PROOFS. The judgement of the content: O6 (R145, R146, R149, R157, R165). -/
namespace Sys2Proof.Machine

/-! ## The judgement with its actions -/

theorem updateSpeed_fits {s : State} (bounded : s.station.actions.length ≤ 16)
    (room : s.station.actions.length + (speedActions s).length ≤ 16) : updateSpeed s = { s with
      motion := { s.motion with speed := s.wantedSpeed, nip := if ClosesNip s then .closed else s.motion.nip }
      station := { s.station with actions := s.station.actions ++ speedActions s } } := by
  unfold updateSpeed
  rw [commandSpeed_eq bounded, decide_eq_false (Nat.not_lt.mpr room),
    List.take_of_length_le (by rw [List.length_append]; exact room)]
  rfl

/-- Where the list has no room for an action, it fails and STATION is raised. -/
theorem updateSpeed_fails {s : State} (bounded : s.station.actions.length ≤ 16) (active : s.motion.line ≠ .idle)
    (full : 16 < s.station.actions.length + (speedActions s).length) :
    (updateSpeed s).motion.holds.station = true ∧ (updateSpeed s).motion.speed = 0
    ∧ (updateSpeed s).motion.nip = (if ClosesNip s then .closed else s.motion.nip)
    ∧ (updateSpeed s).motion.line = (if s.motion.line = .running then .holding else s.motion.line)
    ∧ (updateSpeed s).station = { s.station with actions := (s.station.actions ++ speedActions s).take 16 } := by
  obtain ⟨u, commanded⟩ : ∃ u, u = (commandSpeed s).1 := ⟨_, rfl⟩
  have made := commandSpeed_eq bounded
  rw [decide_eq_true full] at made
  have held : updateSpeed s = raiseHold .station u := by
    unfold updateSpeed laminatorFailed
    rw [commanded, made]
    exact if_pos rfl
  have motion : u.motion = { s.motion with speed := s.wantedSpeed, nip := if ClosesNip s then .closed else s.motion.nip } := by
    rw [commanded, made]
  have station : u.station = { s.station with actions := (s.station.actions ++ speedActions s).take 16 } := by
    rw [commanded, made]
  have line : u.motion.line = s.motion.line := by rw [motion]
  have rise := raiseHold_rise .station u
  rw [held]
  refine ⟨raiseHold_has .station (by rw [line]; exact active), ?_, ?_, ?_, ?_⟩
  · rcases rise.motion with ⟨h, same⟩ | ⟨-, h, stopped⟩
    · have still : s.motion.line ≠ .running := fun run => raiseHold_not_running .station u (by rw [same]; exact line.trans run)
      rw [same, motion]
      exact wantedSpeed_of_not_running still
    · rw [stopped]
  · rw [rise.nip, motion]
  · by_cases run : s.motion.line = .running
    · rw [if_pos run, raiseHold_of_running _ (line.trans run)]
    · rw [if_neg run, rise.line_of_not_running (by rw [line]; exact run), line]
  · rw [raiseHold_station_full .station (by rw [station, List.length_take, List.length_append]; omega), station]

/-- The speed asked for once the band is judged (R145, R146). -/
theorem wantedSpeed_bandJudged {s : State} (active : s.motion.line ≠ .idle) : (bandJudged s).wantedSpeed
    = if s.motion.line = .running then
        match (judgeContent s).motion.band with | .normal => s.par .runSpeed | .slowed => s.par .slowSpeed | .stopped => 0
      else 0 := by
  rw [(judgeContent_judged active).1]
  rfl

/-! ## The outfeed advances (log entry 5) -/

theorem placeMark_raises (n : Lane) (rec : MarkRecord) (s : State) : Raises s (placeMark n rec s) := by
  have stray (u : State) : Raises u (strayMark n rec u) := .same rfl rfl rfl
  unfold placeMark
  split
  · unfold placeSeeking
    split
    · split
      · exact startPanel_raises n _ _ _ _ s
      · exact stray s
    · exact stray s
  iterate 3
    unfold placeFollowing
    split
    · split
      · exact startPanel_raises n _ _ _ _ s
      · exact stray s
    · split
      · split
        · exact takePitch_raises n _ _ _ _ s
        · exact stray s
      · exact stray s
  all_goals exact .refl s

theorem handOver_raises (n : Lane) (rec : MarkRecord) (next : Decode) (s : State) : Raises s (handOver n rec next s) := by
  have ended : Raises s (s.onEye n fun e => { e with decode := next }) := .same rfl rfl rfl
  exact ended.trans (placeMark_raises n rec _)

theorem advanceDecode_raises (n : Lane) (s : State) : Raises s (advanceDecode n s) := by
  unfold advanceDecode
  dsimp only
  split
  · split
    · exact handOver_raises n _ _ s
    · exact .refl s
  · split
    · exact .same rfl rfl rfl
    · split
      · exact handOver_raises n _ _ s
      · exact .same rfl rfl rfl
  all_goals exact .refl s

theorem advanceEyes_raises (s : State) : Raises s (advanceEyes s) := by
  have each (n : Lane) (u : State) : Raises u (advanceDecode n (advanceIntervals n u)) :=
    (Raises.same (by simp) (by simp) (by simp)).trans (advanceDecode_raises n _)
  unfold advanceEyes forLanes
  exact (((each _ _).trans (each _ _)).trans (each _ _)).trans (each _ _)

/-- The state in which an advance of the outfeed judges the content. -/
def webAdvanced (s : State) : State := removeZones (settleReg (judgeLocks (settleReg (advanceEyes s))))

theorem webAdvanced_raises (s : State) : Raises s (webAdvanced s) := by
  have removed (u : State) : Raises u (removeZones u) := .same (by simp) (by simp) (by simp)
  exact ((((advanceEyes_raises s).trans (settleReg_raises _)).trans (judgeLocks_raises _)).trans (settleReg_raises _)).trans
    (removed _)

theorem webAdvanced_web (s : State) : (webAdvanced s).web = s.web ∧ (webAdvanced s).params = s.params := by
  simp [webAdvanced]

/-! ## O6 -/

/-- An advance of a channel (R3, R12). -/
theorem forwardCount_advance {e : Encoder} {s : State} (hold : (s.web.get e).hold = 0)
    (moves : 0 < ((s.web.get e).rem + (s.ratio e).1) / (s.ratio e).2)
    (room : (s.web.get e).coord + ((s.web.get e).rem + (s.ratio e).1) / (s.ratio e).2 ≤ 4000000000) :
    forwardCount e s = advanced s e (s.setCounter e ⟨(s.web.get e).coord + ((s.web.get e).rem + (s.ratio e).1) / (s.ratio e).2,
      ((s.web.get e).rem + (s.ratio e).1) % (s.ratio e).2, 0⟩) := by
  unfold forwardCount
  rw [countForward_counted hold (.inr room)]
  obtain ⟨k, succ⟩ := Nat.exists_eq_succ_of_ne_zero moves.ne'
  rw [succ]

/-- Settles O6: an advance judges the content. -/
theorem advanceJudgesContent : Obligations.AdvanceJudgesContent := by
  refine ⟨fun e s active hold => ?_, fun s hold => ?_, fun s active bounded => ?_⟩
  · intro a c moves room
    let x : Counter := ⟨(s.web.get e).coord + a, ((s.web.get e).rem + (s.ratio e).1) % (s.ratio e).2, 0⟩
    let u := s.setCounter e x
    have advance : ∃ w, advanced s e u = settle s (judgeContent w) ∧ HoldsRise u w ∧ w.web = u.web ∧ w.params = s.params := by
      cases e with
      | infeed => exact ⟨u, rfl, .same rfl, rfl, rfl⟩
      | outfeed => exact ⟨webAdvanced u, rfl, (webAdvanced_raises u).toHoldsRise, (webAdvanced_web u).1, (webAdvanced_web u).2⟩
    obtain ⟨w, taken, rise, web, params⟩ := advance
    have par (p : Param) : w.par p = s.par p := by rw [State.par, params, ← State.par]
    have content : w.content = c := by
      rw [State.content, State.inPos, State.outPos, web]
      cases e with
      | infeed =>
        change ((s.web.infeed.coord + a : Nat) : Int) - s.web.outfeed.coord = s.web.infeed.coord - s.web.outfeed.coord + a
        omega
      | outfeed =>
        change (s.web.infeed.coord : Int) - ((s.web.outfeed.coord + a : Nat) : Int) = s.web.infeed.coord - s.web.outfeed.coord - a
        omega
    obtain ⟨bandW, starveW, -⟩ := rise.keepsJudged
    obtain ⟨band, starve, speed⟩ := judgeContent_judged (rise.line_ne_idle active)
    obtain ⟨bandT, starveT, -⟩ := settle_keepsJudged s (judgeContent w)
    let t := startTx (settle s (judgeContent w))
    have lawT : SpeedLaw t := (startTx_keeps _).speed ((settle_keeps s _).speed speed)
    have parT (p : Param) : t.par p = s.par p := by
      have same : t.params = s.params := by simp [t, params]
      rw [State.par, same, ← State.par]
    have webT : t.web = w.web := by simp [t]
    have motionT : t.motion = (settle s (judgeContent w)).motion := by simp [t]
    have judged : t.motion.band = nextBand (s.par .cLow) (s.par .cHigh) (s.par .cMax) c s.motion.band := by
      rw [motionT, bandT, band, bandW, par, par, par, content]
      rfl
    refine ⟨t, ?_, ?_, fun normal => ?_, fun slowed => ?_, fun stopped => ?_, ?_, ?_⟩
    · rw [exec_forwardCount, forwardCount_advance hold moves room]
      exact congrArg (fun v => Host.Outcome.next (startTx v)) taken
    · rw [← content, State.content, State.inPos, State.outPos, webT]
      rfl
    · rw [judged, normal]
      rfl
    · rw [judged, slowed]
      rfl
    · rw [judged, stopped]
      rfl
    · rw [motionT, starveT, starve, starveW, par, par, content]
      rfl
    · rw [← parT .runSpeed, ← parT .slowSpeed]
      exact lawT
  · intro c a moves room
    rw [exec_forwardCount, forwardCount_advance (e := .infeed) hold moves room]
    rfl
  · intro t w closes raised nip
    have wanted : (bandJudged s).wantedSpeed = w := wantedSpeed_bandJudged active
    have closing : ClosesNip (bandJudged s) ↔ closes := by
      rw [ClosesNip, wanted]
      rfl
    have actions : speedActions (bandJudged s) = raised := by
      simp only [speedActions, wanted, closing]
      rfl
    have nipped : (if ClosesNip (bandJudged s) then .closed else (bandJudged s).motion.nip) = nip := by
      simp only [closing]
      rfl
    have judged : t = _ := judgeContent_active active
    refine ⟨fun room => ?_, fun full => ?_⟩
    · have made := updateSpeed_fits (s := bandJudged s) bounded (by rw [actions]; exact room)
      rw [nipped, actions, wanted] at made
      rw [judged, made]
      rfl
    · have made := updateSpeed_fails (s := bandJudged s) bounded active (by rw [actions]; exact full)
      rw [nipped, actions] at made
      rw [judged]
      exact made

end Sys2Proof.Machine
end

section
/-! PROOFS. Registration leaves every decode, and no entry due to be locked (R44, R107). -/
namespace Sys2Proof.Machine

/-! ## What registration keeps -/

/-- Every decode stands, and where no entry was due to be locked none is. -/
structure RegStep (s t : State) : Prop where
  decodes : ∀ n, (t.eyes.get n).decode = (s.eyes.get n).decode
  locks : s.nextLock = none → t.nextLock = none

theorem RegStep.trans {s t u : State} (first : RegStep s t) (second : RegStep t u) : RegStep s u :=
  ⟨fun n => (second.decodes n).trans (first.decodes n), second.locks ∘ first.locks⟩

theorem nextLock_congr {s t : State} (cuts : t.cuts = s.cuts) (web : t.web = s.web) (params : t.params = s.params) :
    t.nextLock = s.nextLock := by
  simp only [State.nextLock, State.lockPoint, State.outPos, State.par, cuts, web, params] <;> rfl

theorem RegStep.of_decodes {s t : State} (decodes : ∀ n, (t.eyes.get n).decode = (s.eyes.get n).decode) (cuts : t.cuts = s.cuts)
    (web : t.web = s.web) (params : t.params = s.params) : RegStep s t :=
  ⟨decodes, fun none_ => (nextLock_congr cuts web params).trans none_⟩

theorem RegStep.same {s t : State} (eyes : t.eyes = s.eyes) (cuts : t.cuts = s.cuts) (web : t.web = s.web)
    (params : t.params = s.params) : RegStep s t := .of_decodes (fun _ => by rw [eyes]) cuts web params

theorem RegStep.refl (s : State) : RegStep s s := .same rfl rfl rfl rfl

/-- The eye of a lane changed but for its decode. -/
theorem onEye_regStep {n : Lane} {f : Eye → Eye} (decode : ∀ e, (f e).decode = e.decode) (s : State) : RegStep s (s.onEye n f) := by
  refine .of_decodes (fun m => ?_) rfl rfl rfl
  simp only [State.onEye]
  by_cases same : m = n
  · rw [same, Lanes.get_set_same]
    exact decode _
  · rw [Lanes.get_set_ne _ _ _ _ same]

/-! ## Expectations (R57, R63, R64) -/

theorem inspectBegin_regStep (n : Lane) (i : Option Interval) (s : State) : RegStep s (inspectBegin n i s) :=
  .same (by simp) (by simp) (by simp) (by simp)

theorem armStart_regStep (n : Lane) (q : Source) (x : Int) (s : State) : RegStep s (armStart n q x s) :=
  (onEye_regStep (f := fun e => { e with startInterval := s.newInterval q x }) (fun _ => rfl) s).trans (inspectBegin_regStep n _ _)

theorem armPitch_regStep (n : Lane) (q : Source) (x : Int) (s : State) : RegStep s (armPitch n q x s) :=
  (onEye_regStep (f := fun e => { e with pitchInterval := s.newInterval q x }) (fun _ => rfl) s).trans (inspectBegin_regStep n _ _)

theorem onReg_regStep (n : Lane) (f : LaneReg → LaneReg) (s : State) : RegStep s (s.onReg n f) := .same rfl rfl rfl rfl

theorem formStart_regStep (n : Lane) (s : State) : RegStep s (formStart n s) := by
  unfold formStart
  dsimp only
  split
  · split
    · split
      · exact onReg_regStep n _ s
      · split
        · exact (onReg_regStep n _ s).trans (armStart_regStep n _ _ _)
        · exact onReg_regStep n _ s
    · exact .refl s
  · exact .refl s

theorem setEnd_regStep (n : Lane) (e : Int) (s : State) : RegStep s (setEnd n e s) := by
  refine (onReg_regStep n (fun r => { r with lastEnd := some e }) s).trans ?_
  unfold setEnd reformStart
  dsimp only
  split
  · split
    · split
      · exact (onReg_regStep n _ _).trans (armStart_regStep n _ _ _)
      · exact onReg_regStep n _ _
    · exact .refl _
  · exact .refl _

theorem formPitch_regStep (n : Lane) (s : State) : RegStep s (formPitch n s) := by
  unfold formPitch
  dsimp only
  split
  · split
    · split
      · exact (onReg_regStep n _ s).trans (armPitch_regStep n _ _ _)
      · exact onReg_regStep n _ s
    · exact onReg_regStep n _ s
  · exact onReg_regStep n _ s

/-! ## Entries (R102 to R109) -/

theorem onCtx_regStep (n : Lane) (q : Source) (f : Ctx → Ctx) (s : State) : RegStep s (s.onCtx n q f) :=
  .same (by simp) (by simp) (by simp) (by simp)

theorem forLanes_regStep {f : Lane → State → State} (each : ∀ n s, RegStep s (f n s)) (s : State) : RegStep s (forLanes f s) :=
  (((each _ _).trans (each _ _)).trans (each _ _)).trans (each _ _)

theorem retargetLane_regStep (order : Nat) (x : Int) (merged : Bool) (p : Option LanePart) (n : Lane) (s : State) :
    RegStep s (retargetLane order x merged p n s) := by
  have listed : RegStep s (s.onList n (List.map (retargetCtx order x merged p))) := .same rfl rfl rfl rfl
  rw [retargetLane_eq]
  split
  · exact listed.trans (setEnd_regStep n x _)
  · exact listed

theorem retarget_regStep (order : Nat) (x : Int) (merged : Bool) (parts : Lanes (Option LanePart)) (s : State) :
    RegStep s (retarget order x merged parts s) := forLanes_regStep (fun n u => retargetLane_regStep order x merged _ n u) s

theorem lockEntry_decodes (x : Entry) (s : State) (n : Lane) : ((lockEntry x s).eyes.get n).decode = (s.eyes.get n).decode := by
  have over_ (l : List Entry) (u : State) : RegStep u (l.foldl (fun u e => takeOver x e u) u) := by
    induction l generalizing u with
    | nil => exact .refl u
    | cons e l ih => exact (retarget_regStep _ _ _ _ u).trans (ih _)
  have ends (parts : Lanes (Option LanePart)) (u : State) : RegStep u (forLanes (endLockLane parts) u) := by
    refine forLanes_regStep (fun m v => ?_) u
    unfold endLockLane
    split
    · exact onCtx_regStep m _ _ v
    · exact .refl v
  unfold lockEntry
  dsimp only
  rw [show (starvationCheck _ _).eyes = _ from (starvationCheck_frame _ _).2.2.2.2.2.1, (ends _ _).decodes, (over_ _ _).decodes]
  rfl

theorem judgeLocks_regStep (s : State) : RegStep s (judgeLocks s) := by
  have decodes (k : Nat) (u : State) (n : Lane) : ((lockDue k u).eyes.get n).decode = (u.eyes.get n).decode := by
    induction k generalizing u with
    | zero => rfl
    | succ k ih =>
      unfold lockDue
      split
      · rw [ih, lockEntry_decodes]
      · rfl
  exact ⟨decodes _ s, fun _ => (judgeLocks_settled s).1⟩

theorem placeEntry_decodes (e : Entry) (s : State) (n : Lane) : ((placeEntry e s).eyes.get n).decode = (s.eyes.get n).decode :=
  (retarget_regStep _ _ _ _ _).decodes n

theorem judgedPlace_regStep (e : Entry) {s u : State} (eyes : u.eyes = s.eyes) : RegStep s (judgeLocks (placeEntry e u)) :=
  ⟨fun n => by rw [(judgeLocks_regStep _).decodes, placeEntry_decodes, eyes], fun _ => (judgeLocks_settled _).1⟩

theorem joinFixed_regStep (n : Lane) (q : Source) (e : Entry) (s : State) : RegStep s (joinFixed n q e s) := by
  rw [joinFixed_eq]
  refine ⟨fun _ => rfl, fun none_ => ?_⟩
  rw [nextLock_none_iff] at none_ ⊢
  intro a member provisional
  obtain ⟨b, mem, rfl⟩ := List.mem_map.mp member
  have due := none_ b mem
  split at provisional <;> rename_i same
  · rw [if_pos same]
    exact due provisional
  · rw [if_neg same]
    exact due provisional

theorem startReport_regStep (n : Lane) (p : Ctx) (m : Int) (first : Bool) (s : State) : RegStep s (startReport n p m first s) := by
  unfold startReport
  dsimp only
  split
  · exact judgedPlace_regStep _ rfl
  · split
    · exact judgedPlace_regStep _ rfl
    · exact joinFixed_regStep n _ _ s

theorem endReport_regStep (n : Lane) (q : Source) (y : Int) (s : State) : RegStep s (endReport n q y s) := by
  have placed : RegStep s (placeEnd n q y s) := by
    unfold placeEnd
    split
    · split
      · exact judgedPlace_regStep _ rfl
      · exact .refl s
    · split
      · exact judgedPlace_regStep _ rfl
      · exact .refl s
  rw [endReport_eq]
  split
  · exact placed.trans (setEnd_regStep n _ _)
  · exact placed

/-! ## Panels started, pitches, what is due (R64 to R76) -/

theorem markEffects_regStep (n : Lane) (p : Ctx) (how : How) (s : State) : RegStep s (markEffects n p how s) :=
  .same (by simp) (by simp) (by simp) (by simp)

theorem startPanel_regStep (n : Lane) (p : Ctx) (m : Int) (how : How) (first : Bool) (s : State) :
    RegStep s (startPanel n p m how first s) := by
  have anchored : RegStep s (anchoredPanel n p m how s) :=
    ((onCtx_regStep n p.src (startedCtx ((s.reg.get n).state == .lost && !how.isObserved)) s).trans
      (onEye_regStep (f := fun e => { e with startInterval := none }) (fun _ => rfl) _)).trans
      ((onReg_regStep n (fun r => { r with current := some p.src, pitch := none, start := none, synth := none }) _).trans
        (onReg_regStep n (fun r => { r with anchor := some ⟨m, 0, how.isObserved, p.src⟩ }) _))
  have counted (u : State) : RegStep u (countHow n m how u) := .same (by simp) (by simp) (by simp) (by simp)
  have begun : RegStep s (begunPanel n p m how s) :=
    ((anchored.trans (counted _)).trans (onCtx_regStep n p.src _ _)).trans (markEffects_regStep n p how _)
  rw [startPanel_eq]
  exact (((begun.trans (startReport_regStep n p m first _)).trans (endReport_regStep n p.src _ _)).trans (formPitch_regStep n _)).trans
    (formStart_regStep n _)

theorem takePitch_regStep (n : Lane) (p : Ctx) (k m : Int) (how : How) (s : State) : RegStep s (takePitch n p k m how s) := by
  have begun : RegStep s (begunPitch n p k m how s) :=
    .same (begunPitch_eyes n p k m how s) (by simp [begunPitch, anchoredPitch]) (by simp [begunPitch, anchoredPitch])
      (by simp [begunPitch, anchoredPitch])
  rw [takePitch_eq]
  exact (begun.trans (endReport_regStep n p.src _ _)).trans (formPitch_regStep n _)

theorem passPitch_regStep (n : Lane) (e : PitchExpect) (how : How) (s : State) : RegStep s (passPitch n e how s) := by
  unfold passPitch
  split
  · exact takePitch_regStep _ _ _ _ _ _
  · exact .same (by simp) (by simp) (by simp) (by simp)

theorem dueInLane_regStep {n : Lane} {s t : State} (due : dueInLane n s = some t) : RegStep s t := by
  have found : (((seekSynth n s = some t ∨ dueSynth n s = some t) ∨ dueForm n s = some t) ∨ duePitch n s = some t)
      ∨ dueStart n s = some t := by
    simp only [dueInLane, Option.or_eq_some_iff] at due
    tauto
  rcases found with (((found | found) | found) | found) | found
  · unfold seekSynth at found
    repeat' split at found
    · exact Option.some.inj found ▸ (onReg_regStep n _ s).trans (armStart_regStep n _ _ _)
    all_goals contradiction
  · unfold dueSynth at found
    repeat' split at found
    · exact Option.some.inj found ▸ startPanel_regStep _ _ _ _ _ _
    all_goals contradiction
  · unfold dueForm at found
    dsimp only at found
    split at found
    · exact Option.some.inj found ▸ formStart_regStep n s
    · contradiction
  · unfold duePitch at found
    dsimp only at found
    repeat' split at found
    · contradiction
    · exact Option.some.inj found ▸ passPitch_regStep _ _ _ _
    · exact Option.some.inj found ▸ passPitch_regStep _ _ _ _
    all_goals contradiction
  · unfold dueStart at found
    dsimp only at found
    repeat' split at found
    · contradiction
    · exact Option.some.inj found ▸ startPanel_regStep _ _ _ _ _ _
    · contradiction
    · contradiction
    · exact Option.some.inj found ▸ startPanel_regStep _ _ _ _ _ _
    all_goals contradiction

theorem settleReg_regStep (s : State) : RegStep s (settleReg s) := by
  have dues (k : Nat) (u : State) : RegStep u (regDue k u) := by
    induction k generalizing u with
    | zero => exact .refl _
    | succ k ih =>
      unfold regDue
      split
      · next t due =>
        have found : ∃ n, dueInLane n u = some t := by
          simp only [dueNext, Option.or_eq_some_iff] at due
          tauto
        obtain ⟨n, found⟩ := found
        exact (dueInLane_regStep found).trans (ih _)
      · exact .refl _
  exact dues 64 s

theorem placeMark_regStep (n : Lane) (rec : MarkRecord) (s : State) : RegStep s (placeMark n rec s) := by
  have stray (u : State) : RegStep u (strayMark n rec u) := .same rfl rfl rfl rfl
  unfold placeMark
  split
  · unfold placeSeeking
    split
    · split
      · exact startPanel_regStep n _ _ _ _ s
      · exact stray s
    · exact stray s
  iterate 3
    unfold placeFollowing
    split
    · split
      · exact startPanel_regStep n _ _ _ _ s
      · exact stray s
    · split
      · split
        · exact takePitch_regStep n _ _ _ _ s
        · exact stray s
      · exact stray s
  all_goals exact .refl s

end Sys2Proof.Machine
end

section
/-! PROOFS. What a command settles leaves no decode begun and no entry due to be locked (R40, R44, R107, R112). -/
namespace Sys2Proof.Machine

/-! ## Eyes followed, entries indexed -/

/-- Each decode stands or has ended, and where no entry was due to be locked none is. -/
structure Reacted (s t : State) : Prop where
  decodes : ∀ n, (t.eyes.get n).decode = (s.eyes.get n).decode ∨ decodeMark (t.eyes.get n).decode = none
  locks : s.nextLock = none → t.nextLock = none

theorem Reacted.trans {s t u : State} (first : Reacted s t) (second : Reacted t u) : Reacted s u := by
  refine ⟨fun n => ?_, second.locks ∘ first.locks⟩
  rcases second.decodes n with same | ended
  · rw [same]
    exact first.decodes n
  · exact .inr ended

theorem RegStep.reacted {s t : State} (step : RegStep s t) : Reacted s t := ⟨fun n => .inl (step.decodes n), step.locks⟩

theorem Reacted.same {s t : State} (eyes : t.eyes = s.eyes) (cuts : t.cuts = s.cuts) (web : t.web = s.web)
    (params : t.params = s.params) : Reacted s t := (RegStep.same eyes cuts web params).reacted

theorem syncEye_reacted (n : Lane) (s : State) : Reacted s (syncEye n s) := by
  have changed {f : Eye → Eye} (ended : ∀ e, decodeMark (f e).decode = none) : Reacted s (s.onEye n f) := by
    refine ⟨fun m => ?_, id⟩
    simp only [State.onEye]
    by_cases here : m = n
    · rw [here, Lanes.get_set_same]
      exact .inr (ended _)
    · rw [Lanes.get_set_ne _ _ _ _ here]
      exact .inl rfl
  unfold syncEye
  split
  · split
    · refine changed fun e => ?_
      cases s.pins.eyeDark.get n <;> rfl
    · exact .same rfl rfl rfl rfl
  · split
    · exact .same rfl rfl rfl rfl
    · exact changed fun e => rfl

theorem syncEyes_reacted (s : State) : Reacted s (syncEyes s) :=
  (((syncEye_reacted _ _).trans (syncEye_reacted _ _)).trans (syncEye_reacted _ _)).trans (syncEye_reacted _ _)

theorem judgeTrigger_reacted (s : State) : Reacted s (judgeTrigger s) := by
  unfold judgeTrigger
  split
  · next l _ =>
    split
    · let u := s.onBeam fun b => { b with changeover := .moving l (s.triggerGuard l) }
      have begun : Reacted s u := .same rfl rfl rfl rfl
      have moved : Reacted (syncEyes u) (startMove l (s.triggerGuard l) ((syncEyes u).mapReg fun _ => LaneReg.blinded)) :=
        .same (by simp) (by simp) (by simp) (by simp)
      exact (begun.trans (syncEyes_reacted u)).trans moved
    · exact .same rfl rfl rfl rfl
  all_goals exact .same rfl rfl rfl rfl

theorem issueIndex_reacted (e : Entry) (s : State) : Reacted s (issueIndex e s) := by
  refine ⟨fun n => .inl (by simp), fun none_ => ?_⟩
  rw [nextLock_none_iff] at none_ ⊢
  intro a member provisional
  have entries : (issueIndex e s).cuts.entries
      = match s.cuts.entries with | [] => [] | x :: r => { x with status := .indexing } :: r := rfl
  rw [entries] at member
  split at member
  · contradiction
  · next x r same =>
    rcases List.mem_cons.mp member with rfl | behind
    · contradiction
    · exact none_ a (by rw [same]; exact List.mem_cons_of_mem x behind) provisional

theorem judgeOutfeed_reacted (s : State) : Reacted s (judgeOutfeed s) := by
  have sent (d : DriveCommand) (o : Outfeed) : Reacted s (sendDrive d o s) := .same rfl rfl rfl rfl
  have stays : Reacted s s := .same rfl rfl rfl rfl
  unfold judgeOutfeed
  split
  · exact stays
  · split
    · split
      · exact sent _ _
      · exact stays
    · split
      · exact issueIndex_reacted _ s
      · split
        · split
          · split
            · exact stays
            · exact sent _ _
          · split
            · exact sent _ _
            · exact stays
        · split
          · exact stays
          · exact sent _ _

theorem judgeHolding_reacted (a b : Bool) (s : State) : Reacted s (judgeHolding a b s) := by
  unfold judgeHolding
  split
  · exact issueIndex_reacted _ s
  · split
    · exact .same rfl rfl rfl rfl
    · exact .same rfl rfl rfl rfl

theorem endHolding_reacted (s : State) : Reacted s (endHolding s) := by
  unfold endHolding
  split
  · split
    · let u := queueLine .jobEnd ((stationIfFailed (openNip s)).onMotion fun m =>
        { m with holds := HoldSet.empty, trips := TripSet.empty, firstCause := none, jobEnd := false, line := .idle })
      have idle : Reacted s (u.mapReg fun _ => LaneReg.jobEnded) := .same (by simp [u]) (by simp [u]) (by simp [u]) (by simp [u])
      exact idle.trans (syncEyes_reacted _)
    · exact .same rfl rfl rfl rfl
  · exact .same rfl rfl rfl rfl

theorem reactMotion_reacted (before s : State) : Reacted s (reactMotion before s) := by
  unfold reactMotion
  split
  · split
    · exact judgeOutfeed_reacted s
    · exact .same rfl rfl rfl rfl
  · exact (judgeHolding_reacted _ _ s).trans (endHolding_reacted _)
  all_goals exact .same rfl rfl rfl rfl

theorem settle_reacted (before s : State) : Reacted s (settle before s) := by
  have arbitrated (u : State) : Reacted u (runArbiter u) := .same (by simp) (by simp) (by simp) (by simp)
  exact (((((judgeTrigger_reacted s).trans (reactMotion_reacted before _)).trans (arbitrated _)).trans
    (reactMotion_reacted _ _)).trans (arbitrated _))

end Sys2Proof.Machine
end

section
/-! PROOFS. The eyes at a new beam coordinate: O7 (R46, R48 to R50, R57). -/
namespace Sys2Proof.Machine

/-! ## The decoders (R46, R48, R49, R50) -/

/-- The cells sampled up to a beam coordinate (R49). -/
theorem sampleCells_eq {m pitch b : Int} (positive : 0 < pitch) (dark : Bool) (k : Nat) (cells : List Bool)
    (few : cells.length ≤ 10) (enough : 10 ≤ cells.length + k) : ∃ j, cells.length + j ≤ 10
      ∧ (∀ i, cells.length ≤ i → i < 10 → (i < cells.length + j ↔ cellPoint m pitch i ≤ b))
      ∧ sampleCells m pitch b dark k cells = cells ++ List.replicate j dark := by
  induction k generalizing cells with
  | zero => exact ⟨0, few, fun i least most => absurd most (by omega), (List.append_nil _).symm⟩
  | succ k ih =>
    by_cases due : cells.length < 10 ∧ cellPoint m pitch cells.length ≤ b
    · obtain ⟨j, bound, points, sampled⟩ := ih (cells ++ [dark]) (by simpa using due.1) (by simp; omega)
      rw [List.length_append, List.length_singleton] at bound points
      refine ⟨j + 1, by omega, fun i least most => ?_, ?_⟩
      · by_cases first : i = cells.length
        · rw [first]
          exact ⟨fun _ => due.2, fun _ => by omega⟩
        · rw [← points i (by omega) most]
          omega
      · rw [sampleCells, if_pos due, sampled, List.append_assoc, List.replicate_succ]
        rfl
    · refine ⟨0, few, fun i least most => ?_, ?_⟩
      · have later : cellPoint m pitch cells.length ≤ cellPoint m pitch i := by
          have steps := Int.mul_le_mul_of_nonneg_right (show (cells.length : Int) + 1 ≤ i + 1 by omega) positive.le
          unfold cellPoint
          omega
        exact ⟨fun less => absurd less (by omega), fun reached => absurd ⟨by omega, later.trans reached⟩ due⟩
      · rw [sampleCells, if_neg due]
        exact (List.append_nil _).symm

theorem advanceDecode_inBar {n : Lane} {m : Int} {i : Bool} {s : State} (decode : (s.eyes.get n).decode = .inBar m i) :
    advanceDecode n s = if m + 10000 ≤ s.beamPos then handOver n ⟨m, false, .start, none, i⟩ .clearing s else s := by
  simp only [advanceDecode, decode] <;> rfl

theorem advanceDecode_inCode {n : Lane} {m : Int} {g : Bool} {cells : List Bool} {i : Bool} {s : State}
    (decode : (s.eyes.get n).decode = .inCode m g cells i) :
    advanceDecode n s = if g = false ∧ m + s.par .barShortMax < s.beamPos then malformed n m .clearing s
      else
        let new := sampleCells m (s.par .cellPitch) s.beamPos (s.pins.eyeDark.get n) 10 cells
        if new.length = 10 then handOver n (codedRecord (s.par .parityMode) m new i) (afterCode (s.pins.eyeDark.get n)) s
        else s.onEye n fun e => { e with decode := .inCode m g new i } := by
  simp only [advanceDecode, decode]

theorem advanceDecode_idle {n : Lane} {s : State} (decode : (s.eyes.get n).decode = .off ∨ (s.eyes.get n).decode = .clearing
    ∨ (s.eyes.get n).decode = .watching) : advanceDecode n s = s := by
  rcases decode with decode | decode | decode <;> simp only [advanceDecode, decode]

/-! ## Decodes within their limits -/

/-- A decode that stands short of its limit at b (R46, R48). -/
def DecodeWithin (b short : Int) : Decode → Prop
  | .inBar m _ => b < m + 10000
  | .inCode m g _ _ => g = false → b ≤ m + short
  | .off | .clearing | .watching => True

theorem decodeWithin_of_ended {d : Decode} (ended : decodeMark d = none) (b short : Int) : DecodeWithin b short d := by
  cases d with
  | inBar m i => simp [decodeMark] at ended
  | inCode m g c i => simp [decodeMark] at ended
  | off => trivial
  | clearing => trivial
  | watching => trivial

theorem handOver_decode (n : Lane) (rec : MarkRecord) (next : Decode) (s : State) (k : Lane) :
    ((handOver n rec next s).eyes.get k).decode = if k = n then next else (s.eyes.get k).decode := by
  rw [handOver, (placeMark_regStep n rec _).decodes, State.onEye]
  by_cases here : k = n
  · rw [if_pos here, here, Lanes.get_set_same]
  · rw [if_neg here, Lanes.get_set_ne _ _ _ _ here]

theorem onEye_decode (n : Lane) (d : Decode) (s : State) (k : Lane) :
    ((s.onEye n fun e => { e with decode := d }).eyes.get k).decode = if k = n then d else (s.eyes.get k).decode := by
  rw [State.onEye]
  by_cases here : k = n
  · rw [if_pos here, here, Lanes.get_set_same]
  · rw [if_neg here, Lanes.get_set_ne _ _ _ _ here]

/-- A decoder advances its own lane alone, and to within its limit. -/
theorem advanceDecode_within (n : Lane) (s : State) :
    DecodeWithin s.beamPos (s.par .barShortMax) ((advanceDecode n s).eyes.get n).decode
    ∧ ∀ k, k ≠ n → ((advanceDecode n s).eyes.get k).decode = (s.eyes.get k).decode := by
  cases decode : (s.eyes.get n).decode with
  | off =>
    rw [advanceDecode_idle (.inl decode), decode]
    exact ⟨trivial, fun _ _ => rfl⟩
  | clearing =>
    rw [advanceDecode_idle (.inr (.inl decode)), decode]
    exact ⟨trivial, fun _ _ => rfl⟩
  | watching =>
    rw [advanceDecode_idle (.inr (.inr decode)), decode]
    exact ⟨trivial, fun _ _ => rfl⟩
  | inBar m i =>
    rw [advanceDecode_inBar decode]
    split
    · refine ⟨?_, fun k other => ?_⟩
      · rw [handOver_decode, if_pos rfl]
        trivial
      · rw [handOver_decode, if_neg other]
    · next early =>
      rw [decode]
      exact ⟨not_le.mp early, fun _ _ => rfl⟩
  | inCode m g cells i =>
    rw [advanceDecode_inCode decode]
    split
    · refine ⟨?_, fun k other => (onEye_decode n .clearing s k).trans (if_neg other)⟩
      rw [show ((malformed n m .clearing s).eyes.get n).decode = .clearing from (onEye_decode n .clearing s n).trans (if_pos rfl)]
      trivial
    · next good =>
      dsimp only
      split
      · refine ⟨?_, fun k other => ?_⟩
        · rw [handOver_decode, if_pos rfl]
          cases s.pins.eyeDark.get n <;> trivial
        · rw [handOver_decode, if_neg other]
      · refine ⟨?_, fun k other => ?_⟩
        · rw [onEye_decode, if_pos rfl]
          exact fun bad => not_lt.mp fun past => good ⟨bad, past⟩
        · rw [onEye_decode, if_neg other]

/-! ## The intervals (R57) -/

/-- The interval begins at this advance: INSPECT standing asserted gives its panel INSPECTION (R57). -/
@[reducible] def Begins (s : State) (n : Lane) (i : Option Interval) (c : Ctx) : Prop :=
  (c.state = .expected ∨ c.state = .active) ∧ s.pins.inspect.get n = true
    ∧ ∃ j, i = some j ∧ j.owner = c.src ∧ j.begun = false ∧ j.x - s.par .markWin ≤ s.beamPos ∧ s.beamPos ≤ j.x + s.par .markWin

/-- The context of a panel at the advance of an interval. -/
def begunGiven (s : State) (n : Lane) (i : Option Interval) (c : Ctx) : Ctx :=
  if Begins s n i c then { c with reasons := { c.reasons with inspection := true } } else c

theorem begunGiven_src (s : State) (n : Lane) (i : Option Interval) (c : Ctx) :
    (begunGiven s n i c).src = c.src ∧ (begunGiven s n i c).state = c.state := by
  unfold begunGiven
  split <;> exact ⟨rfl, rfl⟩

/-- A lane whose contexts all stand. -/
theorem lists_unchanged {n : Lane} {u : State} {f : Ctx → Ctx} (same : ∀ c, f c = c) :
    u = { u with lists := u.lists.set n ((u.lists.get n).map f) } := by
  rw [show f = id from funext same, List.map_id, Lanes.set_get]

theorem inspectNew_eq {s u : State} (pins : u.pins = s.pins) (n : Lane) (i : Option Interval) :
    inspectNew n i (s.advanceInterval i) u = { u with lists := u.lists.set n ((u.lists.get n).map (begunGiven s n i)) } := by
  have idle (none_ : ∀ c, ¬Begins s n i c) : u = { u with lists := u.lists.set n ((u.lists.get n).map (begunGiven s n i)) } :=
    lists_unchanged fun c => if_neg (none_ c)
  cases i with
  | none => exact idle fun c begins => by simp [Begins] at begins
  | some j =>
    by_cases past : j.x + s.par .markWin < s.beamPos
    · rw [State.advanceInterval, if_pos past]
      exact idle fun c begins => by
        obtain ⟨-, -, k, same, -, -, -, within⟩ := begins
        rw [← Option.some.inj same] at within
        exact absurd past (not_lt.mpr within)
    · rw [State.advanceInterval, if_neg past]
      by_cases begun : j.begun = true
      · rw [inspectNew, if_pos begun]
        exact idle fun c begins => by
          obtain ⟨-, -, k, same, -, fresh, -⟩ := begins
          rw [← Option.some.inj same, begun] at fresh
          contradiction
      · rw [inspectNew, if_neg begun]
        by_cases asserted : s.pins.inspect.get n = true
        · rw [inspectBegin_eq (by rw [pins]; exact asserted)]
          have each : inspectionGiven (some { j with begun := decide (j.begun = true ∨ j.x - s.par .markWin ≤ s.beamPos) })
              = begunGiven s n (some j) := by
            funext c
            have iff_ : ((∃ k, some { j with begun := decide (j.begun = true ∨ j.x - s.par .markWin ≤ s.beamPos) } = some k
                ∧ k.owner = c.src ∧ k.begun = true) ∧ (c.state = .expected ∨ c.state = .active)) ↔ Begins s n (some j) c := by
              simp [Begins, asserted, begun, not_lt.mp past]
              tauto
            unfold inspectionGiven begunGiven
            simp only [iff_]
          rw [each]
        · rw [inspectBegin, if_neg fun h => asserted (by rw [← pins]; exact h.2)]
          exact idle fun c begins => asserted begins.2.1

/-- Both intervals of a lane at a new beam coordinate. -/
theorem advanceIntervals_eq (n : Lane) (s : State) :
    let e := s.eyes.get n
    advanceIntervals n s = { s with
      eyes := s.eyes.set n { e with
        startInterval := s.advanceInterval e.startInterval, pitchInterval := s.advanceInterval e.pitchInterval }
      lists := s.lists.set n ((s.lists.get n).map (begunGiven s n e.pitchInterval ∘ begunGiven s n e.startInterval)) } := by
  intro e
  let v := s.onEye n fun a => { a with
    startInterval := s.advanceInterval e.startInterval, pitchInterval := s.advanceInterval e.pitchInterval }
  have first := inspectNew_eq (s := s) (u := v) rfl n e.startInterval
  have second := inspectNew_eq (s := s) (u := inspectNew n e.startInterval (s.advanceInterval e.startInterval) v)
    (by rw [first]; rfl) n e.pitchInterval
  refine second.trans ?_
  rw [first]
  simp only [v, State.onEye, Lanes.get_set_same, Lanes.set_set, List.map_map]
  rfl

theorem advanceIntervals_decode (n : Lane) (s : State) (k : Lane) :
    ((advanceIntervals n s).eyes.get k).decode = (s.eyes.get k).decode := by
  rw [advanceIntervals_eq]
  by_cases here : k = n
  · rw [here]
    simp only [Lanes.get_set_same]
  · rw [show (Lanes.set s.eyes n _).get k = _ from Lanes.get_set_ne _ _ _ _ here]

/-- Every decode stands short of its limit once the eyes have advanced. -/
theorem advanceEyes_within (s : State) (n : Lane) :
    DecodeWithin s.beamPos (s.par .barShortMax) ((advanceEyes s).eyes.get n).decode := by
  let step (k : Lane) (u : State) : State := advanceDecode k (advanceIntervals k u)
  have own (k : Lane) (u : State) : DecodeWithin u.beamPos (u.par .barShortMax) ((step k u).eyes.get k).decode := by
    have within := (advanceDecode_within k (advanceIntervals k u)).1
    have web : (advanceIntervals k u).web = u.web ∧ (advanceIntervals k u).params = u.params := by simp
    have beam : (advanceIntervals k u).beamPos = u.beamPos := by
      simp only [State.beamPos, State.outPos, State.par, web]
    rwa [beam, State.par, web.2, ← State.par] at within
  have others (k : Lane) (u : State) (m : Lane) (other : m ≠ k) : ((step k u).eyes.get m).decode = (u.eyes.get m).decode := by
    rw [(advanceDecode_within k (advanceIntervals k u)).2 m other, advanceIntervals_decode]
  have stands (k : Lane) (u : State) : (step k u).beamPos = u.beamPos ∧ (step k u).par .barShortMax = u.par .barShortMax := by
    have web : (step k u).web = u.web ∧ (step k u).params = u.params := by simp [step]
    exact ⟨by simp only [State.beamPos, State.outPos, State.par, web], by simp only [State.par, web]⟩
  change DecodeWithin s.beamPos (s.par .barShortMax) ((step .lane3 (step .lane2 (step .lane1 (step .lane0 s)))).eyes.get n).decode
  cases n with
  | lane0 =>
    rw [others _ _ _ (by decide), others _ _ _ (by decide), others _ _ _ (by decide)]
    exact own .lane0 s
  | lane1 =>
    rw [others _ _ _ (by decide), others _ _ _ (by decide)]
    have within := own .lane1 (step .lane0 s)
    rwa [(stands _ _).1, (stands _ _).2] at within
  | lane2 =>
    rw [others _ _ _ (by decide)]
    have within := own .lane2 (step .lane1 (step .lane0 s))
    rwa [(stands _ _).1, (stands _ _).2, (stands _ _).1, (stands _ _).2] at within
  | lane3 =>
    have within := own .lane3 (step .lane2 (step .lane1 (step .lane0 s)))
    rwa [(stands _ _).1, (stands _ _).2, (stands _ _).1, (stands _ _).2, (stands _ _).1, (stands _ _).2] at within

end Sys2Proof.Machine
end

section
/-! PROOFS. O7 settled. -/
namespace Sys2Proof.Machine

/-- Settles O7: what an advance of the outfeed judges in the web. -/
theorem outfeedAdvanceJudgesWeb : Obligations.OutfeedAdvanceJudgesWeb := by
  refine ⟨fun s hold => ?_, fun n m i s decode => ?_, fun n m g cells i s decode few positive => ?_, fun n s decode => ?_,
    fun n s => ?_, fun s => rfl⟩
  · intro c a u moves room
    let w := judgeLocks (settleReg (advanceEyes u))
    let t := startTx (settle s (judgeContent (webAdvanced u)))
    have taken : exec (.forwardCount .outfeed) s = .next t := by
      rw [exec_forwardCount, forwardCount_advance (e := .outfeed) hold moves room]
      rfl
    have judged : Reacted w t := by
      have removed : Reacted (settleReg w) (webAdvanced u) := .same (by simp [webAdvanced, w]) (by simp [webAdvanced, w])
        (by simp [webAdvanced, w]) (by simp [webAdvanced, w])
      have content (v : State) : Reacted v (judgeContent v) := .same (by simp) (by simp) (by simp) (by simp)
      have sent (v : State) : Reacted v (startTx v) := .same (by simp) (by simp) (by simp) (by simp)
      exact ((((settleReg_regStep w).reacted.trans removed).trans (content _)).trans (settle_reacted s _)).trans (sent _)
    have whole : Reacted (advanceEyes u) t :=
      ((settleReg_regStep _).trans (judgeLocks_regStep _)).reacted.trans judged
    have web : t.web = u.web ∧ t.params = u.params := by simp [t, webAdvanced]
    have beam : t.beamPos = u.beamPos := by simp only [State.beamPos, State.outPos, State.par, web]
    have par (p : Param) : t.par p = u.par p := by rw [State.par, web.2, ← State.par]
    have within (n : Lane) : DecodeWithin t.beamPos (t.par .barShortMax) (t.eyes.get n).decode := by
      rw [beam, par]
      rcases whole.decodes n with same | ended
      · rw [same]
        exact advanceEyes_within u n
      · exact decodeWithin_of_ended ended _ _
    refine ⟨t, taken, rfl, fun z zone => ?_, (nextLock_none_iff t).mp (judged.locks (judgeLocks_settled _).1),
      fun n m i decode => ?_, fun n m cells i decode => ?_⟩
    · have zones : t.zones = (webAdvanced u).zones := by simp [t]
      have out : t.outPos = (settleReg w).outPos := by
        simp only [State.outPos, web]
        simp [w]
      rw [zones, webAdvanced, removeZones_eq] at zone
      rw [out]
      exact of_decide_eq_true (List.mem_filter.mp zone).2
    · have short := within n
      rw [decode] at short
      exact short
    · have short := within n
      rw [decode] at short
      exact short rfl
  · exact advanceDecode_inBar decode
  · have taken := advanceDecode_inCode decode
    refine ⟨fun bad past => ?_, fun standing => ?_⟩
    · rw [taken, if_pos ⟨bad, past⟩]
      rfl
    · obtain ⟨k, bound, points, sampled⟩ := sampleCells_eq (m := m) (b := s.beamPos) positive (s.pins.eyeDark.get n) 10 cells
        few.le (by omega)
      have stands : ¬(g = false ∧ m + s.par .barShortMax < s.beamPos) := fun h =>
        standing.elim (fun good => by rw [good] at h; exact Bool.noConfusion h.1) fun early => absurd h.2 (not_lt.mpr early)
      rw [if_neg stands, sampled] at taken
      refine ⟨k, bound, points, fun more => ?_, fun ten => ?_⟩
      · rw [taken]
        dsimp only
        rw [if_neg (by rw [List.length_append, List.length_replicate]; omega)]
        rfl
      · rw [taken]
        dsimp only
        rw [if_pos (by rw [List.length_append, List.length_replicate]; omega)]
        rfl
  · exact advanceDecode_idle decode
  · intro e w kept given
    refine ⟨begunGiven s n e.pitchInterval ∘ begunGiven s n e.startInterval, ?_, fun c => ?_⟩
    · have same (i : Option Interval) : i.bind kept = s.advanceInterval i := by
        cases i with
        | none => rfl
        | some i =>
          simp only [kept, Option.bind_some, State.advanceInterval, Bool.decide_or, Bool.decide_eq_true] <;> rfl
      rw [advanceIntervals_eq, same, same]
    · obtain ⟨src, state⟩ := begunGiven_src s n e.startInterval c
      have either : given c ↔ Begins s n e.startInterval c ∨ Begins s n e.pitchInterval c := by
        constructor
        · rintro ⟨can, asserted, i, which | which, rest⟩
          · exact .inl ⟨can, asserted, i, which, rest⟩
          · exact .inr ⟨can, asserted, i, which, rest⟩
        · rintro (⟨can, asserted, i, which, rest⟩ | ⟨can, asserted, i, which, rest⟩)
          · exact ⟨can, asserted, i, .inl which, rest⟩
          · exact ⟨can, asserted, i, .inr which, rest⟩
      have second : Begins s n e.pitchInterval (begunGiven s n e.startInterval c) ↔ Begins s n e.pitchInterval c := by
        rw [Begins, src, state]
      rw [either, Function.comp_apply]
      by_cases later : Begins s n e.pitchInterval c
      · refine ⟨fun _ => ?_, fun neither => absurd (.inr later) neither⟩
        rw [begunGiven, if_pos (second.mpr later)]
        unfold begunGiven
        split <;> rfl
      · rw [begunGiven, if_neg (mt second.mp later)]
        refine ⟨fun begins => ?_, fun neither => ?_⟩
        · exact if_pos (begins.resolve_right later)
        · exact if_neg fun begins => neither (.inl begins)

end Sys2Proof.Machine
end

section
/-! PROOFS. What goes on while the Plan Reader reads: contexts join the lists, events join theirs (R31, R88, R183). -/
namespace Sys2Proof.Machine

/-! ## Lists, events and the line -/

/-- Events have joined the list at its tail at most, contexts without a reason have joined the lists at theirs, and a line that is
not IDLE is not IDLE. -/
structure Grows (s t : State) : Prop where
  events : s.link.events <+: t.link.events
  lists : ∀ n, ∃ l, t.lists.get n = s.lists.get n ++ l ∧ ∀ c ∈ l, c.reasons = Reasons.empty
  line : s.motion.line ≠ .idle → t.motion.line ≠ .idle

theorem Grows.trans {s t u : State} (first : Grows s t) (second : Grows t u) : Grows s u := by
  refine ⟨first.events.trans second.events, fun n => ?_, second.line ∘ first.line⟩
  obtain ⟨l, lists, clean⟩ := first.lists n
  obtain ⟨r, lists', clean'⟩ := second.lists n
  refine ⟨l ++ r, by rw [lists', lists, List.append_assoc], fun c member => ?_⟩
  exact (List.mem_append.mp member).elim (clean c) (clean' c)

theorem Grows.of_lists {s t : State} (events : s.link.events <+: t.link.events) (lists : t.lists = s.lists)
    (line : s.motion.line ≠ .idle → t.motion.line ≠ .idle) : Grows s t :=
  ⟨events, fun n => ⟨[], by rw [lists, List.append_nil], fun c member => by contradiction⟩, line⟩

theorem Grows.same {s t : State} (link : t.link = s.link) (lists : t.lists = s.lists) (motion : t.motion = s.motion) : Grows s t :=
  .of_lists (by rw [link]) lists (by rw [motion]; exact id)

theorem Grows.refl (s : State) : Grows s s := .same rfl rfl rfl

theorem queueEvent_events (e : Event) (s : State) : s.link.events <+: (queueEvent e s).link.events := by
  unfold queueEvent State.onLink
  dsimp only
  split
  · exact List.prefix_append _ _
  · exact List.prefix_refl _

theorem queueEvent_grows (e : Event) (s : State) : Grows s (queueEvent e s) := .of_lists (queueEvent_events e s) rfl id

theorem queueLine_grows (sort : LineEventSort) (s : State) : Grows s (queueLine sort s) := queueEvent_grows _ s

theorem addReason_grows (r : HoldReason) (s : State) : Grows s (addReason r s) := by
  have added : Grows s (s.onMotion fun m => { m with holds := m.holds.add r }) := .of_lists (List.prefix_refl _) rfl id
  unfold addReason
  split
  · exact .refl s
  · exact added.trans (queueLine_grows _ _)

theorem enterHolding_grows (s : State) : Grows s (enterHolding s) := by
  let held := s.onMotion fun m => { m with line := .holding }
  have entered : Grows s held := .of_lists (List.prefix_refl _) rfl fun _ => by simp [held]
  have commanded (u : State) : Grows u (commandSpeed u).1 := .of_lists (by simp) (by simp) (by simp)
  have failed (sf : State × Bool) : Grows sf.1 (stationIfFailed sf) := by
    unfold stationIfFailed
    split
    · exact addReason_grows _ _
    · exact .refl _
  exact ((entered.trans (queueLine_grows _ _)).trans (commanded _)).trans (failed _)

theorem raiseHold_grows (r : HoldReason) (s : State) : Grows s (raiseHold r s) := by
  have added : Grows s (s.onMotion fun m => { m with holds := m.holds.add r }) := .of_lists (List.prefix_refl _) rfl id
  unfold raiseHold
  split
  · exact .refl s
  · exact added.trans (enterHolding_grows _)
  all_goals exact addReason_grows r s

theorem examineJobEnd_grows (s : State) : Grows s (examineJobEnd s) := by
  have flagged : Grows s (s.onMotion fun m => { m with jobEnd := true }) := .of_lists (List.prefix_refl _) rfl id
  unfold examineJobEnd
  split
  · unfold signalJobEnd
    split
    · exact .refl s
    · exact flagged.trans (enterHolding_grows _)
    · exact flagged.trans (enterHolding_grows _)
    · exact flagged.trans (enterHolding_grows _)
    all_goals exact flagged
  · exact .refl s

/-! ## The Plan Reader (R27 to R34) -/

theorem judgeTrigger_grows (s : State) : Grows s (judgeTrigger s) := by
  have failed (u : State) : Grows u (failChangeover u) := by
    unfold failChangeover
    split
    · next l g _ =>
      have moved : Grows u (u.onBeam fun b => { b with changeover := .failed l g, timer := none }) := .same rfl rfl rfl
      exact moved.trans (raiseHold_grows .beam _)
    all_goals exact .refl u
  have moved (l : Layout) (g : Int) (u : State) : Grows u (startMove l g u) := by
    unfold startMove beamActionPushed
    dsimp only
    have pushed : Grows u (pushAction (.positions (u.beam.move + 1) l) (u.onBeam fun b =>
        { b with changeover := .moving l g, timer := none, move := b.move + 1 })).1 := .of_lists (by simp) (by simp) (by simp)
    split
    · exact pushed.trans (failed _)
    · exact pushed
  unfold judgeTrigger
  split
  · next l _ =>
    split
    · let u := syncEyes (s.onBeam fun b => { b with changeover := .moving l (s.triggerGuard l) })
      have blinded : Grows s (u.mapReg fun _ => LaneReg.blinded) := .same (by simp [u]) (by simp [u]) (by simp [u])
      exact blinded.trans (moved l _ _)
    · exact .refl s
  all_goals exact .refl s

theorem releasePage_grows (p : Fin 8) (s : State) : Grows s (releasePage p s) := by
  have emptied : Grows s (s.onPage p fun _ => Page.empty) := .same rfl rfl rfl
  unfold releasePage
  split
  · exact emptied.trans (queueEvent_grows _ _)
  · exact .refl s

theorem spendPage_grows (p : Fin 8) (s : State) : Grows s (spendPage p s) := by
  have spent : Grows s (s.onPage p fun a => { a with state := .spent }) := .same rfl rfl rfl
  exact spent.trans (releasePage_grows p _)

theorem setReader_grows (r : Reader) (s : State) : Grows s (s.setReader r) := .same rfl rfl rfl

theorem recordRead_grows (p : Fin 8) (slot : Nat) (s : State) : Grows s (recordRead p slot s) := by
  have needed (u : State) : Grows u (needPage u) := by
    unfold needPage
    dsimp only
    split
    · exact .same rfl rfl rfl
    · exact (setReader_grows _ u).trans (queueEvent_grows _ _)
  unfold recordRead
  split
  · exact setReader_grows _ s
  · exact (spendPage_grows p s).trans (needed _)

theorem createCopy_grows (p : Fin 8) (slot copy : Nat) (r : PanelRecord) (n : Lane) (s : State) :
    Grows s (createCopy p slot copy r n s) := by
  let u := (s.onList n fun l => l ++ [newCtx p slot copy r]).onPage p fun a => { a with openPanels := a.openPanels + 1 }
  have created : Grows s u := by
    refine ⟨List.prefix_refl _, fun m => ?_, id⟩
    have lists : u.lists = s.lists.set n (s.lists.get n ++ [newCtx p slot copy r]) := rfl
    rw [lists]
    by_cases here : m = n
    · rw [here, Lanes.get_set_same]
      exact ⟨_, rfl, fun c member => by rw [List.mem_singleton.mp member]; rfl⟩
    · rw [Lanes.get_set_ne _ _ _ _ here]
      exact ⟨[], (List.append_nil _).symm, fun c member => by contradiction⟩
  unfold createCopy
  dsimp only
  split
  · exact created.trans (setReader_grows _ _)
  · exact created.trans (recordRead_grows _ _ _)

theorem readRecord_grows (p : Fin 8) (slot copy : Nat) (s : State) : Grows s (readRecord p slot copy s) := by
  unfold readRecord
  split
  · exact recordRead_grows p slot s
  · split
    · next r _ =>
      unfold readPanel
      split
      · exact (queueEvent_grows _ s).trans (recordRead_grows p slot _)
      · split
        · exact (queueEvent_grows _ s).trans (recordRead_grows p slot _)
        · split
          · exact createCopy_grows p slot copy r _ s
          · exact setReader_grows _ s
    · next l _ =>
      have stopped : Grows s ((s.setReader (.layoutStop p slot)).onBeam fun b => { b with changeover := .pending l }) := .same rfl rfl rfl
      exact stopped.trans (judgeTrigger_grows _)
    · exact ((setReader_grows _ s).trans (spendPage_grows p _)).trans (examineJobEnd_grows _)
    · exact recordRead_grows p slot s

theorem readOn_grows (s : State) : Grows s (readOn s) := by
  have loop (k : Nat) (u : State) : Grows u (readLoop k u) := by
    induction k generalizing u with
    | zero => exact .refl u
    | succ k ih =>
      unfold readLoop
      split
      · exact (readRecord_grows _ _ _ u).trans (ih _)
      all_goals exact .refl u
  exact loop 512 s

theorem resumeStalled_grows (s : State) : Grows s (resumeStalled s) := by
  unfold resumeStalled
  split
  · exact (setReader_grows _ s).trans (readOn_grows _)
  all_goals exact .refl s

theorem resumeStalled_other {s : State} (other : ∀ p i k, s.reader ≠ .stalled p i k) : resumeStalled s = s := by
  unfold resumeStalled
  split
  · next p i k stalled => exact absurd stalled (other p i k)
  all_goals rfl

/-- The context of a source that stands stands on; one that comes has no reason. -/
theorem Grows.ctx {s t : State} (grows : Grows s t) (n : Lane) (q : Source) :
    (∀ c, s.ctx? n q = some c → t.ctx? n q = some c)
    ∧ (s.ctx? n q = none → ∀ c, t.ctx? n q = some c → c.reasons = Reasons.empty) := by
  obtain ⟨l, lists, clean⟩ := grows.lists n
  refine ⟨fun c found => ?_, fun gone c found => ?_⟩
  · rw [ctx?_eq] at found ⊢
    rw [lists, List.find?_append, found]
    rfl
  · rw [ctx?_eq] at gone found
    rw [lists, List.find?_append, gone] at found
    exact clean c (List.mem_of_find?_eq_some found)

end Sys2Proof.Machine
end

section
/-! PROOFS. A context that becomes DONE, and the cycle a channel takes up: for O40 and O24 (R35, R88, R89, R172 to R177). -/
namespace Sys2Proof.Machine

/-! ## DONE (R35, R88, R89) -/

/-- The page of a panel that is DONE: a panel less, and emptied when it was the last of a SPENT page (R35). -/
def donePage (a : Page) : Page :=
  if a.state = .spent ∧ a.openPanels - 1 = 0 then Page.empty else { a with openPanels := a.openPanels - 1 }

/-- A panel reported and gone from its list, before the Reader goes on (R35, R88, R89). -/
def reportedDone (n : Lane) (q : Source) (c : Ctx) (s : State) : State :=
  let a := s.store.pages[q.page]
  let link := linkEvent s.link (.panelDone (panelReport (s.par .cutTol) n c))
  { s with
    lists := s.lists.set n ((s.lists.get n).filter fun d => d.src != q)
    store := { s.store with pages := s.store.pages.set q.page (donePage a) }
    link := if a.state = .spent ∧ a.openPanels - 1 = 0 then linkEvent link (.pageNotice .released q.page) else link }

theorem releasePage_onPage (p : Fin 8) (s : State) :
    let a := s.store.pages[p]
    releasePage p (s.onPage p fun a => { a with openPanels := a.openPanels - 1 }) = { s with
      store := { s.store with pages := s.store.pages.set p (donePage a) }
      link := if a.state = .spent ∧ a.openPanels - 1 = 0 then linkEvent s.link (.pageNotice .released p) else s.link } := by
  intro a
  have page : (s.onPage p fun a => { a with openPanels := a.openPanels - 1 }).store.pages[p]
      = { a with openPanels := a.openPanels - 1 } := by
    rw [onPage_get, if_pos rfl]
  unfold releasePage
  rw [page]
  by_cases released : a.state = .spent ∧ a.openPanels - 1 = 0
  · rw [if_pos released, if_pos released, donePage, if_pos released, onPage_eq, onPage_eq]
    dsimp only
    rw [Fin.getElem_fin, Vector.set_set]
    rfl
  · rw [if_neg released, if_neg released, donePage, if_neg released]
    rfl

theorem makeDone_found {n : Lane} {q : Source} {c : Ctx} {s : State} (found : s.ctx? n q = some c) :
    makeDone n q s = examineJobEnd (resumeStalled (reportedDone n q c s)) := by
  have released := releasePage_onPage q.page ((queueEvent (.panelDone (panelReport (s.par .cutTol) n c)) s).onList n
    (List.filter fun a => a.src != q))
  unfold makeDone
  rw [found]
  exact congrArg (fun t => examineJobEnd (resumeStalled t)) released

theorem makeDone_grows {n : Lane} {q : Source} {c : Ctx} {s : State} (found : s.ctx? n q = some c) :
    Grows (reportedDone n q c s) (makeDone n q s) := by
  rw [makeDone_found found]
  exact (resumeStalled_grows _).trans (examineJobEnd_grows _)

theorem linkEvent_prefix (l : LineLink) (e : Event) : l.events <+: (linkEvent l e).events := by
  unfold linkEvent
  split
  · exact List.prefix_append _ _
  · exact List.prefix_refl _

/-- The report of the panel joins the events first. -/
theorem makeDone_events {n : Lane} {q : Source} {c : Ctx} {s : State} (found : s.ctx? n q = some c) (room : s.link.events.length < 32) :
    s.link.events ++ [.panelDone (panelReport (s.par .cutTol) n c)] <+: (makeDone n q s).link.events := by
  refine List.IsPrefix.trans ?_ (makeDone_grows found).events
  rw [← linkEvent_events (.panelDone (panelReport (s.par .cutTol) n c)) room]
  unfold reportedDone
  dsimp only
  split
  · exact linkEvent_prefix _ _
  · exact List.prefix_refl _

theorem reportedDone_ctx_self (n : Lane) (q : Source) (c : Ctx) (s : State) : (reportedDone n q c s).ctx? n q = none := by
  rw [ctx?_eq, show (reportedDone n q c s).lists.get n = _ from Lanes.get_set_same _ _ _, List.find?_filter, List.find?_eq_none]
  simp

theorem reportedDone_ctx_ne {n m : Lane} {q p : Source} (other : (m, p) ≠ (n, q)) (c : Ctx) (s : State) :
    (reportedDone n q c s).ctx? m p = s.ctx? m p := by
  rw [ctx?_eq, ctx?_eq]
  by_cases lane : m = n
  · subst lane
    have apart : p ≠ q := fun same => other (by rw [same])
    rw [show (reportedDone m q c s).lists.get m = _ from Lanes.get_set_same _ _ _, List.find?_filter]
    congr 1
    funext d
    by_cases src : d.src = p
    · simp [src, apart]
    · simp [src]
  · rw [show (reportedDone n q c s).lists.get m = _ from Lanes.get_set_ne _ _ _ _ lane]

/-- With no STALLED Reader the context DONE is gone. -/
theorem makeDone_gone {n : Lane} {q : Source} {c : Ctx} {s : State} (found : s.ctx? n q = some c)
    (going : ∀ p i k, s.reader ≠ .stalled p i k) : (makeDone n q s).ctx? n q = none := by
  rw [makeDone_found found, resumeStalled_other (by exact going)]
  exact (ctx?_of_lists (s := reportedDone n q c s) (by simp) n q).trans (reportedDone_ctx_self n q c s)

/-- Another context stands as it did; one that a STALLED Reader brings has no reason. -/
theorem makeDone_others {n m : Lane} {q p : Source} {c : Ctx} {s : State} (found : s.ctx? n q = some c) (other : (m, p) ≠ (n, q)) :
    (∀ d, s.ctx? m p = some d → (makeDone n q s).ctx? m p = some d)
    ∧ (s.ctx? m p = none → ∀ d, (makeDone n q s).ctx? m p = some d → d.reasons = Reasons.empty) := by
  rw [← reportedDone_ctx_ne other c s]
  exact (makeDone_grows found).ctx m p

/-- While an entry stands and the Reader goes on, a panel DONE leaves the line as it is. -/
theorem makeDone_motion {n : Lane} {q : Source} {c : Ctx} {s : State} (found : s.ctx? n q = some c)
    (going : ∀ p i k, s.reader ≠ .stalled p i k) (queue : s.cuts.entries ≠ []) : (makeDone n q s).motion = s.motion := by
  rw [makeDone_found found, resumeStalled_other (by exact going), examineJobEnd, if_neg]
  · rfl
  · rintro ⟨done, -⟩
    simp only [State.jobDone, Bool.and_eq_true, List.isEmpty_iff] at done
    exact queue done.2

/-! ## A cycle begins (R172, R174, R177) -/

/-- The channel as a cycle begins (R172). -/
def begunChannel (ch n : Lane) (q : Source) (reject : Bool) (s : State) : Channel :=
  if s.effMode n = 1 then ⟨.pulsing, some (n, q), some (s.channelDelay ch), some (s.par .handoffTimeout).toNat, reject⟩
  else if s.channelDelay ch = 0 then ⟨.offered, some (n, q), none, some (s.par .handoffTimeout).toNat, reject⟩
  else ⟨.settling, some (n, q), some (s.channelDelay ch), none, false⟩

theorem begunChannel_congr {s t : State} (params : t.params = s.params) (ch n : Lane) (q : Source) (reject : Bool) :
    begunChannel ch n q reject t = begunChannel ch n q reject s := by
  have par : t.par = s.par := funext fun p => by rw [State.par, params, ← State.par]
  simp only [begunChannel, State.effMode, State.channelOf, State.ganged, State.channelDelay, par] <;> rfl

/-- The context that a cycle begins with (R172): DELIVERING once DELIVER is asserted. -/
def deliveringCtx (c : Ctx) : Ctx := { c with state := .delivering }

theorem deliveringCtx_src (c : Ctx) : (deliveringCtx c).src = c.src := rfl

/-- REJECT, which DELIVER brings for a context with any reason (R174). -/
def rejectOf : Option Ctx → Bool
  | some c => c.reasons.any
  | none => false

/-- A cycle begins: its channel, and at most the state of its context. -/
theorem beginCycle_effect (ch n : Lane) (q : Source) (s : State) :
    (beginCycle ch n q s).hand = { s.hand with channels := s.hand.channels.set ch (begunChannel ch n q
      (rejectOf (s.ctx? n q)) s) }
    ∧ ((beginCycle ch n q s).lists = s.lists ∨ (beginCycle ch n q s).lists = (s.onCtx n q deliveringCtx).lists) := by
  unfold beginCycle begunChannel
  dsimp only
  split
  · rw [assertDeliver_eq, onCtx_eq]
    exact ⟨rfl, .inr rfl⟩
  · split
    · rw [assertDeliver_eq, onCtx_eq]
      exact ⟨rfl, .inr rfl⟩
    · exact ⟨rfl, .inl rfl⟩

/-- A context absent stays so as a cycle begins. -/
theorem beginCycle_ctx_none {m : Lane} {p : Source} {s : State} (gone : s.ctx? m p = none) (ch n : Lane) (q : Source) :
    (beginCycle ch n q s).ctx? m p = none := by
  rcases (beginCycle_effect ch n q s).2 with same | delivering
  · rw [ctx?_of_lists same, gone]
  · rw [ctx?_of_lists delivering]
    by_cases lane : m = n
    · subst lane
      by_cases src : p = q
      · rw [src] at gone ⊢
        rw [ctx?_onCtx_same deliveringCtx_src, gone]
        rfl
      · rw [ctx?_onCtx_ne src deliveringCtx_src, gone]
    · rw [onCtx_eq, ctx?_eq, show (Lanes.set s.lists n _).get m = _ from Lanes.get_set_ne _ _ _ _ lane]
      exact gone

end Sys2Proof.Machine
end

section
/-! PROOFS. O40: a handoff cycle ends (R35, R88, R89, R115, R172 to R177). -/
namespace Sys2Proof.Machine

/-! ## The end of a cycle (R175) -/

/-- The owner's context takes its note, and the channel is IDLE (R175). -/
def freedChannel (ch n : Lane) (q : Source) (note : Ctx → Ctx) (s : State) : State := { s with
  lists := s.lists.set n ((s.lists.get n).map fun c => if c.src = q then note c else c)
  hand := { s.hand with channels := s.hand.channels.set ch ⟨.idle, none, none, none, false⟩ } }

theorem endCycle_owned {ch n : Lane} {q : Source} {s : State} (owner : (s.hand.channels.get ch).owner = some (n, q)) (note : Ctx → Ctx) :
    endCycle ch note s = takeWaiting (tryTraverse (makeDone n q (freedChannel ch n q note s))) := by
  unfold endCycle
  rw [owner]
  dsimp only
  rw [onCtx_eq]
  rfl

theorem freedChannel_ctx {n : Lane} {q : Source} {note : Ctx → Ctx} (keeps : ∀ c, (note c).src = c.src) (ch : Lane) (s : State) :
    (freedChannel ch n q note s).ctx? n q = (s.ctx? n q).map note := by
  rw [← ctx?_onCtx_same keeps s, onCtx_eq]
  rfl

theorem freedChannel_ctx_ne {n m : Lane} {q p : Source} {note : Ctx → Ctx} (keeps : ∀ c, (note c).src = c.src)
    (other : (m, p) ≠ (n, q)) (ch : Lane) (s : State) : (freedChannel ch n q note s).ctx? m p = s.ctx? m p := by
  by_cases lane : m = n
  · subst lane
    rw [← ctx?_onCtx_ne (f := note) (show p ≠ q from fun same => other (by rw [same])) keeps s, onCtx_eq]
    rfl
  · rw [ctx?_eq, show (freedChannel ch n q note s).lists.get m = _ from Lanes.get_set_ne _ _ _ _ lane]
    rfl

/-- The queue after a head was examined: cut, or as it stood (R115). -/
theorem tryTraverse_cuts (s : State) :
    (∀ e r, s.cuts.entries = e :: r → e.status = .positioned ∧ s.motion.line = .running ∧ s.lanesClear e = true →
      (tryTraverse s).cuts = cutsCutting s e r)
    ∧ ((∀ e r, s.cuts.entries = e :: r → ¬(e.status = .positioned ∧ s.motion.line = .running ∧ s.lanesClear e = true)) →
      (tryTraverse s).cuts = s.cuts) := by
  refine ⟨fun e r queue cuttable => ?_, fun none_ => ?_⟩
  · rw [tryTraverse_positioned queue cuttable.1, if_pos cuttable.2]
  · by_cases positioned : ∃ e r, s.cuts.entries = e :: r ∧ e.status = .positioned
    · obtain ⟨e, r, queue, positioned⟩ := positioned
      rw [tryTraverse_positioned queue positioned, if_neg fun h => none_ e r queue ⟨positioned, h⟩]
    · rw [tryTraverse_other fun e r queue status => positioned ⟨e, r, queue, status⟩]

theorem takeWaiting_none {s : State} (waiting : s.hand.waiting = []) : takeWaiting s = s := by
  simp only [takeWaiting, waiting]

theorem takeWaiting_some {m : Lane} {p : Source} {w : List (Lane × Source)} {s : State} (waiting : s.hand.waiting = (m, p) :: w) :
    takeWaiting s = beginCycle .lane0 m p { s with hand := { s.hand with waiting := w } } := by
  simp only [takeWaiting, waiting] <;> rfl

/-! ## The commands that end a cycle -/

/-- What ends the cycle of a channel: its delay in PULSING, ACCEPT as its mode wants it, its timer (R172, R173, R175). -/
inductive Ends (ch : Lane) (s : State) : Instr → Prop
  | delay (pulsing : (s.hand.channels.get ch).state = .pulsing) (runs : (s.hand.channels.get ch).delay ≠ none) :
      Ends ch s (.delayTimerExpiry ch)
  | accept (high : Bool) (moved : s.pins.accept.get ch ≠ high) (own : s.channelOf ch = ch)
      (taken : (s.hand.channels.get ch).state = .offered ∧ (high != s.inverted (8 + laneNum ch)) = true ∧ s.effMode ch ≠ 3
        ∨ (s.hand.channels.get ch).state = .releasing ∧ (high != s.inverted (8 + laneNum ch)) = false) :
      Ends ch s (.acceptChange ch high)
  | timeout (runs : (s.hand.channels.get ch).timer ≠ none) : Ends ch s (.handoffTimeout ch)

/-- The pins as the command leaves them. -/
def pinsAfter (i : Instr) (s : State) : Pins := match i with
  | .acceptChange k high => { s.pins with accept := s.pins.accept.set k high }
  | _ => s.pins

/-- The note that a timeout gives the panel (R175). -/
def endNote (i : Instr) (ch : Lane) (c : Ctx) : Ctx :=
  if i = .handoffTimeout ch then { c with notes := { c.notes with unconfirmed := true } } else c

theorem endNote_src (i : Instr) (ch : Lane) (c : Ctx) : (endNote i ch c).src = c.src := by
  unfold endNote
  split <;> rfl

/-- The cycle ended, before what every command is followed by. -/
def cycleEnded (i : Instr) (ch : Lane) (s : State) : State :=
  let t := endCycle ch (endNote i ch) { s with pins := pinsAfter i s }
  if i = .handoffTimeout ch then raiseHold .handoffTimeout t else t

theorem exec_ends {i : Instr} {ch n : Lane} {q : Source} {s : State} (owner : (s.hand.channels.get ch).owner = some (n, q))
    (ends : Ends ch s i) : exec i s = .next (startTx (settleAll s (cycleEnded i ch s))) := by
  have plain {i : Instr} (other : i ≠ .handoffTimeout ch) :
      cycleEnded i ch s = completeCycle ch { s with pins := pinsAfter i s } := by
    have same : endNote i ch = id := funext fun c => if_neg other
    rw [cycleEnded, if_neg other, same, completeCycle]
  cases ends with
  | delay pulsing runs =>
    obtain ⟨d, delay⟩ := Option.ne_none_iff_exists'.mp runs
    rw [plain (by simp), exec_delayTimerExpiry]
    refine congrArg (fun t => Host.Outcome.next (startTx t)) ?_
    simp only [delayExpired, delay, owner, pulsing]
    rfl
  | accept high moved own taken =>
    rw [plain (by simp), exec_acceptChange, acceptChange_moved moved, if_pos own]
    refine congrArg (fun t => Host.Outcome.next (startTx t)) ?_
    rcases taken with ⟨offered, asserts, mode⟩ | ⟨releasing, drops⟩
    · rw [acceptTaken_offered (s := acceptLevel ch high s) offered, if_pos asserts]
      exact if_neg mode
    · rw [acceptTaken_releasing (s := acceptLevel ch high s) releasing, if_neg (by rw [drops]; decide)]
      rfl
  | timeout runs =>
    obtain ⟨d, timer⟩ := Option.ne_none_iff_exists'.mp runs
    refine congrArg (fun t => Host.Outcome.next (startTx t)) ?_
    have note : endNote (.handoffTimeout ch) ch = fun c => { c with notes := { c.notes with unconfirmed := true } } :=
      funext fun c => if_pos rfl
    simp only [handoffExpired, timer, cycleEnded, note, if_true, timeoutCycle]
    rfl

end Sys2Proof.Machine
end

section
/-! PROOFS. O40 settled. -/
namespace Sys2Proof.Machine

/-- Settles O40: the end of a handoff cycle. -/
theorem handoffCycleEnds : Obligations.HandoffCycleEnds := by
  refine ⟨fun n q c s found => makeDone_found found, fun i ch n q c s owner found waits => ?_⟩
  intro x how c' pins done cuttable
  have ends : Ends ch s i := by
    rcases how with ⟨rfl, pulsing, runs⟩ | ⟨high, rfl, moved, own, taken⟩ | ⟨rfl, runs⟩
    · exact .delay pulsing runs
    · exact .accept high moved own taken
    · exact .timeout runs
  let b := freedChannel ch n q (endNote i ch) { s with pins := pinsAfter i s }
  have pinsSame : pins = pinsAfter i s := by
    cases i <;> rfl
  have doneSame : done = makeDone n q b := by
    have each : (fun d : Ctx => if d.src = q ∧ i = .handoffTimeout ch then
        { d with notes := { d.notes with unconfirmed := true } } else d) = fun d => if d.src = q then endNote i ch d else d := by
      funext d
      by_cases src : d.src = q
      · simp only [src, true_and, if_true, endNote]
      · simp only [src, false_and, if_false]
    simp only [done, pinsSame, each]
    rfl
  have foundB : b.ctx? n q = some c' := by
    rw [freedChannel_ctx (endNote_src i ch), show State.ctx? { s with pins := pinsAfter i s } n q = some c from found]
    rfl
  let t := takeWaiting (tryTraverse done)
  let u := cycleEnded i ch s
  have ended : u = if i = .handoffTimeout ch then raiseHold .handoffTimeout t else t := by
    change cycleEnded i ch s = _
    rw [cycleEnded, endCycle_owned (s := { s with pins := pinsAfter i s }) owner, ← doneSame]
  have growsT : Grows t u := by
    rw [ended]
    split
    · exact raiseHold_grows _ t
    · exact .refl t
  have frame : done.web = s.web ∧ done.params = s.params ∧ done.pins = pins ∧ done.zones = s.zones ∧ done.pending = s.pending
      ∧ done.cuts = s.cuts ∧ done.hand = b.hand := by
    rw [doneSame, pinsSame]
    simp [b, freedChannel]
  obtain ⟨web, params, pinsD, zones, pending, cuts, hand⟩ := frame
  have frameU : u.web = s.web ∧ u.params = s.params ∧ u.pins = pins ∧ u.zones = s.zones ∧ u.pending = s.pending
      ∧ u.cuts = (tryTraverse done).cuts ∧ u.hand = t.hand ∧ u.lists = t.lists := by
    rw [ended]
    split
    all_goals simp [t, web, params, pinsD, zones, pending]
  obtain ⟨webU, paramsU, pinsU, zonesU, pendingU, cutsU, handU, listsU⟩ := frameU
  obtain ⟨cut, stands⟩ := tryTraverse_cuts done
  have par (p : Param) : done.par p = s.par p := by rw [State.par, params, ← State.par]
  refine ⟨u, exec_ends owner ends, fun room => ?_, fun going => ?_, fun late busy => ?_, pinsU, fun e r queue can => ?_, fun none_ => ?_,
    fun going queue => ?_, webU, paramsU, zonesU, pendingU, fun none_ => ?_, fun m p w queue other => ?_⟩
  · have tail : t.link = done.link := by simp [t]
    have first := makeDone_events foundB room
    rw [← doneSame, ← tail] at first
    obtain ⟨more, events⟩ := first.trans growsT.events
    refine ⟨more, ?_⟩
    rw [← events, List.append_assoc]
    rfl
  · have gone : (tryTraverse done).ctx? n q = none := by
      rw [ctx?_of_lists (show (tryTraverse done).lists = done.lists by simp), doneSame]
      exact makeDone_gone foundB (by exact going)
    rw [ctx?_of_lists listsU]
    change (takeWaiting (tryTraverse done)).ctx? n q = none
    unfold takeWaiting
    split
    · exact beginCycle_ctx_none (by exact gone) _ _ _
    · exact gone
  · rw [ended, if_pos late]
    refine raiseHold_has .handoffTimeout ?_
    have motion : t.motion = done.motion := by simp [t]
    rw [motion, doneSame]
    exact (makeDone_grows foundB).line busy
  · rw [cutsU, cut e r (by rw [cuts]; exact queue) can]
    simp only [cutsCutting, cuts, par]
  · rw [cutsU, stands fun e r queue can => none_ e r (by rw [← cuts]; exact queue) can, cuts]
  · rw [doneSame]
    exact makeDone_motion foundB (by exact going) queue
  · have waiting : (tryTraverse done).hand.waiting = [] := by
      simp only [tryTraverse_frame, hand]
      exact none_
    rw [handU, show t = tryTraverse done from takeWaiting_none waiting]
    simp only [tryTraverse_frame, hand]
    rfl
  · intro code td ends_ reject
    have own : ch = .lane0 := waits.resolve_left fun none_ => by rw [none_] at queue; contradiction
    have waiting : (tryTraverse done).hand.waiting = (m, p) :: w := by
      simp only [tryTraverse_frame, hand]
      exact queue
    let v : State := { tryTraverse done with hand := { (tryTraverse done).hand with waiting := w } }
    have begun : t = beginCycle .lane0 m p v := takeWaiting_some waiting
    have paramsV : v.params = s.params := by simp [v, params]
    have rejects : rejectOf (v.ctx? m p) = reject := by
      have same : v.ctx? m p = done.ctx? m p := ctx?_of_lists (by simp [v]) m p
      obtain ⟨standing, fresh⟩ := makeDone_others foundB (m := m) (p := p) other
      have before : b.ctx? m p = s.ctx? m p := freedChannel_ctx_ne (endNote_src i ch) other ch _
      rw [show reject = rejectOf (s.ctx? m p) from rfl, same, doneSame]
      cases was : s.ctx? m p with
      | some d => rw [standing d (before.trans was)]
      | none =>
        cases now : (makeDone n q b).ctx? m p with
        | some d =>
          rw [rejectOf, fresh (before.trans was) d now]
          rfl
        | none => rfl
    rw [handU, begun, (beginCycle_effect .lane0 m p v).1, rejects, begunChannel_congr paramsV]
    have handV : v.hand = { b.hand with waiting := w } := by simp [v, hand]
    rw [handV]
    subst own
    simp only [b, freedChannel, Lanes.set_set]
    rfl

end Sys2Proof.Machine
end

section
/-! PROOFS. The cut recorded in one lane (R84, R172, R174, R177). -/
namespace Sys2Proof.Machine

/-! ## The actuals of a cut (R84) -/

/-- The panel that a cut starts. -/
def startCut (x : Int) (c : Ctx) : Ctx := { c with startActual := some x, startEntry := none }

/-- The panel that a cut ends. -/
def finishCut (x : Int) (c : Ctx) : Ctx := { c with endActual := some x, endEntry := none, state := .cut }

/-- A context of a lane as a cut is recorded in it. -/
def noteCut (x : Int) (p : LanePart) (c : Ctx) : Ctx := onPart (some p) (startCut x) (finishCut x) c

theorem noteCut_src (x : Int) (p : LanePart) (c : Ctx) : (noteCut x p c).src = c.src :=
  onPart_src (f := startCut x) (g := finishCut x) (fun _ => rfl) (fun _ => rfl) (some p) c

theorem noteCut_reasons (x : Int) (p : LanePart) (c : Ctx) : (noteCut x p c).reasons = c.reasons := by
  unfold noteCut onPart
  dsimp only
  split
  all_goals
    split
    all_goals rfl

theorem noteCut_starts {x : Int} {p : LanePart} {c : Ctx} (starts : p.starts = some c.src) :
    (noteCut x p c).startActual = some x ∧ (noteCut x p c).startEntry = none := by
  rcases onPart_starts (f := startCut x) (g := finishCut x) (p := some p) (c := c) starts with same | same
  · rw [noteCut, same]
    exact ⟨rfl, rfl⟩
  · rw [noteCut, same]
    exact ⟨rfl, rfl⟩

theorem noteCut_ends {x : Int} {p : LanePart} {c : Ctx} (ends : p.ends = some c.src) :
    (noteCut x p c).endActual = some x ∧ (noteCut x p c).endEntry = none ∧ (noteCut x p c).state = .cut := by
  obtain ⟨d, same, -⟩ := onPart_ends (f := startCut x) (g := finishCut x) (fun _ => rfl) (p := some p) (c := c) ends
  rw [noteCut, same]
  exact ⟨rfl, rfl, rfl⟩

/-- The lane with the actuals of its panels recorded. -/
def notedCut (x : Int) (p : LanePart) (n : Lane) (s : State) : State :=
  { s with lists := s.lists.set n ((s.lists.get n).map (noteCut x p)) }

theorem notedCut_ctx (x : Int) (p : LanePart) (n : Lane) (q : Source) (s : State) :
    (notedCut x p n s).ctx? n q = (s.ctx? n q).map (noteCut x p) :=
  ctx?_of_map (noteCut_src x p) (Lanes.get_set_same _ _ _) q

section
variable {parts : Lanes (Option LanePart)} {n : Lane} {p : LanePart} {q : Source} {x : Int} {s : State}

theorem recordCut_none (part : parts.get n = none) : recordCut x parts n s = s := by
  simp only [recordCut, part]

/-- The actuals are recorded, and a panel that ended is handed on. -/
theorem recordCut_part (part : parts.get n = some p) :
    (p.ends = none → recordCut x parts n s = notedCut x p n s)
    ∧ (∀ q, p.ends = some q → recordCut x parts n s = handCut n q (notedCut x p n s)) := by
  have both := onCtx_part (f := startCut x) (fun _ => rfl) (finishCut x) n p s
  unfold recordCut
  rw [part]
  dsimp only
  refine ⟨fun ends => ?_, fun q ends => ?_⟩
  · rw [ends] at both
    rw [ends]
    exact both.symm
  · rw [ends] at both
    rw [ends]
    exact congrArg (handCut n q) both.symm

/-! ## A panel cut is handed on (R84, R172, R177) -/

theorem handCut_done (mode : s.effMode n = 0) : handCut n q s = makeDone n q s := if_pos mode

theorem handCut_waits (mode : s.effMode n ≠ 0) (ganged : s.par .handoffGanged = 1)
    (busy : (s.hand.channels.get .lane0).state ≠ .idle ∨ s.hand.waiting ≠ []) :
    handCut n q s = { s with hand := { s.hand with waiting := s.hand.waiting ++ [(n, q)] } } := by
  rw [handCut, if_neg mode, if_pos ⟨by simpa [State.ganged] using ganged, busy⟩]
  rfl

theorem handCut_begins (mode : s.effMode n ≠ 0) (free : s.par .handoffGanged = 1 →
    (s.hand.channels.get .lane0).state = .idle ∧ s.hand.waiting = []) : handCut n q s = beginCycle (s.channelOf n) n q s := by
  rw [handCut, if_neg mode, if_neg]
  rintro ⟨ganged, busy⟩
  obtain ⟨idle, none_⟩ := free (by simpa [State.ganged] using ganged)
  exact busy.elim (fun h => h idle) fun h => h none_

/-- Handed on in a mode with a handoff, the context may become DELIVERING, and no more of the lists changes. -/
theorem handCut_lists (mode : s.effMode n ≠ 0) :
    ((handCut n q s).lists = s.lists ∨ (handCut n q s).lists = (s.onCtx n q deliveringCtx).lists)
    ∧ (handCut n q s).reader = s.reader ∧ (handCut n q s).motion = s.motion := by
  by_cases waits : s.par .handoffGanged = 1 ∧ ((s.hand.channels.get .lane0).state ≠ .idle ∨ s.hand.waiting ≠ [])
  · rw [handCut_waits mode waits.1 waits.2]
    exact ⟨.inl rfl, rfl, rfl⟩
  · rw [handCut_begins mode fun ganged => by
      obtain ⟨idle, none_⟩ := not_or.mp (not_and.mp waits ganged)
      exact ⟨not_not.mp idle, not_not.mp none_⟩]
    exact ⟨(beginCycle_effect _ n q s).2, by simp, by simp⟩

theorem makeDone_missing (missing : s.ctx? n q = none) : makeDone n q s = s := by
  simp only [makeDone, missing]

end

/-! ## What a cut recorded in one lane leaves of the others -/

/-- The Reader is not STALLED, so that no panel DONE has it go on. -/
def Going (s : State) : Prop := ∀ p i k, s.reader ≠ .stalled p i k

/-- From s to t a lane's contexts stand, others having joined them at most; with no panel DONE before a STALLED Reader none has. -/
structure LaneStands (n : Lane) (s t : State) : Prop where
  ctx : ∀ q c, s.ctx? n q = some c → t.ctx? n q = some c
  line : s.motion.line ≠ .idle → t.motion.line ≠ .idle

theorem handCut_stands {n k : Lane} (other : n ≠ k) (q : Source) (s : State) : LaneStands n s (handCut k q s)
    ∧ (s.effMode k ≠ 0 ∨ Going s → (handCut k q s).lists.get n = s.lists.get n ∧ (handCut k q s).reader = s.reader) := by
  by_cases mode : s.effMode k = 0
  · rw [handCut_done mode]
    cases found : s.ctx? k q with
    | none =>
      rw [makeDone_missing found]
      exact ⟨⟨fun _ _ => id, id⟩, fun _ => ⟨rfl, rfl⟩⟩
    | some c =>
      have grows := makeDone_grows found
      refine ⟨⟨fun p d stood => (makeDone_others found (fun same => other (Prod.mk.inj same).1)).1 d stood, grows.line⟩, fun going => ?_⟩
      have still := going.resolve_left fun handed => handed mode
      rw [makeDone_found found, resumeStalled_other (by exact still)]
      simp only [examineJobEnd_frame]
      exact ⟨Lanes.get_set_ne _ _ _ _ other, rfl⟩
  · obtain ⟨lists, reader, motion⟩ := handCut_lists (q := q) mode
    have same : (handCut k q s).lists.get n = s.lists.get n := by
      rcases lists with lists | lists
      · rw [lists]
      · rw [lists, onCtx_eq]
        exact Lanes.get_set_ne _ _ _ _ other
    refine ⟨⟨fun p d stood => ?_, by rw [motion]; exact id⟩, fun _ => ⟨same, reader⟩⟩
    rw [ctx?_eq, same]
    exact stood

theorem effMode_congr {s t : State} (params : t.params = s.params) (n : Lane) : t.effMode n = s.effMode n := by
  simp only [State.effMode, State.channelOf, State.ganged, State.par, params] <;> rfl

theorem recordCut_stands {n k : Lane} (other : n ≠ k) (x : Int) (parts : Lanes (Option LanePart)) (s : State) :
    LaneStands n s (recordCut x parts k s)
    ∧ (s.effMode k ≠ 0 ∨ Going s →
      (recordCut x parts k s).lists.get n = s.lists.get n ∧ (recordCut x parts k s).reader = s.reader) := by
  have noted (p : LanePart) : (notedCut x p k s).lists.get n = s.lists.get n := Lanes.get_set_ne _ _ _ _ other
  have notedCtx (p : LanePart) (q : Source) : (notedCut x p k s).ctx? n q = s.ctx? n q := by
    rw [ctx?_eq, noted p]
    rfl
  cases part : parts.get k with
  | none =>
    rw [recordCut_none part]
    exact ⟨⟨fun _ _ => id, id⟩, fun _ => ⟨rfl, rfl⟩⟩
  | some p =>
    obtain ⟨starts, ends⟩ := recordCut_part (x := x) (s := s) part
    cases end_ : p.ends with
    | none =>
      rw [starts end_]
      exact ⟨⟨fun q c stood => (notedCtx p q).trans stood, id⟩, fun _ => ⟨noted p, rfl⟩⟩
    | some q =>
      obtain ⟨stands, same⟩ := handCut_stands other q (notedCut x p k s)
      rw [ends q end_]
      refine ⟨⟨fun r c stood => stands.ctx r c ((notedCtx p r).trans stood), stands.line⟩, fun going => ?_⟩
      obtain ⟨lists, reader⟩ := same going
      exact ⟨lists.trans (noted p), reader⟩

end Sys2Proof.Machine
end

section
/-! PROOFS. The cut recorded lane by lane (R84, R172, R174, R177). -/
namespace Sys2Proof.Machine

/-! ## The lane in which the cut is recorded -/

section
variable {parts : Lanes (Option LanePart)} {n : Lane} {p : LanePart} {q : Source} {x : Int} {s : State}

theorem notedCut_effMode (x : Int) (p : LanePart) (n : Lane) (s : State) (k : Lane) : (notedCut x p n s).effMode k = s.effMode k :=
  effMode_congr rfl k

/-- A context that stands afterwards has its actuals, and may be DELIVERING. -/
theorem recordCut_ctx (part : parts.get n = some p) (going : s.effMode n ≠ 0 ∨ Going s) {c : Ctx}
    (found : (recordCut x parts n s).ctx? n q = some c) :
    ∃ d, d.src = q ∧ (c = noteCut x p d ∨ c = deliveringCtx (noteCut x p d)) := by
  have noted {c : Ctx} (found : (notedCut x p n s).ctx? n q = some c) : ∃ d, d.src = q ∧ c = noteCut x p d := by
    rw [notedCut_ctx] at found
    obtain ⟨d, before, same⟩ := Option.map_eq_some_iff.mp found
    exact ⟨d, ctx?_src before, same.symm⟩
  have noted' (found : (notedCut x p n s).ctx? n q = some c) :
      ∃ d, d.src = q ∧ (c = noteCut x p d ∨ c = deliveringCtx (noteCut x p d)) := by
    obtain ⟨d, src, same⟩ := noted found
    exact ⟨d, src, .inl same⟩
  obtain ⟨starts, ends⟩ := recordCut_part (x := x) (s := s) part
  cases end_ : p.ends with
  | none =>
    rw [starts end_] at found
    exact noted' found
  | some r =>
    rw [ends r end_] at found
    have params := notedCut_effMode x p n s n
    by_cases mode : s.effMode n = 0
    · rw [handCut_done (params.trans mode)] at found
      have still := going.resolve_left fun handed => handed mode
      cases before : (notedCut x p n s).ctx? n r with
      | none =>
        rw [makeDone_missing before] at found
        exact noted' found
      | some d =>
        by_cases same : q = r
        · rw [same, makeDone_gone before (by exact still)] at found
          contradiction
        · cases stood : (notedCut x p n s).ctx? n q with
          | some a =>
            rw [(makeDone_others before (m := n) (p := q) (fun h => same (Prod.mk.inj h).2)).1 a stood] at found
            exact noted' (stood.trans found)
          | none =>
            rw [makeDone_found before, resumeStalled_other (by exact still),
              ctx?_of_lists (s := reportedDone n r d (notedCut x p n s)) (by simp) n q,
              reportedDone_ctx_ne (fun h => same (Prod.mk.inj h).2), stood] at found
            contradiction
    · obtain ⟨lists, -⟩ := handCut_lists (q := r) (s := notedCut x p n s) fun zero => mode (params.symm.trans zero)
      rcases lists with lists | lists
      · rw [ctx?_of_lists lists] at found
        exact noted' found
      · rw [ctx?_of_lists lists] at found
        by_cases same : q = r
        · rw [same, ctx?_onCtx_same deliveringCtx_src, ← same] at found
          obtain ⟨d, before, delivers⟩ := Option.map_eq_some_iff.mp found
          obtain ⟨a, src, note⟩ := noted before
          exact ⟨a, src, .inr (by rw [← delivers, note])⟩
        · rw [ctx?_onCtx_ne same deliveringCtx_src] at found
          exact noted' found

/-- In mode NONE the panel that ended is gone. -/
theorem recordCut_gone (part : parts.get n = some p) (ends : p.ends = some q) (mode : s.effMode n = 0) (still : Going s) :
    (recordCut x parts n s).ctx? n q = none := by
  rw [(recordCut_part part).2 q ends, handCut_done ((notedCut_effMode x p n s n).trans mode)]
  cases found : (notedCut x p n s).ctx? n q with
  | none => rw [makeDone_missing found, found]
  | some c => exact makeDone_gone found (by exact still)

/-- Where no panel ends, and in mode NONE, the channels stand. -/
theorem recordCut_hand (idle : (∀ q, (parts.get n).bind LanePart.ends ≠ some q) ∨ s.effMode n = 0) :
    (recordCut x parts n s).hand = s.hand := by
  cases part : parts.get n with
  | none => rw [recordCut_none part]
  | some p =>
    obtain ⟨starts, ends⟩ := recordCut_part (x := x) (s := s) part
    cases end_ : p.ends with
    | none =>
      rw [starts end_]
      rfl
    | some q =>
      have mode : s.effMode n = 0 := idle.resolve_left fun none_ => none_ q (by rw [part]; exact end_)
      rw [ends q end_, handCut_done ((notedCut_effMode x p n s n).trans mode), (makeDone_frame n q _).2.2.2.2.2.2.2.2.2.1]
      rfl

/-- The cycle of the panel that ended begins. -/
theorem recordCut_begins (ends : (parts.get n).bind LanePart.ends = some q) (mode : s.effMode n ≠ 0)
    (free : s.par .handoffGanged = 1 → (s.hand.channels.get .lane0).state = .idle ∧ s.hand.waiting = []) :
    let ch := s.channelOf n
    let begun := begunChannel ch n q (rejectOf (s.ctx? n q)) s
    (recordCut x parts n s).hand = { s.hand with channels := s.hand.channels.set ch begun } := by
  obtain ⟨p, part, end_⟩ := Option.bind_eq_some_iff.mp ends
  have reject : rejectOf ((notedCut x p n s).ctx? n q) = rejectOf (s.ctx? n q) := by
    rw [notedCut_ctx]
    cases s.ctx? n q with
    | none => rfl
    | some c => rw [Option.map_some, rejectOf, noteCut_reasons, rejectOf]
  rw [(recordCut_part part).2 q end_, handCut_begins (s := notedCut x p n s) (fun zero => mode ((notedCut_effMode x p n s n).symm.trans zero))
    (by exact free), (beginCycle_effect _ n q _).1, reject, begunChannel_congr (s := s) (t := notedCut x p n s) rfl]
  rfl

/-- The panel that ended joins the wait list. -/
theorem recordCut_waits (ends : (parts.get n).bind LanePart.ends = some q) (mode : s.effMode n ≠ 0) (ganged : s.par .handoffGanged = 1)
    (busy : (s.hand.channels.get .lane0).state ≠ .idle ∨ s.hand.waiting ≠ []) :
    (recordCut x parts n s).hand = { s.hand with waiting := s.hand.waiting ++ [(n, q)] } := by
  obtain ⟨p, part, end_⟩ := Option.bind_eq_some_iff.mp ends
  rw [(recordCut_part part).2 q end_, handCut_waits (s := notedCut x p n s) (fun zero => mode ((notedCut_effMode x p n s n).symm.trans zero))
    (by exact ganged) (by exact busy)]
  rfl

end

/-! ## The lanes in turn -/

/-- The cut recorded in several lanes. -/
def cutLanes (x : Int) (parts : Lanes (Option LanePart)) (ls : List Lane) (s : State) : State :=
  ls.foldl (fun s n => recordCut x parts n s) s

theorem forLanes_recordCut (x : Int) (parts : Lanes (Option LanePart)) (s : State) :
    forLanes (recordCut x parts) s = cutLanes x parts laneList s := rfl

theorem cutLanes_append (x : Int) (parts : Lanes (Option LanePart)) (a b : List Lane) (s : State) :
    cutLanes x parts (a ++ b) s = cutLanes x parts b (cutLanes x parts a s) := List.foldl_append

theorem cutLanes_frame (x : Int) (parts : Lanes (Option LanePart)) (ls : List Lane) (s : State) :
    (cutLanes x parts ls s).web = s.web ∧ (cutLanes x parts ls s).params = s.params ∧ (cutLanes x parts ls s).pins = s.pins
    ∧ (cutLanes x parts ls s).zones = s.zones ∧ (cutLanes x parts ls s).pending = s.pending
    ∧ (cutLanes x parts ls s).cuts = s.cuts := by
  induction ls generalizing s with
  | nil => exact ⟨rfl, rfl, rfl, rfl, rfl, rfl⟩
  | cons n ls ih =>
    obtain ⟨web, params, pins, zones, pending, cuts⟩ := ih (recordCut x parts n s)
    rw [cutLanes, List.foldl_cons, ← cutLanes, web, params, pins, zones, pending, cuts]
    simp

theorem cutLanes_line (x : Int) (parts : Lanes (Option LanePart)) (ls : List Lane) {s : State} (busy : s.motion.line ≠ .idle) :
    (cutLanes x parts ls s).motion.line ≠ .idle := by
  induction ls generalizing s with
  | nil => exact busy
  | cons n ls ih =>
    obtain ⟨m, other⟩ : ∃ m : Lane, m ≠ n := by
      cases n
      · exact ⟨.lane1, by decide⟩
      all_goals exact ⟨.lane0, by decide⟩
    exact ih ((recordCut_stands other x parts s).1.line busy)

/-- What the lanes recorded leave of another. -/
theorem cutLanes_apart {n : Lane} {ls : List Lane} (apart : n ∉ ls) (x : Int) (parts : Lanes (Option LanePart)) (s : State) :
    (∀ q c, s.ctx? n q = some c → (cutLanes x parts ls s).ctx? n q = some c)
    ∧ ((∀ k, s.effMode k ≠ 0) ∨ Going s → (cutLanes x parts ls s).lists.get n = s.lists.get n) := by
  induction ls generalizing s with
  | nil => exact ⟨fun _ _ => id, fun _ => rfl⟩
  | cons k ls ih =>
    obtain ⟨other, apart⟩ := not_or.mp fun member => apart (List.mem_cons.mpr member)
    obtain ⟨stands, same⟩ := recordCut_stands other x parts s
    obtain ⟨ctx, lists⟩ := ih apart (recordCut x parts k s)
    refine ⟨fun q c stood => ctx q c (stands.ctx q c stood), fun going => ?_⟩
    obtain ⟨first, reader⟩ := same (going.imp (fun modes => modes k) id)
    refine (lists ?_).trans first
    refine going.imp (fun modes m => ?_) fun still => ?_
    · rw [effMode_congr (s := s) (by simp)]
      exact modes m
    · rw [Going, reader]
      exact still

/-- The Reader and the modes, as far as DONE depends on them, stand. -/
theorem cutLanes_going (x : Int) (parts : Lanes (Option LanePart)) (ls : List Lane) {s : State} (going : (∀ k, s.effMode k ≠ 0) ∨ Going s) :
    (∀ k, (cutLanes x parts ls s).effMode k ≠ 0) ∨ Going (cutLanes x parts ls s) := by
  induction ls generalizing s with
  | nil => exact going
  | cons n ls ih =>
    obtain ⟨m, other⟩ : ∃ m : Lane, m ≠ n := by
      cases n
      · exact ⟨.lane1, by decide⟩
      all_goals exact ⟨.lane0, by decide⟩
    obtain ⟨-, reader⟩ := (recordCut_stands other x parts s).2 (going.imp (fun modes => modes n) id)
    refine ih (going.imp (fun modes k => ?_) fun still => ?_)
    · rw [effMode_congr (s := s) (by simp)]
      exact modes k
    · rw [Going, reader]
      exact still

/-! ## The channels of lanes not ganged (R172) -/

theorem recordCut_plain {n k : Lane} {s : State} (plain : s.par .handoffGanged ≠ 1) (x : Int) (parts : Lanes (Option LanePart)) :
    (recordCut x parts k s).hand.waiting = s.hand.waiting
    ∧ (n ≠ k → (recordCut x parts k s).hand.channels.get n = s.hand.channels.get n) := by
  by_cases idle : (∀ q, (parts.get k).bind LanePart.ends ≠ some q) ∨ s.effMode k = 0
  · rw [recordCut_hand idle]
    exact ⟨rfl, fun _ => rfl⟩
  · obtain ⟨ended, mode⟩ := not_or.mp idle
    obtain ⟨q, ends⟩ := not_forall_not.mp ended
    have own : s.channelOf k = k := if_neg (by simpa [State.ganged] using plain)
    rw [recordCut_begins ends mode fun ganged => absurd ganged plain, own]
    exact ⟨rfl, fun other => Lanes.get_set_ne _ _ _ _ other⟩

theorem cutLanes_plain {n : Lane} {s : State} (plain : s.par .handoffGanged ≠ 1) (ls : List Lane) (x : Int)
    (parts : Lanes (Option LanePart)) : (cutLanes x parts ls s).hand.waiting = s.hand.waiting
    ∧ (n ∉ ls → (cutLanes x parts ls s).hand.channels.get n = s.hand.channels.get n) := by
  induction ls generalizing s with
  | nil => exact ⟨rfl, fun _ => rfl⟩
  | cons k ls ih =>
    have par : (recordCut x parts k s).par .handoffGanged = s.par .handoffGanged := by simp [State.par]
    obtain ⟨waiting, channel⟩ := recordCut_plain (n := n) (k := k) plain x parts
    obtain ⟨waiting', channel'⟩ := ih (s := recordCut x parts k s) (by rw [par]; exact plain)
    refine ⟨waiting'.trans waiting, fun apart => ?_⟩
    obtain ⟨other, apart⟩ := not_or.mp fun member => apart (List.mem_cons.mpr member)
    exact (channel' apart).trans (channel other)

/-! ## The wait list of ganged mode (R177) -/

/-- The panels an entry ends, in lane order (R177). -/
def endedIn (parts : Lanes (Option LanePart)) (ls : List Lane) : List (Lane × Source) :=
  ls.filterMap fun n => ((parts.get n).bind LanePart.ends).map fun q => (n, q)

theorem endedIn_cons_none {parts : Lanes (Option LanePart)} {n : Lane} (none_ : (parts.get n).bind LanePart.ends = none)
    (ls : List Lane) : endedIn parts (n :: ls) = endedIn parts ls := by
  simp only [endedIn, List.filterMap_cons, none_, Option.map_none]

theorem endedIn_cons_some {parts : Lanes (Option LanePart)} {n : Lane} {q : Source} (ends : (parts.get n).bind LanePart.ends = some q)
    (ls : List Lane) : endedIn parts (n :: ls) = (n, q) :: endedIn parts ls := by
  simp only [endedIn, List.filterMap_cons, ends, Option.map_some]

theorem mem_endedIn {parts : Lanes (Option LanePart)} {n : Lane} {q : Source} :
    (n, q) ∈ endedIn parts laneList ↔ (parts.get n).bind LanePart.ends = some q := by
  simp only [endedIn, List.mem_filterMap, Option.map_eq_some_iff, Prod.mk.injEq]
  constructor
  · rintro ⟨m, -, r, ends, rfl, rfl⟩
    exact ends
  · exact fun ends => ⟨n, by cases n <;> decide, q, ends, rfl, rfl⟩

theorem begunChannel_state (ch n : Lane) (q : Source) (reject : Bool) (s : State) : (begunChannel ch n q reject s).state ≠ .idle := by
  unfold begunChannel
  split
  · simp
  · split
    · simp
    · simp

/-- With the channel taken or contexts waiting, the panels join the wait list. -/
theorem cutLanes_waits {s : State} (ganged : s.par .handoffGanged = 1) (modes : ∀ k, s.effMode k ≠ 0)
    (busy : (s.hand.channels.get .lane0).state ≠ .idle ∨ s.hand.waiting ≠ []) (ls : List Lane) (x : Int)
    (parts : Lanes (Option LanePart)) :
    (cutLanes x parts ls s).hand = { s.hand with waiting := s.hand.waiting ++ endedIn parts ls } := by
  induction ls generalizing s with
  | nil => rw [show endedIn parts [] = [] from rfl, List.append_nil]; rfl
  | cons n ls ih =>
    have params : (recordCut x parts n s).params = s.params := by simp
    have par : (recordCut x parts n s).par .handoffGanged = s.par .handoffGanged := by rw [State.par, params, ← State.par]
    have rest := ih (s := recordCut x parts n s) (par.trans ganged) fun k => by
      rw [effMode_congr params]
      exact modes k
    change (cutLanes x parts ls (recordCut x parts n s)).hand = _
    cases ends : (parts.get n).bind LanePart.ends with
    | none =>
      have same : (recordCut x parts n s).hand = s.hand := recordCut_hand (.inl fun q h => by rw [ends] at h; contradiction)
      rw [rest (by rw [same]; exact busy), same, endedIn_cons_none ends]
    | some q =>
      have joined := recordCut_waits (x := x) ends (modes n) ganged busy
      rw [rest (by rw [joined]; exact .inr (by simp)), joined, endedIn_cons_some ends, List.append_assoc]
      rfl

/-- A free channel takes the first of them, and the others wait. -/
theorem cutLanes_takes {s : State} (ganged : s.par .handoffGanged = 1) (modes : ∀ k, s.effMode k ≠ 0)
    (idle : (s.hand.channels.get .lane0).state = .idle) (empty : s.hand.waiting = []) {ls : List Lane} (distinct : ls.Nodup) (x : Int)
    (parts : Lanes (Option LanePart)) {n : Lane} {q : Source} {w : List (Lane × Source)} (ended : endedIn parts ls = (n, q) :: w)
    {c : Ctx} (found : s.ctx? n q = some c) : (cutLanes x parts ls s).hand
      = ⟨s.hand.channels.set .lane0 (begunChannel .lane0 n q c.reasons.any s), w⟩ := by
  induction ls generalizing s with
  | nil => contradiction
  | cons k ls ih =>
    have params : (recordCut x parts k s).params = s.params := by simp
    have par : (recordCut x parts k s).par .handoffGanged = s.par .handoffGanged := by rw [State.par, params, ← State.par]
    have modes' (m : Lane) : (recordCut x parts k s).effMode m ≠ 0 := by
      rw [effMode_congr params]
      exact modes m
    obtain ⟨fresh, distinct⟩ := List.nodup_cons.mp distinct
    change (cutLanes x parts ls (recordCut x parts k s)).hand = _
    cases ends : (parts.get k).bind LanePart.ends with
    | none =>
      have same : (recordCut x parts k s).hand = s.hand := recordCut_hand (.inl fun q h => by rw [ends] at h; contradiction)
      rw [endedIn_cons_none ends] at ended
      have member : n ∈ ls := by
        obtain ⟨m, inside, pair⟩ := List.mem_filterMap.mp (show (n, q) ∈ endedIn parts ls by rw [ended]; exact List.mem_cons_self)
        obtain ⟨r, -, pair⟩ := Option.map_eq_some_iff.mp pair
        rw [← (Prod.mk.inj pair).1]
        exact inside
      have other : n ≠ k := fun h => fresh (h ▸ member)
      rw [ih (par.trans ganged) modes' (by rw [same]; exact idle) (by rw [same]; exact empty) distinct ended
        ((recordCut_stands other x parts s).1.ctx q c found), same, begunChannel_congr params]
    | some r =>
      rw [endedIn_cons_some ends] at ended
      obtain ⟨pair, rest⟩ := List.cons.inj ended
      obtain ⟨rfl, rfl⟩ := Prod.mk.inj pair
      have own : s.channelOf k = .lane0 := if_pos (by simpa [State.ganged] using ganged)
      have begun := recordCut_begins (x := x) ends (modes k) fun _ => ⟨idle, empty⟩
      rw [own, found, show rejectOf (some c) = c.reasons.any from rfl] at begun
      rw [cutLanes_waits (par.trans ganged) modes' (.inl (by
        rw [begun]
        dsimp only
        rw [Lanes.get_set_same]
        exact begunChannel_state _ _ _ _ _)) ls x parts, begun, rest, empty]
      rfl

/-- Where no panel ends, and in mode NONE, the handoff stands. -/
theorem cutLanes_hand {s : State} {ls : List Lane} {parts : Lanes (Option LanePart)}
    (idle : endedIn parts ls = [] ∨ ∀ k, s.effMode k = 0) (x : Int) : (cutLanes x parts ls s).hand = s.hand := by
  induction ls generalizing s with
  | nil => rfl
  | cons n ls ih =>
    have params : (recordCut x parts n s).params = s.params := by simp
    have own : (∀ q, (parts.get n).bind LanePart.ends ≠ some q) ∨ s.effMode n = 0 := idle.imp (fun none_ q ends => by
      rw [endedIn_cons_some ends] at none_
      contradiction) fun modes => modes n
    refine (ih (s := recordCut x parts n s) (idle.imp (fun none_ => ?_) fun modes k => ?_)).trans (recordCut_hand own)
    · cases ends : (parts.get n).bind LanePart.ends with
      | none => rwa [endedIn_cons_none ends] at none_
      | some q =>
        rw [endedIn_cons_some ends] at none_
        contradiction
    · rw [effMode_congr params]
      exact modes k

end Sys2Proof.Machine
end

section
/-! PROOFS. O24: the END of a traverse (R84, R116, R172, R174, R177). -/
namespace Sys2Proof.Machine

/-! ## The END of a traverse (R116) -/

/-- The knife's lines and its timer dropped. -/
def knifeDropped (s : State) : State :=
  { s with cuts := { s.cuts with cutTimer := none, knifeStart := false, knifeLanes := ⟨false, false, false, false⟩ } }

/-- The cut recorded in every lane. -/
def cutRecorded (e : Entry) (s : State) : State := cutLanes s.outPos e.parts laneList (knifeDropped s)

/-- A panel that ended with PAUSE_AFTER pauses the line. -/
def cutPaused (e : Entry) (s : State) : State := if s.pauses e = true then raiseHold .planPause (cutRecorded e s) else cutRecorded e s

theorem takeEnd_eq (e : Entry) (s : State) : takeEnd e s = examineJobEnd ((cutPaused e s).onCuts fun c =>
    { c with entries := c.entries.filter fun a => a.order != e.order }) := rfl

theorem takeEnd_recorded (e : Entry) (s : State) :
    (takeEnd e s).lists = (cutRecorded e s).lists ∧ (takeEnd e s).hand = (cutRecorded e s).hand
    ∧ (takeEnd e s).cuts = { (cutRecorded e s).cuts with
        entries := (cutRecorded e s).cuts.entries.filter fun a => a.order != e.order } := by
  have paused : (cutPaused e s).lists = (cutRecorded e s).lists ∧ (cutPaused e s).hand = (cutRecorded e s).hand
      ∧ (cutPaused e s).cuts = (cutRecorded e s).cuts := by
    unfold cutPaused
    split <;> simp
  obtain ⟨lists, hand, cuts⟩ := paused
  rw [takeEnd_eq]
  simp only [examineJobEnd_frame, State.onCuts, lists, hand, cuts, and_self]

theorem exec_traverseEnd {e : Entry} {r : List Entry} {s : State} (queue : s.cuts.entries = e :: r) (cutting : e.status = .cutting) :
    exec .traverseEnd s = .next (startTx (settleAll s (takeEnd e s))) := by
  have taken : traverseEnd s = settleAll s (takeEnd e s) := by
    rw [traverseEnd, headEntry_eq_some.mpr ⟨r, queue⟩]
    exact if_pos cutting
  exact congrArg (fun t => Host.Outcome.next (startTx t)) taken

/-- The entry that was cut leaves the queue, and no other. -/
theorem filter_head {e : Entry} {r : List Entry} (unique : ((e :: r).map Entry.order).Nodup) :
    (e :: r).filter (fun a => a.order != e.order) = r := by
  obtain ⟨fresh, -⟩ := List.nodup_cons.mp unique
  rw [List.filter_cons_of_neg (by simp), List.filter_eq_self]
  intro a member
  exact bne_iff_ne.mpr fun same => fresh (same ▸ List.mem_map_of_mem member)

/-- A hold reason stands as the job end is examined (R152). -/
theorem examineJobEnd_holds {r : HoldReason} {s : State} (has : s.motion.holds.has r = true) :
    (examineJobEnd s).motion.holds.has r = true := by
  have enters : (enterHolding (s.onMotion fun m => { m with jobEnd := true })).motion.holds.has r = true := by
    obtain ⟨h, motion, kept⟩ := enterHolding_holding (s.onMotion fun m => { m with jobEnd := true })
    rw [motion]
    exact kept r has
  unfold examineJobEnd
  split
  · unfold signalJobEnd
    split
    · exact has
    · exact enters
    · exact enters
    · exact enters
    all_goals exact has
  · exact has

/-- The lanes around one. -/
theorem laneList_around (n : Lane) : ∃ a b, laneList = a ++ n :: b ∧ n ∉ a ∧ n ∉ b := by
  cases n
  · exact ⟨[], [.lane1, .lane2, .lane3], rfl, by decide, by decide⟩
  · exact ⟨[.lane0], [.lane2, .lane3], rfl, by decide, by decide⟩
  · exact ⟨[.lane0, .lane1], [.lane3], rfl, by decide, by decide⟩
  · exact ⟨[.lane0, .lane1, .lane2], [], rfl, by decide, by decide⟩

theorem knifeDropped_effMode (s : State) (n : Lane) : (knifeDropped s).effMode n = s.effMode n := effMode_congr rfl n

/-- The contexts of a lane in which the cut is recorded. -/
theorem cutRecorded_lane {e : Entry} {n : Lane} {s : State} (going : (∀ k, s.effMode k ≠ 0) ∨ Going s) :
    ∃ t, (t.effMode n ≠ 0 ∨ Going t) ∧ t.effMode n = s.effMode n
      ∧ ∀ q, (cutRecorded e s).ctx? n q = (recordCut s.outPos e.parts n t).ctx? n q := by
  obtain ⟨a, b, around, -, after⟩ := laneList_around n
  let t := cutLanes s.outPos e.parts a (knifeDropped s)
  have params : t.params = s.params := (cutLanes_frame _ _ a _).2.1
  have goingT := cutLanes_going s.outPos e.parts a (s := knifeDropped s) (going.imp (fun modes k => by
    rw [knifeDropped_effMode]
    exact modes k) id)
  have goingU := cutLanes_going s.outPos e.parts [n] goingT
  refine ⟨t, goingT.imp (fun modes => modes n) id, effMode_congr params n, fun q => ?_⟩
  have split_ : cutRecorded e s = cutLanes s.outPos e.parts b (recordCut s.outPos e.parts n t) := by
    rw [cutRecorded, around, cutLanes_append]
    rfl
  rw [split_, ctx?_eq, (cutLanes_apart after s.outPos e.parts (recordCut s.outPos e.parts n t)).2 goingU]
  rfl

/-- The cut recorded in a lane whose mode has no handoff, with the actuals noted at once. -/
theorem recordCut_noHandoff {x : Int} {parts : Lanes (Option LanePart)} {n : Lane} {p : LanePart} {q : Source} {s : State}
    (part : parts.get n = some p) (ends : p.ends = some q) (mode : s.effMode n = 0) :
    recordCut x parts n s = makeDone n q { s with lists := s.lists.set n ((s.lists.get n).map fun c =>
      let c := if p.starts = some c.src then { c with startActual := some x, startEntry := none } else c
      if c.src = q then { c with endActual := some x, endEntry := none, state := .cut } else c) } := by
  rw [(recordCut_part part).2 q ends, handCut_done ((notedCut_effMode x p n s n).trans mode)]
  refine congrArg (fun f => makeDone n q { s with lists := s.lists.set n ((s.lists.get n).map f) }) (funext fun c => ?_)
  simp only [noteCut, onPart, Option.bind_some, ends, Option.some.injEq, @eq_comm _ q]
  by_cases starts : p.starts = some c.src
  · simp only [starts, if_true]
    rfl
  · simp only [starts, if_false]
    rfl

/-- The channel of a lane that is not ganged, as the cut is recorded in its lane. -/
theorem cutRecorded_channel {e : Entry} {n : Lane} {s : State} (plain : s.par .handoffGanged ≠ 1) :
    ∃ t, t.params = s.params ∧ t.hand.channels.get n = s.hand.channels.get n
      ∧ (∀ q c, s.ctx? n q = some c → t.ctx? n q = some c)
      ∧ (cutRecorded e s).hand.channels.get n = (recordCut s.outPos e.parts n t).hand.channels.get n := by
  obtain ⟨a, b, around, before, after⟩ := laneList_around n
  let t := cutLanes s.outPos e.parts a (knifeDropped s)
  have params : t.params = s.params := (cutLanes_frame _ _ a _).2.1
  have plainU : (recordCut s.outPos e.parts n t).par .handoffGanged ≠ 1 := by
    rw [State.par, show (recordCut s.outPos e.parts n t).params = s.params by simp [params], ← State.par]
    exact plain
  refine ⟨t, params, (cutLanes_plain (s := knifeDropped s) plain a _ _).2 before, (cutLanes_apart before _ _ (knifeDropped s)).1, ?_⟩
  have split_ : cutRecorded e s = cutLanes s.outPos e.parts b (recordCut s.outPos e.parts n t) := by
    rw [cutRecorded, around, cutLanes_append]
    rfl
  rw [split_, (cutLanes_plain plainU b _ _).2 after]

/-- In ganged mode every lane has the mode of lane 0 (R177). -/
theorem effMode_ganged {s : State} (ganged : s.par .handoffGanged = 1) (n : Lane) : s.effMode n = s.effMode .lane0 := by
  have own (k : Lane) : s.channelOf k = .lane0 := if_pos (by simpa [State.ganged] using ganged)
  rw [State.effMode, State.effMode, own, own]

/-- Settles O24: the END of a traverse records the cut. -/
theorem traverseEndRecordsCut : Obligations.TraverseEndRecordsCut := by
  refine ⟨fun e r s law queue cutting => ?_, fun x parts n p q s part ends mode => recordCut_noHandoff part ends mode⟩
  obtain ⟨-, -, unique, -⟩ := law
  obtain ⟨lists, hand, cuts⟩ := takeEnd_recorded e s
  obtain ⟨-, -, -, -, -, cutsR⟩ := cutLanes_frame s.outPos e.parts laneList (knifeDropped s)
  let u := takeEnd e s
  refine ⟨u, exec_traverseEnd queue cutting, ?_, fun busy pauses => ?_, by simp [u], by simp [u], by simp [u], by simp [u],
    by simp [u], fun going n p part => ?_, ?_⟩
  · rw [cuts, show (cutRecorded e s).cuts = (knifeDropped s).cuts from cutsR]
    rw [queue] at unique
    simp only [knifeDropped, queue, filter_head unique]
  · have active : (cutRecorded e s).motion.line ≠ .idle := cutLanes_line _ _ _ (by exact busy)
    have held : (cutPaused e s).motion.holds.has .planPause = true := by
      rw [cutPaused, if_pos pauses]
      exact raiseHold_has .planPause active
    exact examineJobEnd_holds (r := .planPause) (s := (cutPaused e s).onCuts fun c =>
      { c with entries := c.entries.filter fun a => a.order != e.order }) held
  · have going' : (∀ k, s.effMode k ≠ 0) ∨ Going s := going
    obtain ⟨t, goingT, mode, ctx⟩ := cutRecorded_lane (e := e) (n := n) going'
    have found (q : Source) : u.ctx? n q = (recordCut s.outPos e.parts n t).ctx? n q := (ctx?_of_lists lists n q).trans (ctx q)
    refine ⟨fun q c starts stands => ?_, fun q c ends stands => ?_, fun q ends none_ => ?_⟩
    · rw [found] at stands
      obtain ⟨d, src, same⟩ := recordCut_ctx part goingT stands
      obtain ⟨actual, entry⟩ := noteCut_starts (x := s.outPos) (p := p) (c := d) (by rw [src]; exact starts)
      rcases same with rfl | rfl
      · exact ⟨actual, entry⟩
      · exact ⟨actual, entry⟩
    · rw [found] at stands
      obtain ⟨d, src, same⟩ := recordCut_ctx part goingT stands
      obtain ⟨actual, entry, state⟩ := noteCut_ends (x := s.outPos) (p := p) (c := d) (by rw [src]; exact ends)
      rcases same with rfl | rfl
      · exact ⟨actual, entry, .inl state⟩
      · exact ⟨actual, entry, .inr rfl⟩
    · rw [found]
      exact recordCut_gone part ends (mode.trans none_) (goingT.resolve_left fun handed => handed (mode.trans none_))
  · intro begun ended
    have same (ch n : Lane) (q : Source) (reject : Bool) : begun ch n q reject = begunChannel ch n q reject s := by
      cases ch <;> rfl
    have listed : ended = endedIn e.parts laneList := rfl
    refine ⟨fun plain => ⟨?_, fun n => ⟨fun q c member mode found => ?_, fun idle => ?_⟩⟩, fun ganged idle => ?_,
      fun ganged mode => ⟨fun busy => ?_, fun n q c w idle empty first found => ?_⟩⟩
    · rw [hand]
      exact (cutLanes_plain (n := .lane0) (s := knifeDropped s) plain laneList _ _).1
    · obtain ⟨t, params, channel, ctx, now⟩ := cutRecorded_channel (e := e) (n := n) plain
      have plainT : t.par .handoffGanged ≠ 1 := by
        rw [State.par, params, ← State.par]
        exact plain
      have own : t.channelOf n = n := if_neg (by simpa [State.ganged] using plainT)
      have ends := mem_endedIn.mp (listed ▸ member)
      rw [hand, now, recordCut_begins ends (by rw [effMode_congr params]; exact mode) fun ganged => absurd ganged plainT]
      dsimp only
      rw [own, Lanes.get_set_same, ctx q c found, begunChannel_congr params, same]
      rfl
    · obtain ⟨t, params, channel, ctx, now⟩ := cutRecorded_channel (e := e) (n := n) plain
      rw [hand, now, recordCut_hand (idle.imp (fun none_ q ends => none_ q (listed ▸ mem_endedIn.mpr ends)) fun mode =>
        (effMode_congr params n).trans mode), channel]
    · rw [hand]
      refine cutLanes_hand (s := knifeDropped s) ?_ s.outPos
      exact idle.symm.imp id fun mode k => (effMode_ganged (by exact ganged) k).trans mode
    · rw [hand]
      exact cutLanes_waits (s := knifeDropped s) ganged (fun k => (effMode_ganged (by exact ganged) k).trans_ne mode) busy laneList _ _
    · rw [hand]
      exact cutLanes_takes (s := knifeDropped s) ganged (fun k => (effMode_ganged (by exact ganged) k).trans_ne mode) idle empty
        (by decide) _ _ first found

end Sys2Proof.Machine
end

section
/-! PROOFS. O4: hold-back and the ceiling (R4, R6, R41). -/
namespace Sys2Proof.Machine

/-! ## A count absorbed (R4) -/

theorem countForward_absorbed {n d : Nat} {c : Counter} (held : 0 < c.hold) :
    countForward n d c = ({ c with hold := c.hold - 1 }, .absorbed) := if_pos held

theorem forwardCount_absorbed {e : Encoder} {s : State} (held : 0 < (s.web.get e).hold) :
    forwardCount e s = holdCleared s e ((s.web.get e).hold - 1) (s.setCounter e { s.web.get e with hold := (s.web.get e).hold - 1 }) := by
  unfold forwardCount
  rw [countForward_absorbed held]

theorem forwardCount_absorbed_frame {e : Encoder} {s : State} (held : 0 < (s.web.get e).hold) :
    (forwardCount e s).web = s.web.set e { s.web.get e with hold := (s.web.get e).hold - 1 } ∧ (forwardCount e s).params = s.params := by
  rw [forwardCount_absorbed held]
  simp only [holdCleared_frame]
  exact ⟨rfl, rfl⟩

theorem Web.get_set_same (w : Web) (e : Encoder) (c : Counter) : (w.set e c).get e = c := by cases e <;> rfl

/-! ## The edge owed as the hold-back returns to 0 (R41) -/

theorem edgeAfterHold_dark {n : Lane} {s : State} (moved : s.pins.eyeDark.get n ≠ (s.eyes.get n).held)
    (dark : s.pins.eyeDark.get n = true) : edgeAfterHold n s = takeLeading n s := by
  rw [edgeAfterHold, if_neg moved, dark]
  rfl

theorem edgeAfterHold_light {n : Lane} {s : State} (moved : s.pins.eyeDark.get n ≠ (s.eyes.get n).held)
    (light : s.pins.eyeDark.get n ≠ true) : edgeAfterHold n s = takeTrailing n s := by
  rw [edgeAfterHold, if_neg moved, Bool.eq_false_iff.mpr light]
  rfl

/-- Settles O4: hold-back and the ceiling stop counts. -/
theorem holdBackAndCeilingStopCounts : Obligations.HoldBackAndCeilingStopCounts := by
  refine ⟨⟨fun e s held => ?_, fun s one => ?_⟩, fun e s hold moves => ⟨fun past => ?_, fun exact_ => ?_⟩⟩
  · let t := startTx (forwardCount e s)
    obtain ⟨webF, paramsF⟩ := forwardCount_absorbed_frame held
    have web : t.web = s.web.set e { s.web.get e with hold := (s.web.get e).hold - 1 } := by
      rw [← webF]
      simp [t]
    have params : t.params = s.params := by
      rw [← paramsF]
      simp [t]
    refine ⟨t, exec_forwardCount e s, web, fun one room => ⟨_, exec_forwardCount e t, ?_⟩⟩
    have ratio : t.ratio e = s.ratio e := by
      cases e <;> simp only [State.ratio, State.par, params]
    have counter : t.web.get e = { s.web.get e with hold := 0 } := by
      rw [web, Web.get_set_same, one]
    have counted : countForward (t.ratio e).1 (t.ratio e).2 (t.web.get e) = _ :=
      countForward_counted (by rw [counter]) (.inr (by rw [counter, ratio]; exact room))
    rw [(startTx_frame _).1, forwardCount_web_of_counted counted, Web.get_set_same, counter, ratio]
  · intro edge
    have each (n : Lane) (t : State) : edge n t = edgeAfterHold n t := by
      by_cases same : t.pins.eyeDark.get n = (t.eyes.get n).held
      · rw [show edge n t = t from if_pos same, edgeAfterHold, if_pos same]
      · by_cases dark : t.pins.eyeDark.get n = true
        · rw [edgeAfterHold_dark same dark]
          have open_ : edge n t = match (t.eyes.get n).decode with
              | .watching => { t with eyes := t.eyes.set n { t.eyes.get n with
                decode := if t.codedFormat n t.beamPos then .inCode t.beamPos false [] (t.pins.inspect.get n)
                  else .inBar t.beamPos (t.pins.inspect.get n) } }
              | .off | .clearing | .inBar _ _ | .inCode _ _ _ _ => t := (if_neg same).trans (if_pos dark)
          rw [open_]
          cases decode : (t.eyes.get n).decode with
          | watching => exact (takeLeading_watching decode).symm
          | _ => exact (takeLeading_other (by rw [decode]; simp)).symm
        · rw [edgeAfterHold_light same dark]
          let put (d : Decode) : State := { t with eyes := t.eyes.set n { t.eyes.get n with decode := d } }
          have open_ : edge n t = match (t.eyes.get n).decode with
              | .off | .watching => t
              | .clearing => put .watching
              | .inBar m i =>
                  if t.beamPos - m ≤ t.par .barShortMax then placeMark n ⟨m, false, .pitch, none, i⟩ (put .watching)
                  else if t.par .barLongMin ≤ t.beamPos - m then placeMark n ⟨m, false, .start, none, i⟩ (put .watching)
                  else { put .watching with link := linkEvent t.link (.markNotice .malformed n m) }
              | .inCode m g cells i => if g = false ∧ t.beamPos ≤ m + t.par .barShortMax then put (.inCode m true cells i) else t :=
            (if_neg same).trans (if_neg dark)
          rw [open_]
          cases decode : (t.eyes.get n).decode with
          | off => exact (takeTrailing_other (.inl decode)).symm
          | watching => exact (takeTrailing_other (.inr decode)).symm
          | clearing => exact (takeTrailing_clearing decode).symm
          | inBar m i => exact (takeTrailing_inBar decode).symm
          | inCode m g cells i => exact (takeTrailing_inCode decode).symm
    rw [exec_forwardCount, forwardCount_absorbed (e := .outfeed) (by rw [show s.web.get .outfeed = s.web.outfeed from rfl, one]; decide)]
    rw [each, each, each, each, show (s.web.get .outfeed).hold - 1 = 0 by rw [show s.web.get .outfeed = s.web.outfeed from rfl, one]]
    rfl
  · refine ⟨_, exec_forwardCount e s, ?_⟩
    have taken : forwardCount e s = settle s (raiseTrip .coordLimit s) := by
      unfold forwardCount
      rw [countForward_discarded hold moves past]
    rw [taken]
    refine ⟨by simp, fun idle => ?_, fun busy => ?_⟩
    · rw [(startTx_frame _).2.2.2.2.2.2.2.2.2.2.1]
      exact settle_raiseTrip_idle s _ idle
    · rw [(startTx_frame _).2.2.2.2.2.2.2.2.2.2.1]
      obtain ⟨line, has⟩ := settle_raiseTrip_tripped s .coordLimit busy
      exact ⟨line, has⟩
  · refine ⟨_, exec_forwardCount e s, ?_⟩
    rw [(startTx_frame _).1, forwardCount_web_of_counted (countForward_counted hold (.inr exact_.le)), Web.get_set_same, exact_]

end Sys2Proof.Machine
end
